-- ==== Sys2Proof/Word.lean ====
section
/-!
DEFINITION. The words of the U432 and the numbers that name its lanes, units and slots.
-/
namespace Sys2Proof

/-- A byte of a frame, a descriptor or a data area. -/
abbrev Byte := BitVec 8

/-- A register, request, response or attention slot word (00_scope 4.4). -/
abbrev Word := BitVec 32

/-- A 48-bit address at which a descriptor stands (00_scope 4.4). -/
abbrev Addr48 := BitVec 48

/-- A lane number, 0 to 3. -/
abbrev LaneId := Fin 4

/-- A unit address on its lane, 0 to 31. -/
abbrev UnitAddr := Fin 32

/-- A slot of the context table, 0 to 39. -/
abbrev Slot := Fin 40

end Sys2Proof
end

