-- ==== Sys2Proof/Syntax.lean ====
section
/-!
DEFINITION. The commands of the U432: one constructor of `Instr` for each row of the table of operations and events.
-/
namespace Sys2Proof

/-- The reason an ATTN frame carries (R77). -/
inductive AttnReason where
  | reconnect
  | free
  | unsolicited
  deriving DecidableEq, Repr

/-- A response on the memory port's bus (R143). -/
inductive BusResp where
  | okay
  | exokay
  | slverr
  | decerr
  deriving DecidableEq, Repr

/-- The checks of a received frame, in the order the receiver makes them (R80). -/
inductive FrameCheck where
  | framing
  | completeness
  | kind
  | length
  | address
  | crc
  | payload
  deriving DecidableEq, Repr

/-- The commands: register writes, the handler's taking of each request, events of time, of the lane wire and of the
memory port, and the resets. A register write carries the value written and its four byte strobes (R30). The eleven
commands of the request handler carry no operand: the request is the head of the request FIFO (R33). -/
inductive Instr where
  /-- PIN_RESET (R53). -/
  | pinReset
  /-- RQGO_SUBMIT (R32). -/
  | rqgoSubmit (value : Word) (strobes : BitVec 4)
  /-- RSNEXT_POP (R34). -/
  | rsnextPop (value : Word) (strobes : BitVec 4)
  /-- INTS_WRITE (R50). -/
  | intsWrite (value : Word) (strobes : BitVec 4)
  /-- INTE_WRITE (R51). -/
  | inteWrite (value : Word) (strobes : BitVec 4)
  /-- PRST_WRITE (R52). -/
  | prstWrite (value : Word) (strobes : BitVec 4)
  /-- TBDIV_WRITE (R54). -/
  | tbdivWrite (value : Word) (strobes : BitVec 4)
  /-- REGISTER_WRITE (R30), at a byte offset of the window. -/
  | registerWrite (offset : BitVec 7) (value : Word) (strobes : BitVec 4)
  /-- SOFT_RESET_COMPLETE (R52). -/
  | softResetComplete
  /-- OPEN (R37). -/
  | openUnit
  /-- CLOSE (R38). -/
  | closeUnit
  /-- START (R39). -/
  | startChain
  /-- HALT (R40). -/
  | haltUnit
  /-- PROBE (R42). -/
  | probeUnit
  /-- COLLECT (R43). -/
  | collectReport
  /-- LANE (R44). -/
  | laneControl
  /-- RESET_LANE (R47). -/
  | resetLane
  /-- POLICY (R48). -/
  | setPolicy
  /-- LANE_STATUS (R49). -/
  | laneStatus
  /-- UNKNOWN_REQUEST (R35). -/
  | unknownRequest
  /-- TIMEBASE_TICK (R54). -/
  | timebaseTick
  /-- DETACH_TIMER_EXPIRY (R22), of the timer of a slot. -/
  | detachTimerExpiry (slot : Slot)
  /-- LEDGER_RECORD_EXPIRY (R128). -/
  | ledgerRecordExpiry
  /-- RESPONSE_TIMEOUT (R93). -/
  | responseTimeout (lane : LaneId)
  /-- BREAK_SPACE_END (R76). -/
  | breakSpaceEnd (lane : LaneId)
  /-- BREAK_RECOVERY_END (R94). -/
  | breakRecoveryEnd (lane : LaneId)
  /-- ATTENTION_LINE_CHANGE (R99): the filtered level becomes asserted (low) or deasserted. -/
  | attentionLineChange (lane : LaneId) (asserted : Bool)
  /-- FRAME_MALFORMED (R80): the first check that failed, and whether the length byte was above 16. -/
  | frameMalformed (lane : LaneId) (check : FrameCheck) (lengthAbove16 : Bool)
  /-- FRAME_ATTN (R100). -/
  | frameAttn (lane : LaneId) (addr : UnitAddr) (reason : AttnReason) (status : Byte)
  /-- FRAME_ECHO (R102). -/
  | frameEcho (lane : LaneId) (addr : UnitAddr)
  /-- FRAME_ACPT (R105). -/
  | frameAcpt (lane : LaneId) (addr : UnitAddr) (status : Byte)
  /-- FRAME_NEED (R107). -/
  | frameNeed (lane : LaneId) (addr : UnitAddr) (chunks : Nat)
  /-- FRAME_DIN (R110). -/
  | frameDin (lane : LaneId) (addr : UnitAddr) (toggle : Bool) (bytes : List Byte)
  /-- FRAME_WAIT (R116). -/
  | frameWait (lane : LaneId) (addr : UnitAddr)
  /-- FRAME_END (R118). -/
  | frameEnd (lane : LaneId) (addr : UnitAddr) (status : Byte)
  /-- MEMORY_BURST_RESPONSE (R143): the response of each beat of a read burst and its bytes in address order, or the
  one response of a write burst. -/
  | memoryBurstResponse (resps : List BusResp) (bytes : List Byte)
  /-- FRAME_SENT (R81): the last stop bit of the frame on the wire passes. -/
  | frameSent (lane : LaneId)
  /-- FRAME_FIRST_START_BIT (R81). -/
  | frameFirstStartBit (lane : LaneId)
  /-- UNBROKEN_MARK_RESYNC (R80). -/
  | unbrokenMarkResync (lane : LaneId)
  deriving DecidableEq, Repr

end Sys2Proof
end

