-- ==== Sys2Proof/Config.lean ====
section
/-!
DEFINITION. What the part fixes, and the free values of the model.
-/
namespace Sys2Proof

/-- Entries the request FIFO and the response FIFO hold (R29). -/
def Config.fifoCapacity : Nat := 8

/-- Records the start ledger holds (R127). -/
def Config.ledgerCapacity : Nat := 8

/-- Ticks a BREAK holds the pair at space (R76). -/
def Config.breakTicks : Nat := 128

/-- Ticks of BREAK recovery (R76). -/
def Config.recoveryTicks : Nat := 500

/-- Ticks of one millisecond of a detach timer (R21). -/
def Config.ticksPerMs : Nat := 1000

/-- The age at which a ledger record's age holds (R127). -/
def Config.maxAge : Nat := 65535

/-- Lane grants in a row after which a waiting fetcher is granted (R139). -/
def Config.laneGrantLimit : Nat := 4

/-- The revision PSTAT carries (R53). -/
def Config.revision : Nat := 1

/-- FREE VALUE (log 13). When a fetch ends and the fetch queue holds another entry, the book does not say whether
the fetcher begins that fetch (R68, "at once") before or after the outcome is handed to the context (R70, R71).
`true`: it begins first. The argument is a counter of State, so each occasion has its own value. -/
opaque Config.fetchBeginsFirst : Nat → Bool

/-- FREE VALUE (log 38). When a lane has asked for a permit, the window has room, and the next command that waits is an event
of that lane, the book lets either be taken first (R131, R132). `true`: the grant waits. The argument is the counter of
`Config.fetchBeginsFirst`. -/
opaque Config.grantWaits : Nat → Bool

end Sys2Proof
end

