-- ==== Sys2Proof/Machine/State.lean ====
section
/-!
DEFINITION. The state of the U432, block by block (00_scope TABLE 1), as plain data, and its values after reset.
`pending` is the queue of commands not yet taken.
-/
namespace Sys2Proof.Machine

/-! ### The context table (01) -/

/-- Place of a context in its life (TABLE 9). -/
inductive CtxState where
  | free
  | idle
  | loading
  | ready
  | connected
  | detached
  | halting
  | reported
  deriving DecidableEq, Repr

/-- What a detached context waits for (TABLE 6). -/
inductive Awaiting where
  | resume
  | free
  deriving DecidableEq, Repr

/-- Why a halt was begun (TABLE 6). -/
inductive HaltCause where
  | requested
  | timeout
  deriving DecidableEq, Repr

/-- Direction of a TRANSFER: OUT, IN, NONE (R55). -/
inductive Direction where
  | outbound
  | inbound
  | noData
  deriving DecidableEq, Repr

/-- The five descriptor flags (TABLE 65). -/
structure DescFlags where
  linkData : Bool
  linkCmd : Bool
  note : Bool
  noLengthCheck : Bool
  discard : Bool
  deriving DecidableEq, Repr

/-- A copy of a TRANSFER descriptor (TABLE 6, TABLE 64). -/
structure Descriptor where
  dir : Direction
  code : Byte
  flags : DescFlags
  count : Nat
  addr : Nat
  deriving DecidableEq, Repr

/-- The six context flags (TABLE 50). -/
structure CtxFlags where
  deferredAttention : Bool
  haltRequested : Bool
  lengthShort : Bool
  lengthLong : Bool
  abortUnconfirmed : Bool
  unitMore : Bool
  deriving DecidableEq, Repr

/-- The empty set of context flags. -/
def CtxFlags.empty : CtxFlags := ⟨false, false, false, false, false, false⟩

/-- Report classes (TABLE 49). -/
inductive ReportClass where
  | complete
  | unitCheck
  | unitException
  | length
  | halted
  | timeout
  | noUnit
  | linkError
  | chainFault
  | dataFault
  | laneReset
  | unitAttention
  deriving DecidableEq, Repr

/-- Reasons of CHAIN_FAULT and DATA_FAULT (TABLE 63). -/
inductive Reason where
  | badDescriptor
  | jumpLoop
  | fetchError
  | directionChange
  | readError
  | writeError
  deriving DecidableEq, Repr

/-- A class an ending names, with its reason when it has one (R7). -/
structure Named where
  cls : ReportClass
  reason : Option Reason
  deriving DecidableEq, Repr

/-- What software gives at OPEN: the fields that are absent while a slot is FREE (TABLE 7). -/
structure Binding where
  lane : LaneId
  unit : UnitAddr
  cookie : Word
  detachLimit : Nat
  selectRetries : Nat
  deriving DecidableEq, Repr

/-- A pending note (TABLE 6): its count and the descriptor address of the latest note. -/
structure PendingNote where
  count : Nat
  addr : Addr48
  deriving DecidableEq, Repr

/-- A detach timer (R21): milliseconds left, and the ticks counted into the current millisecond. -/
structure DetachTimer where
  ms : Nat
  ticks : Nat
  deriving DecidableEq, Repr

/-- A final report (TABLE 48). -/
structure FinalReport where
  slot : Slot
  lane : LaneId
  unit : UnitAddr
  cookie : Word
  cls : ReportClass
  reason : Option Reason
  status : Option Byte
  residual : Nat
  descAddr : Addr48
  noteCount : Nat
  noteAddr : Option Addr48
  flags : CtxFlags
  deriving DecidableEq, Repr

/-- A context record (TABLE 6). -/
structure Context where
  state : CtxState
  binding : Option Binding
  chainAddr : Addr48
  desc : Option Descriptor
  residual : Nat
  dataAddr : Nat
  lengthCond : Bool
  awaiting : Option Awaiting
  timer : Option DetachTimer
  haltCause : Option HaltCause
  lastStatus : Option Byte
  flags : CtxFlags
  note : Option PendingNote
  final : Option FinalReport
  deriving DecidableEq, Repr

/-- The record of a FREE slot (TABLE 7). -/
def Context.reset : Context where
  state := .free
  binding := none
  chainAddr := 0
  desc := none
  residual := 0
  dataAddr := 0
  lengthCond := false
  awaiting := none
  timer := none
  haltCause := none
  lastStatus := none
  flags := .empty
  note := none
  final := none

/-! ### The chain fetcher (03) -/

/-- Class of a fetch (R67). -/
inductive FetchClass where
  | link
  | start
  deriving DecidableEq, Repr

/-- An entry of the fetch queue (R66). -/
structure FetchEntry where
  slot : Slot
  cls : FetchClass
  deriving DecidableEq, Repr

/-- The fetch in progress (R66). -/
structure Fetch where
  slot : Slot
  cls : FetchClass
  addr : Addr48
  run : Nat
  discard : Bool
  deriving DecidableEq, Repr

/-! ### The lane engines (04, 05) -/

/-- Lane engine states (TABLE 32). -/
inductive LaneState where
  | disabled
  | idle
  | polling
  | selecting
  | permitWait
  | commanding
  | transfer
  | linkFetch
  | ending
  | aborting
  | fault
  deriving DecidableEq, Repr

/-- Kind of service of the served context (TABLE 31). -/
inductive ServiceKind where
  | readySelection
  | haltSelection
  | connection
  deriving DecidableEq, Repr

/-- The served context (TABLE 31). -/
structure Served where
  slot : Slot
  kind : ServiceKind
  deriving DecidableEq, Repr

/-- Cause of an abort (TABLE 31). -/
inductive AbortCause where
  | linkError
  | dataFault (reason : Reason)
  | chainFault (reason : Reason)
  | halt
  deriving DecidableEq, Repr

/-- Where an abort stands: its END awaited, taken, or never come in time (R122, R123). -/
inductive AbortPhase where
  | awaiting
  | confirmed
  | unconfirmed
  deriving DecidableEq, Repr

/-- The response timer while it runs: its count and the limit it started with (R81). -/
structure ResponseTimer where
  count : Nat
  limit : Nat
  deriving DecidableEq, Repr

/-- Cause of L_FAULT (TABLE 31). -/
inductive FaultCause where
  | abortTimeout
  deriving DecidableEq, Repr

/-- One of the two staging halves. -/
inductive Half where
  | h0
  | h1
  deriving DecidableEq, Repr

/-- The staging buffer (TABLE 31): the bytes of each half, the next half to fill, and the half emptied next, which
"in the order they were filled" (R107, R111) implies. -/
structure Staging where
  h0 : List Byte
  h1 : List Byte
  fill : Half
  drain : Half
  deriving DecidableEq, Repr

/-- Both halves empty, half 0 next (TABLE 31). -/
def Staging.empty : Staging := ⟨[], [], .h0, .h0⟩

/-- The lane's memory request (TABLE 31): a write or a read, the half it names, its length and the discard mark. -/
structure LaneMem where
  write : Bool
  half : Half
  len : Nat
  discard : Bool
  deriving DecidableEq, Repr

/-- The two parts of a BREAK (R76). -/
inductive BreakPhase where
  | space
  | recovery
  deriving DecidableEq, Repr

/-- A BREAK in progress (R94): its phase and the ticks left of it. -/
structure Break where
  phase : BreakPhase
  left : Nat
  deriving DecidableEq, Repr

/-- What the closing phase of L_ENDING carries (R116, R118), and in L_LINK_FETCH a detach pending (R114). -/
inductive Closing where
  | detach
  | linkCommand
  | outcome (named : List Named)
  deriving DecidableEq, Repr

/-- The frames the part sends (TABLE 25), each with the unit it addresses; POLL is addressed to FFh. -/
inductive PartFrame where
  | poll
  | sel (unit : UnitAddr)
  | desel (unit : UnitAddr)
  | cmd (unit : UnitAddr) (code : Byte) (dir : Direction) (count : Nat)
  | dout (unit : UnitAddr) (toggle : Bool) (bytes : List Byte)
  | grant (unit : UnitAddr) (chunks : Nat) (tail : Nat)
  | stop (unit : UnitAddr)
  | abort (unit : UnitAddr)
  | resume (unit : UnitAddr)
  | defer (unit : UnitAddr)
  deriving DecidableEq, Repr

/-- A frame on the wire and the bit-rate code it was begun with (R46). -/
structure Tx where
  frame : PartFrame
  rate : Fin 4
  deriving DecidableEq, Repr

/-- The receiver (R80): listening, assembling a frame at the rate it began with, or waiting for 20 bit times of
unbroken mark. -/
inductive Receiver where
  | listening
  | assembling (rate : Fin 4)
  | lostFooting
  deriving DecidableEq, Repr

/-- A lane engine (TABLE 31) with its wire side (04). `residual` is the written residual of an IN descriptor and the
count less the bytes sent of an OUT descriptor (R92). -/
structure Lane where
  state : LaneState
  rate : Fin 4
  limit : Nat
  readyQ : List Slot
  haltList : List Slot
  deferred : BitVec 32
  served : Option Served
  attempts : Nat
  mismatch : Bool
  selOwed : Bool
  lostAttempt : Option UnitAddr
  abortCause : Option AbortCause
  abortPhase : AbortPhase
  abortFault : Option Reason
  haltNotice : Bool
  timer : Option ResponseTimer
  emptyPolls : Nat
  lineStuck : Bool
  pollRun : Nat
  strayFrame : Bool
  faultCause : Option FaultCause
  desc : Option Descriptor
  residual : Nat
  dataAddr : Nat
  rxResidual : Nat
  stagingAddr : Nat
  notePosted : Bool
  doutOwed : Nat
  heldNeed : Option Nat
  lengthCond : Bool
  staging : Staging
  credit : List Nat
  outToggle : Bool
  inToggle : Bool
  lastIn : Option (List Byte)
  memReq : Option LaneMem
  brk : Option Break
  closing : Option Closing
  tx : Option Tx
  txQueue : List PartFrame
  rx : Receiver
  atn : Bool
  deriving DecidableEq, Repr

/-- A lane engine after pin or soft reset (TABLE 31). The attention level is the pin's (log 6). -/
def Lane.reset : Lane where
  state := .disabled
  rate := 2
  limit := 200
  readyQ := []
  haltList := []
  deferred := 0
  served := none
  attempts := 0
  mismatch := false
  selOwed := false
  lostAttempt := none
  abortCause := none
  abortPhase := .awaiting
  abortFault := none
  haltNotice := false
  timer := none
  emptyPolls := 0
  lineStuck := false
  pollRun := 0
  strayFrame := false
  faultCause := none
  desc := none
  residual := 0
  dataAddr := 0
  rxResidual := 0
  stagingAddr := 0
  notePosted := false
  doutOwed := 0
  heldNeed := none
  lengthCond := false
  staging := .empty
  credit := []
  outToggle := false
  inToggle := false
  lastIn := none
  memReq := none
  brk := none
  closing := none
  tx := none
  txQueue := []
  rx := .listening
  atn := false

/-! ### The start window (06) -/

/-- A start ledger record (R127). -/
structure LedgerRec where
  count : BitVec 32
  age : Nat
  deriving DecidableEq, Repr

/-- The start window (R126, R127, R130). `expiryDue`: a tick brought an expiry event that has not been taken yet; it
is the model's own (log 5). `asked`: a lane has joined the permit queue with room in the window, and the grant decision this
brings has not been taken yet; it is the model's own (log 38). -/
structure Window where
  startLimit : Nat
  windowUs : Nat
  ledger : List LedgerRec
  permits : List LaneId
  expiryDue : Bool
  asked : Bool
  deriving DecidableEq, Repr

/-- The start window after pin or soft reset (TABLE 40). -/
def Window.reset : Window := ⟨4, 2000, [], [], false, false⟩

/-! ### The memory port (07) -/

/-- Kind of a request (R137); a data request names its staging half. -/
inductive MemKind where
  | descriptor
  | dataRead (half : Half)
  | dataWrite (half : Half)
  deriving DecidableEq, Repr

/-- A request in a waiting place (R137). -/
structure MemReq where
  kind : MemKind
  addr : Nat
  len : Nat
  deriving DecidableEq, Repr

/-- The five requesters (R136). -/
inductive Requester where
  | fetcher
  | lane (n : LaneId)
  deriving DecidableEq, Repr

/-- A burst (R140 to R142): the address of its first beat, its beats, the bytes of one beat (8 or 1), and how many
bytes of the range it moves. -/
structure Burst where
  addr : Nat
  beats : Nat
  size : Nat
  bytes : Nat
  deriving DecidableEq, Repr

/-- The transaction in flight (TABLE 43). -/
structure Txn where
  requester : Requester
  req : MemReq
  toIssue : List Burst
  burst : Burst
  buffer : List Byte
  error : Bool
  discard : Bool
  deriving DecidableEq, Repr

/-- The memory port (TABLE 43). -/
structure MemPort where
  fetchReq : Option MemReq
  laneReqs : Vector (Option MemReq) 4
  rotation : LaneId
  grants : Nat
  inflight : Option Txn
  deriving DecidableEq, Repr

/-- The memory port after pin reset (TABLE 43). -/
def MemPort.reset : MemPort := ⟨none, Vector.replicate 4 none, 0, 0, none⟩

/-! ### The report unit (08) -/

/-- Kind of a report queue entry (R149). -/
inductive EntryKind where
  | note
  | final
  deriving DecidableEq, Repr

/-- A report queue entry (R149). -/
structure ReportEntry where
  slot : Slot
  kind : EntryKind
  deriving DecidableEq, Repr

/-- The report queue and the update count of the attention slot (R149, R161). -/
structure Reports where
  queue : List ReportEntry
  update : BitVec 8
  deriving DecidableEq, Repr

/-- The report unit after pin or soft reset (TABLE 51). -/
def Reports.reset : Reports := ⟨[], 0⟩

/-! ### The timebase (02) -/

/-- The timebase (R54): the microsecond count, and the divider of the tick in progress. -/
structure Timebase where
  count : BitVec 32
  divider : BitVec 8
  deriving DecidableEq, Repr

/-- The timebase after pin or soft reset (R54). -/
def Timebase.reset : Timebase := ⟨0, 50⟩

/-! ### The request port (02) -/

/-- PSTAT's state (R52). -/
inductive PortState where
  | ready
  | resetting
  deriving DecidableEq, Repr

/-- An entry of the request FIFO (R32): the four staging words and the tag. -/
structure Request where
  w0 : Word
  w1 : Word
  w2 : Word
  w3 : Word
  tag : Byte
  deriving DecidableEq, Repr

/-- The twelve result codes (TABLE 14). -/
inductive Result where
  | accepted
  | badRequest
  | notOpen
  | alreadyOpen
  | tableFull
  | busy
  | reportPending
  | nothingToHalt
  | alreadyHalting
  | nothingToCollect
  | notHead
  | laneUnavailable
  deriving DecidableEq, Repr

/-- An entry of the response FIFO (R34). -/
structure Response where
  tag : Byte
  result : Result
  d1 : Word
  d2 : Word
  d3 : Word
  deriving DecidableEq, Repr

/-- The request port (R29), less LANE_FAULT0 to LANE_FAULT3, which `Blocks` holds because the lanes set them. -/
structure Port where
  rqw : Vector Word 4
  reqs : List Request
  resps : List Response
  overflow : Bool
  inte : Word
  pstat : PortState
  tbdiv : BitVec 8
  deriving DecidableEq, Repr

/-- The request port after pin or soft reset (R29). -/
def Port.reset : Port := ⟨Vector.replicate 4 0, [], [], false, 0, .ready, 50⟩

/-! ### The whole part -/

/-- The blocks behind the request port (00_scope TABLE 1), the LANE_FAULT causes (R50), and the counter of the free
values (logs 13 and 38). -/
structure Blocks where
  ctxs : Vector Context 40
  index : Vector (Option Slot) 128
  fetchQ : List FetchEntry
  fetch : Option Fetch
  lanes : Vector Lane 4
  window : Window
  mem : MemPort
  reports : Reports
  timebase : Timebase
  laneFault : Vector Bool 4
  choice : Nat
  deriving DecidableEq, Repr

/-- The blocks after pin or soft reset (TABLES 12, 39, 40, 47, 51). -/
def Blocks.reset : Blocks where
  ctxs := Vector.replicate 40 Context.reset
  index := Vector.replicate 128 none
  fetchQ := []
  fetch := none
  lanes := Vector.replicate 4 Lane.reset
  window := .reset
  mem := .reset
  reports := .reset
  timebase := .reset
  laneFault := Vector.replicate 4 false
  choice := 0

/-- The state of the U432 and the commands that wait, first in first out. -/
structure State where
  port : Port
  blocks : Blocks
  pending : List Instr
  deriving DecidableEq, Repr

/-- The part right after pin reset (R53), with no command waiting. -/
def State.reset : State where
  port := .reset
  blocks := .reset
  pending := []

/-- Reasons a step stops with a fault. The book names none: every event has an outcome in the state, so this type has
no constructor. -/
inductive Fault where
  deriving DecidableEq, Repr

/-- Reasons a step is refused. -/
inductive Refusal where
  /-- Raised by an arm of `exec` whose command has no meaning yet; safe, since no effect is claimed. No arm does. -/
  | notModelled (mnemonic : String)
  deriving DecidableEq, Repr

end Sys2Proof.Machine
end

