-- ==== Sys2Proof/Machine/Flags.lean ====
section
/-!
DEFINITION. The conditions of the status byte (R85), the context flags (R154), the classes an ending names with their
precedence (R152), and the interrupt causes' bits (TABLE 57).
-/
namespace Sys2Proof.Machine

/-! ### The status byte (TABLE 67) -/

/-- CHECK. -/
def statusCheck (s : Byte) : Bool := s.getLsbD 0
/-- EXCEPTION. -/
def statusException (s : Byte) : Bool := s.getLsbD 1
/-- BUSY. -/
def statusBusy (s : Byte) : Bool := s.getLsbD 2
/-- ABORTED. -/
def statusAborted (s : Byte) : Bool := s.getLsbD 3
/-- MORE. -/
def statusMore (s : Byte) : Bool := s.getLsbD 4
/-- No bit outside the five conditions is set (R80, check 7). -/
def statusValid (s : Byte) : Bool := s &&& 0xE0 == 0

/-! ### The context flags (TABLE 50) -/

/-- DEFERRED_ATTENTION added. -/
def CtxFlags.addDeferred (f : CtxFlags) : CtxFlags := { f with deferredAttention := true }
/-- HALT_REQUESTED added. -/
def CtxFlags.addHaltRequested (f : CtxFlags) : CtxFlags := { f with haltRequested := true }
/-- LENGTH_SHORT added when `b`. -/
def CtxFlags.addLengthShort (f : CtxFlags) (b : Bool) : CtxFlags := { f with lengthShort := f.lengthShort || b }
/-- LENGTH_LONG added. -/
def CtxFlags.addLengthLong (f : CtxFlags) : CtxFlags := { f with lengthLong := true }
/-- ABORT_UNCONFIRMED added. -/
def CtxFlags.addAbortUnconfirmed (f : CtxFlags) : CtxFlags := { f with abortUnconfirmed := true }
/-- UNIT_MORE added when the status has MORE (R17). -/
def CtxFlags.addMore (f : CtxFlags) (status : Byte) : CtxFlags := { f with unitMore := f.unitMore || statusMore status }

/-- The flags as the number of ATW4 bits 17:12 (TABLE 62). -/
def CtxFlags.toNat (f : CtxFlags) : Nat :=
  f.deferredAttention.toNat + 2 * f.haltRequested.toNat + 4 * f.lengthShort.toNat + 8 * f.lengthLong.toNat
    + 16 * f.abortUnconfirmed.toNat + 32 * f.unitMore.toNat

/-- A status byte taken for a context: it becomes the last unit status, and MORE adds UNIT_MORE (R17, R19, R20). -/
def Context.takeStatus (c : Context) (status : Byte) : Context :=
  { c with lastStatus := some status, flags := c.flags.addMore status }

/-! ### Classes (R152) -/

/-- Place of a class in the precedence of R152; UNIT_ATTENTION is never weighed and stands last. -/
def ReportClass.rank : ReportClass → Nat
  | .laneReset => 1
  | .timeout => 2
  | .halted => 3
  | .dataFault => 4
  | .chainFault => 5
  | .linkError => 6
  | .noUnit => 7
  | .unitCheck => 8
  | .unitException => 9
  | .length => 10
  | .complete => 11
  | .unitAttention => 12

/-- The class chosen among `best` and the rest of those named: the first of the precedence (R152). -/
def choosePast (best : Named) : List Named → Named
  | [] => best
  | n :: rest => choosePast (if n.cls.rank < best.cls.rank then n else best) rest

/-- The class an ending carries: COMPLETE when it names none (R152). -/
def chooseClass : List Named → Named
  | [] => ⟨.complete, none⟩
  | n :: rest => choosePast n rest

/-- A class named without a reason. -/
def plain (c : ReportClass) : Named := ⟨c, none⟩

/-- The class of a halt: TIMEOUT for cause TIMEOUT, HALTED otherwise (R27). -/
def haltClass (cause : Option HaltCause) : Named :=
  match cause with
  | some .timeout => plain .timeout
  | _ => plain .halted

/-- The class of an abort's cause (R122). -/
def AbortCause.named (haltCause : Option HaltCause) : AbortCause → Named
  | .linkError => plain .linkError
  | .dataFault r => ⟨.dataFault, some r⟩
  | .chainFault r => ⟨.chainFault, some r⟩
  | .halt => haltClass haltCause

/-- The classes of CHECK and EXCEPTION in a status byte (R85). -/
def statusClasses (status : Byte) : List Named :=
  (if statusCheck status then [plain .unitCheck] else [])
    ++ (if statusException status then [plain .unitException] else [])

/-! ### Codes of the formats (10) -/

/-- Context state code (R181). -/
def CtxState.code : CtxState → Nat
  | .free => 0
  | .idle => 1
  | .loading => 2
  | .ready => 3
  | .connected => 4
  | .detached => 5
  | .halting => 6
  | .reported => 7

/-- The running states (02, 2.3). -/
def CtxState.running : CtxState → Bool
  | .loading | .ready | .connected | .detached | .halting => true
  | .free | .idle | .reported => false

/-- Lane state code (R181). -/
def LaneState.code : LaneState → Nat
  | .disabled => 0
  | .idle => 1
  | .polling => 2
  | .selecting => 3
  | .permitWait => 4
  | .commanding => 5
  | .transfer => 6
  | .linkFetch => 7
  | .ending => 8
  | .aborting => 9
  | .fault => 10

/-- Entry kind code (R181). -/
def EntryKind.code : EntryKind → Nat
  | .note => 1
  | .final => 2

/-- Entry kind code with absence (R181). -/
def entryKindCode : Option EntryKind → Nat
  | none => 0
  | some k => k.code

/-- Class code (TABLE 63). -/
def ReportClass.code : ReportClass → Nat
  | .complete => 1
  | .unitCheck => 2
  | .unitException => 3
  | .length => 4
  | .halted => 5
  | .timeout => 6
  | .noUnit => 7
  | .linkError => 8
  | .chainFault => 9
  | .dataFault => 10
  | .laneReset => 11
  | .unitAttention => 12

/-- Reason code (TABLE 63). -/
def Reason.code : Reason → Nat
  | .badDescriptor => 1
  | .jumpLoop => 2
  | .fetchError => 3
  | .directionChange => 4
  | .readError => 5
  | .writeError => 6

/-- Result code (TABLE 60). -/
def Result.code : Result → Nat
  | .accepted => 0
  | .badRequest => 1
  | .notOpen => 2
  | .alreadyOpen => 3
  | .tableFull => 4
  | .busy => 5
  | .reportPending => 6
  | .nothingToHalt => 7
  | .alreadyHalting => 8
  | .nothingToCollect => 9
  | .notHead => 10
  | .laneUnavailable => 11

/-- Direction code (TABLE 65). -/
def Direction.code : Direction → Byte
  | .noData => 0x00
  | .outbound => 0x01
  | .inbound => 0x02

/-- The direction a code names (TABLE 65). -/
def directionOf (b : Byte) : Option Direction :=
  if b = 0x00 then some .noData else if b = 0x01 then some .outbound else if b = 0x02 then some .inbound else none

end Sys2Proof.Machine
end

