-- ==== Sys2Proof/Machine/Operands.lean ====
section
/-!
DEFINITION. The operand forms: byte strobes (R30), packing of words, the request words (R180), the descriptor (R183,
R56), and the bursts of a range (R140 to R142).
-/
namespace Sys2Proof.Machine

/-! ### Byte strobes (R30) -/

/-- The bits of the bytes whose strobes are set. -/
def strobeMask (strobes : BitVec 4) : Word :=
  (if strobes.getLsbD 0 then 0x000000FF else 0) ||| (if strobes.getLsbD 1 then 0x0000FF00 else 0)
    ||| (if strobes.getLsbD 2 then 0x00FF0000 else 0) ||| (if strobes.getLsbD 3 then 0xFF000000 else 0)

/-- The bytes whose strobes are set are updated, the others kept. -/
def mergeStrobes (old value : Word) (strobes : BitVec 4) : Word :=
  (value &&& strobeMask strobes) ||| (old &&& ~~~ strobeMask strobes)

/-- A field that lies in a byte whose strobe is clear is taken as 0. -/
def strobed (value : Word) (strobes : BitVec 4) : Word := value &&& strobeMask strobes

/-! ### Packing -/

/-- A field of a word: its lowest bit, its width, its value. -/
structure WordField where
  lo : Nat
  width : Nat
  value : Nat

/-- The word made of fields; a bit no field covers is 0 (10, opening). -/
def packWord : List WordField → Word
  | [] => 0
  | f :: rest => (BitVec.ofNat 32 (f.value % 2 ^ f.width) <<< f.lo) ||| packWord rest

/-- The number in bits `lo` to `lo + width - 1` of a word. -/
def fieldOf (w : Word) (lo width : Nat) : Nat := (w.toNat / 2 ^ lo) % 2 ^ width

/-- The number of little-endian bytes (00_scope 4.4). -/
def leNat : List Byte → Nat
  | [] => 0
  | b :: rest => b.toNat + 256 * leNat rest

/-- The little-endian bytes of a number, `n` of them. -/
def leBytes : Nat → Nat → List Byte
  | 0, _ => []
  | n + 1, v => BitVec.ofNat 8 v :: leBytes n (v / 256)

/-! ### Request words (R180) -/

/-- What the request code of RQW0 bits 7:0 names (TABLE 58). -/
inductive ReqCode where
  | openUnit
  | closeUnit
  | startChain
  | haltUnit
  | probeUnit
  | collectReport
  | laneControl
  | resetLane
  | setPolicy
  | laneStatus
  | unknown
  deriving DecidableEq, Repr

/-- The request code of a request (TABLE 58). -/
def Request.code (r : Request) : ReqCode :=
  match fieldOf r.w0 0 8 with
  | 0x01 => .openUnit
  | 0x02 => .closeUnit
  | 0x03 => .startChain
  | 0x04 => .haltUnit
  | 0x05 => .probeUnit
  | 0x06 => .collectReport
  | 0x07 => .laneControl
  | 0x08 => .resetLane
  | 0x09 => .setPolicy
  | 0x0A => .laneStatus
  | _ => .unknown

/-- RQW0 bits 9:8 (TABLE 58). -/
def Request.lane (r : Request) : LaneId := Fin.ofNat 4 (fieldOf r.w0 8 2)

/-- RQW0 bits 20:16 (TABLE 58). -/
def Request.unit (r : Request) : UnitAddr := Fin.ofNat 32 (fieldOf r.w0 16 5)

/-- No bit is set outside the bits the request uses (R35). -/
def Request.unusedZero (r : Request) (m0 m1 m2 : Word) : Bool :=
  r.w0 &&& ~~~ m0 == 0 && r.w1 &&& ~~~ m1 == 0 && r.w2 &&& ~~~ m2 == 0 && r.w3 == 0

/-- Bits RQW0 uses for a request that names a unit (TABLE 58). -/
def unitMask : Word := 0x001F03FF
/-- Bits RQW0 uses for a request that names a lane only. -/
def laneMask : Word := 0x000003FF
/-- Bits RQW0 uses for POLICY. -/
def codeMask : Word := 0x000000FF

/-- Detach limit of OPEN (TABLE 59). -/
def Request.detachLimit (r : Request) : Nat := fieldOf r.w2 0 16
/-- Select retries of OPEN (TABLE 59). -/
def Request.selectRetries (r : Request) : Nat := fieldOf r.w2 16 4
/-- Chain address of START (TABLE 59). -/
def Request.chainAddr (r : Request) : Addr48 := BitVec.ofNat 48 (fieldOf r.w2 0 16 * 2 ^ 32 + r.w1.toNat)
/-- Enable of LANE (TABLE 59). -/
def Request.enable (r : Request) : Bool := r.w1.getLsbD 0
/-- Bit-rate code of LANE (TABLE 59). -/
def Request.rateCode (r : Request) : Nat := fieldOf r.w1 4 4
/-- Response limit of LANE (TABLE 59). -/
def Request.respLimit (r : Request) : Nat := fieldOf r.w2 0 16
/-- START_LIMIT of POLICY (TABLE 59). -/
def Request.startLimit (r : Request) : Nat := fieldOf r.w1 0 4
/-- WINDOW_US of POLICY (TABLE 59). -/
def Request.windowUs (r : Request) : Nat := fieldOf r.w2 0 16

/-- The range checks of R35, with the ranges each request's rule gives (R37, R39, R44, R48, TABLE 59). -/
def Request.inRange (r : Request) : Bool :=
  match r.code with
  | .openUnit => r.unusedZero unitMask 0xFFFFFFFF 0x000FFFFF && decide (r.detachLimit ≤ 60000)
      && decide (r.selectRetries ≤ 7)
  | .startChain => r.unusedZero unitMask 0xFFFFFFF0 0x0000FFFF
  | .closeUnit | .haltUnit | .probeUnit | .collectReport => r.unusedZero unitMask 0 0
  | .laneControl => r.unusedZero laneMask 0x000000F1 0x0000FFFF && decide (r.rateCode ≤ 3)
      && decide (20 ≤ r.respLimit) && decide (r.respLimit ≤ 5000)
  | .resetLane | .laneStatus => r.unusedZero laneMask 0 0
  | .setPolicy => r.unusedZero codeMask 0x0000000F 0x0000FFFF && decide (1 ≤ r.startLimit)
      && decide (r.startLimit ≤ 8) && decide (100 ≤ r.windowUs)
  | .unknown => false

/-! ### The descriptor (R183, R56) -/

/-- What a valid descriptor says. -/
inductive DescRead where
  | transfer (d : Descriptor)
  | jump (target : Addr48)
  deriving DecidableEq, Repr

/-- Flags of byte 3 (TABLE 65). -/
def descFlagsOf (b : Byte) : DescFlags :=
  ⟨b.getLsbD 0, b.getLsbD 1, b.getLsbD 2, b.getLsbD 3, b.getLsbD 4⟩

/-- The address at which a linking flag cannot be followed (R56). -/
def topDescriptor : Addr48 := 0xFFFFFFFFFFF0

/-- The TRANSFER checks of TABLE 19, of a descriptor read at `at_` whose flag byte is `flagByte`. -/
def transferValid (at_ : Addr48) (flagByte : Byte) (d : Descriptor) : Bool :=
  flagByte &&& 0xE0 == 0
    && (d.dir == .noData || d.count != 0)
    && (d.dir != .noData || (d.count == 0 && d.addr == 0))
    && (d.dir == .noData || decide (d.addr + d.count ≤ 2 ^ 48))
    && !(d.flags.linkData && d.flags.linkCmd)
    && !(d.flags.linkData && d.dir == .noData)
    && !(d.flags.discard && d.dir != .inbound)
    && !((d.flags.linkData || d.flags.linkCmd) && at_ == topDescriptor)

/-- The sixteen bytes read at `at_` as a valid descriptor; `none` when a check of TABLE 19 fails (R56, TABLE 64). -/
def readDescriptor (at_ : Addr48) (bytes : List Byte) : Option DescRead :=
  match bytes with
  | [kind, dir, code, flags, c0, c1, s0, s1, a0, a1, a2, a3, a4, a5, u0, u1] =>
    let addr := leNat [a0, a1, a2, a3, a4, a5]
    let count := leNat [c0, c1]
    if s0 ≠ 0 ∨ s1 ≠ 0 ∨ u0 ≠ 0 ∨ u1 ≠ 0 then none
    else if kind = 0x01 then
      match directionOf dir with
      | none => none
      | some d =>
        let desc : Descriptor := ⟨d, code, descFlagsOf flags, count, addr⟩
        if transferValid at_ flags desc then some (.transfer desc) else none
    else if kind = 0x02 then
      if dir = 0 ∧ code = 0 ∧ flags = 0 ∧ count = 0 ∧ addr % 16 = 0 then some (.jump (BitVec.ofNat 48 addr)) else none
    else none
  | _ => none

/-! ### Bursts of a range (R140 to R142) -/

/-- The least 8-aligned address at or above `a`. -/
def up8 (a : Nat) : Nat := (a + 7) / 8 * 8
/-- The greatest 8-aligned address at or below `a`. -/
def down8 (a : Nat) : Nat := a / 8 * 8
/-- The next 4096-byte boundary above `a`. -/
def nextPage (a : Nat) : Nat := (a / 4096 + 1) * 4096

/-- The bytes of `[a, a + n)` that lie in `[lo, hi)`. -/
def overlap (a n lo hi : Nat) : Nat := min (a + n) hi - max a lo

/-- One burst of 8-byte beats over the 8-aligned `[lo, hi)`, moving bytes of the range `[a, a + n)`. -/
def wordBurst (a n lo hi : Nat) : Burst := ⟨lo, (hi - lo) / 8, 8, overlap a n lo hi⟩

/-- Bursts of 8-byte beats over the 8-aligned `[lo, hi)`, cut at a 4096-byte boundary inside it (R141, R142). -/
def wordBursts (a n lo hi : Nat) : List Burst :=
  if lo < hi then
    if nextPage lo < hi then [wordBurst a n lo (nextPage lo), wordBurst a n (nextPage lo) hi]
    else [wordBurst a n lo hi]
  else []

/-- One burst of 1-byte beats over `[lo, hi)`, or none when it is empty (R141). -/
def byteBursts (lo hi : Nat) : List Burst := if lo < hi then [⟨lo, hi - lo, 1, hi - lo⟩] else []

/-- The end of the leading part-word of `[a, a + n)`: the first cut, or the range's end (R141). -/
def leadEnd (a n : Nat) : Nat := min (a + n) (up8 a)

/-- The end of the whole words of `[a, a + n)` (R141). -/
def wordsEnd (a n : Nat) : Nat := max (leadEnd a n) (down8 (a + n))

/-- The bursts of a data read of `[a, a + n)`, in address order (R141). -/
def readBursts (a n : Nat) : List Burst :=
  byteBursts a (leadEnd a n) ++ wordBursts a n (leadEnd a n) (wordsEnd a n) ++ byteBursts (wordsEnd a n) (a + n)

/-- The bursts of a data write of `[a, a + n)`: every aligned word the range touches (R142). -/
def writeBursts (a n : Nat) : List Burst := wordBursts a n (down8 a) (up8 (a + n))

/-- The bursts of a request (R140 to R142). -/
def MemReq.bursts (r : MemReq) : List Burst :=
  match r.kind with
  | .descriptor => [⟨r.addr, 2, 8, 16⟩]
  | .dataRead _ => readBursts r.addr r.len
  | .dataWrite _ => writeBursts r.addr r.len

/-- One beat of a data write at the 8-aligned address `w`: the byte of each of the eight lanes whose strobe is set
(R142). `buffer` holds the bytes of the range that starts at `a`. -/
def writeBeat (a : Nat) (buffer : List Byte) (w : Nat) : List (Option Byte) :=
  (List.range 8).map fun i => if a ≤ w + i then buffer[w + i - a]? else none

/-- The beats of a burst of a data write, each with its address. -/
def Txn.beatsOut (t : Txn) : List (Nat × List (Option Byte)) :=
  (List.range t.burst.beats).map fun i =>
    (t.burst.addr + 8 * i, writeBeat t.req.addr t.buffer (t.burst.addr + 8 * i))

/-- SLVERR and DECERR are error responses (R143). -/
def BusResp.isError : BusResp → Bool
  | .okay | .exokay => false
  | .slverr | .decerr => true

end Sys2Proof.Machine
end

