-- ==== Sys2Proof/Machine/Wire.lean ====
section
/-!
DEFINITION. The pair: its levels, its characters and bit rates (R74, R75); frames as bytes on it: the CRC-8 and the
receiver's checks (R80), the frames the part sends (R79, R184), and the command that received characters amount to.
-/
namespace Sys2Proof.Machine

/-! ### Levels, characters and bit rates (R74, R75) -/

/-- A level of the pair. Mark reads as logical 1 (04, 4.1). -/
inductive Level where
  | space
  | mark
  deriving DecidableEq, Repr

/-- The level of a data bit. -/
def levelOf (bit : Bool) : Level := if bit then .mark else .space

/-- The bit times of a character (R75): a start bit at space, eight data bits, least significant first, a stop bit at
mark. -/
def charLevels (b : Byte) : List Level := .space :: ((List.range 8).map fun i => levelOf (b.getLsbD i)) ++ [.mark]

/-- The number whose bits, least significant first, stand at these levels. -/
def levelsNat : List Level → Nat
  | [] => 0
  | l :: rest => (if l = .mark then 1 else 0) + 2 * levelsNat rest

/-- The byte of the ten bit times of a received character; `none` when its stop bit is at space (R75, R80 check 1). -/
def charOf (levels : List Level) : Option Byte :=
  if levels.getD 9 .space = .mark then some (BitVec.ofNat 8 (levelsNat ((levels.drop 1).take 8))) else none

/-- Bits a second at each bit-rate code (R75). -/
def bitRate : Fin 4 → Nat
  | 0 => 1000000
  | 1 => 2000000
  | 2 => 4000000
  | 3 => 8000000

/-- One bit time, in nanoseconds (R75). -/
def bitTimeNs (code : Fin 4) : Nat := 1000000000 / bitRate code

/-- The duration of a frame's characters, in nanoseconds, for a frame of this many bytes: ten bit times each (R75,
TABLE 24). -/
def frameTimeNs (code : Fin 4) (bytes : Nat) : Nat := 10 * bytes * bitTimeNs code

/-! ### CRC-8 (R80) -/

/-- One shift of the register towards its most significant end. -/
def crcShift (r : Byte) : Byte := if r.getLsbD 7 then (r <<< 1) ^^^ 0x07 else r <<< 1

/-- Eight shifts. -/
def crcShift8 (r : Byte) : Byte :=
  crcShift (crcShift (crcShift (crcShift (crcShift (crcShift (crcShift (crcShift r)))))))

/-- The register after a byte is combined into it. -/
def crcStep (r b : Byte) : Byte := crcShift8 (r ^^^ b)

/-- The CRC-8 of bytes in wire order. -/
def crc8 (bytes : List Byte) : Byte := bytes.foldl crcStep 0

/-! ### Frames the part sends (TABLE 66) -/

/-- A unit address as the address byte. -/
def addrByte (u : UnitAddr) : Byte := BitVec.ofNat 8 u.val

/-- The kind byte of DOUT or DIN with its toggle (R184). -/
def toggledKind (code : Byte) (toggle : Bool) : Byte := if toggle then code ||| 0x80 else code

/-- The kind, address and payload of a frame the part sends. -/
def PartFrame.parts : PartFrame → Byte × Byte × List Byte
  | .poll => (0x01, 0xFF, [])
  | .sel u => (0x02, addrByte u, [])
  | .desel u => (0x03, addrByte u, [])
  | .cmd u code dir count => (0x04, addrByte u, code :: dir.code :: leBytes 2 count)
  | .dout u toggle bytes => (toggledKind 0x05 toggle, addrByte u, bytes)
  | .grant u chunks tail => (0x06, addrByte u, [BitVec.ofNat 8 chunks, BitVec.ofNat 8 tail])
  | .stop u => (0x07, addrByte u, [])
  | .abort u => (0x08, addrByte u, [])
  | .resume u => (0x09, addrByte u, [])
  | .defer u => (0x0A, addrByte u, [])

/-- A frame before its CRC: kind, address, length, payload (R79). -/
def frameBody (kind addr : Byte) (payload : List Byte) : List Byte :=
  kind :: addr :: BitVec.ofNat 8 payload.length :: payload

/-- A whole frame: its body and the CRC of it (R79, R80). -/
def frameBytes (kind addr : Byte) (payload : List Byte) : List Byte :=
  frameBody kind addr payload ++ [crc8 (frameBody kind addr payload)]

/-- The bytes on the wire of a frame the part sends. -/
def PartFrame.bytes (f : PartFrame) : List Byte := frameBytes f.parts.1 f.parts.2.1 f.parts.2.2

/-- The level of LnTXD in each bit time in which LnDE is asserted for a frame (R74): mark for one bit time, the characters
back to back (R75), mark for one bit time. -/
def PartFrame.levels (f : PartFrame) : List Level := .mark :: f.bytes.flatMap charLevels ++ [.mark]

/-- The frame expects an answer by TABLE 26, a DOUT apart. -/
def PartFrame.expectsAnswer : PartFrame → Bool
  | .poll | .sel _ | .cmd _ _ _ _ | .grant _ _ _ | .stop _ | .abort _ | .resume _ => true
  | .desel _ | .dout _ _ _ | .defer _ => false

/-! ### Frames the units send (TABLE 66) -/

/-- A unit's frame, less the lane it travels on. -/
inductive UnitFrame where
  | echo (addr : UnitAddr)
  | acpt (addr : UnitAddr) (status : Byte)
  | din (addr : UnitAddr) (toggle : Bool) (bytes : List Byte)
  | need (addr : UnitAddr) (chunks : Nat)
  | wait (addr : UnitAddr)
  | endFrame (addr : UnitAddr) (status : Byte)
  | attn (addr : UnitAddr) (reason : AttnReason) (status : Byte)
  deriving DecidableEq, Repr

/-- Reason byte of ATTN (R184). -/
def reasonByte : AttnReason → Byte
  | .reconnect => 0x01
  | .free => 0x02
  | .unsolicited => 0x03

/-- The reason a byte codes (R184). -/
def reasonOf (b : Byte) : Option AttnReason :=
  if b = 0x01 then some .reconnect else if b = 0x02 then some .free else if b = 0x03 then some .unsolicited else none

/-- The operands of a unit's frame are ones its format admits (TABLE 25, R85). -/
def UnitFrame.wf : UnitFrame → Bool
  | .echo _ | .wait _ => true
  | .acpt _ status | .endFrame _ status | .attn _ _ status => statusValid status
  | .din _ _ bytes => decide (1 ≤ bytes.length) && decide (bytes.length ≤ 16)
  | .need _ chunks => decide (1 ≤ chunks) && decide (chunks ≤ 8)

/-- The bytes a unit sends for a frame (R79, R184). -/
def UnitFrame.bytes : UnitFrame → List Byte
  | .echo a => frameBytes 0x11 (addrByte a) []
  | .acpt a status => frameBytes 0x12 (addrByte a) [status]
  | .din a toggle bytes => frameBytes (toggledKind 0x13 toggle) (addrByte a) bytes
  | .need a chunks => frameBytes 0x14 (addrByte a) [BitVec.ofNat 8 chunks]
  | .wait a => frameBytes 0x15 (addrByte a) []
  | .endFrame a status => frameBytes 0x16 (addrByte a) [status]
  | .attn a reason status => frameBytes 0x17 (addrByte a) [reasonByte reason, status]

/-- The command a taken frame is. -/
def UnitFrame.command (n : LaneId) : UnitFrame → Instr
  | .echo a => .frameEcho n a
  | .acpt a status => .frameAcpt n a status
  | .din a toggle bytes => .frameDin n a toggle bytes
  | .need a chunks => .frameNeed n a chunks
  | .wait a => .frameWait n a
  | .endFrame a status => .frameEnd n a status
  | .attn a reason status => .frameAttn n a reason status

/-- What the receiver makes of received characters: a frame, or the first check that fails and whether the length byte
was above 16 (R80). -/
inductive Verdict where
  | taken (f : UnitFrame)
  | malformed (check : FrameCheck) (lengthAbove16 : Bool)
  deriving DecidableEq, Repr

/-- Check 3: the kind byte is a unit kind, and its top bit is 0 in any kind but DIN. -/
def kindValid (kind : Byte) : Bool :=
  [0x11, 0x12, 0x13, 0x93, 0x14, 0x15, 0x16, 0x17].contains kind

/-- Check 4: the length is one TABLE 25 admits for the kind. -/
def lengthValid (kind : Byte) (len : Nat) : Bool :=
  if kind = 0x11 ∨ kind = 0x15 then len == 0
  else if kind = 0x12 ∨ kind = 0x14 ∨ kind = 0x16 then len == 1
  else if kind = 0x17 then len == 2
  else decide (1 ≤ len) && decide (len ≤ 16)

/-- Check 7 and the reading of the payload: the unit's frame, or none when a payload value fails. -/
def payloadFrame (kind : Byte) (a : UnitAddr) (payload : List Byte) : Option UnitFrame :=
  if kind = 0x11 then some (.echo a)
  else if kind = 0x15 then some (.wait a)
  else if kind = 0x13 then some (.din a false payload)
  else if kind = 0x93 then some (.din a true payload)
  else
    match payload with
    | [b] =>
      if kind = 0x14 then
        if 1 ≤ b.toNat ∧ b.toNat ≤ 8 then some (.need a b.toNat) else none
      else if statusValid b then
        if kind = 0x12 then some (.acpt a b) else if kind = 0x16 then some (.endFrame a b) else none
      else none
    | [r, b] =>
      match reasonOf r with
      | some reason => if kind = 0x17 ∧ statusValid b then some (.attn a reason b) else none
      | none => none
    | _ => none

/-- Checks 3 to 7 of a frame whose every byte has arrived (R80). -/
def frameVerdict (kind addr len : Byte) (payload : List Byte) (crc : Byte) : Verdict :=
  if kindValid kind = false then .malformed .kind false
  else if lengthValid kind len.toNat = false then .malformed .length false
  else if h : addr.toNat < 32 then
    if crc8 (kind :: addr :: len :: payload) ≠ crc then .malformed .crc false
    else
      match payloadFrame kind ⟨addr.toNat, h⟩ payload with
      | some f => .taken f
      | none => .malformed .payload false
  else .malformed .address false

/-- The receiver's checks in order (R80). A character whose stop bit is at space is `none`; the characters are those
that came before a gap of more than 20 bit times or the frame's last byte. -/
def receiveChars (chars : List (Option Byte)) : Verdict :=
  if chars.any (·.isNone) then .malformed .framing false
  else
    match chars.filterMap id with
    | kind :: addr :: len :: rest =>
      if len.toNat > 16 then
        if kindValid kind then .malformed .length true else .malformed .kind true
      else if rest.length < len.toNat + 1 then .malformed .completeness false
      else frameVerdict kind addr len (rest.take len.toNat) (rest.getD len.toNat 0)
    | _ => .malformed .completeness false

/-- The command the receiver's verdict on lane `n` is. -/
def Verdict.command (n : LaneId) : Verdict → Instr
  | .taken f => f.command n
  | .malformed check above => .frameMalformed n check above

end Sys2Proof.Machine
end

