-- ==== Sys2Proof/Machine/Ops.lean ====
section
/-!
DEFINITION. The accessors of the state: one home for each record, read and written through these.
-/
namespace Sys2Proof.Machine

/-! ### Records of the blocks -/

/-- The context record of a slot. -/
def Blocks.ctx (b : Blocks) (s : Slot) : Context := b.ctxs.get s

/-- The record of slot `s` becomes `c`. -/
def Blocks.setCtx (b : Blocks) (s : Slot) (c : Context) : Blocks := { b with ctxs := b.ctxs.set s.val c s.isLt }

/-- The record of slot `s` is changed by `f`. -/
def Blocks.modCtx (b : Blocks) (s : Slot) (f : Context → Context) : Blocks := b.setCtx s (f (b.ctx s))

/-- The engine of a lane. -/
def Blocks.lane (b : Blocks) (n : LaneId) : Lane := b.lanes.get n

/-- The engine of lane `n` becomes `l`. -/
def Blocks.setLane (b : Blocks) (n : LaneId) (l : Lane) : Blocks := { b with lanes := b.lanes.set n.val l n.isLt }

/-- The engine of lane `n` is changed by `f`. -/
def Blocks.modLane (b : Blocks) (n : LaneId) (f : Lane → Lane) : Blocks := b.setLane n (f (b.lane n))

/-- All slots, in ascending order. -/
def allSlots : List Slot := List.finRange 40

/-- All lanes, in ascending order. -/
def allLanes : List LaneId := List.finRange 4

/-! ### The unit index (R3) -/

/-- The entry number of a pair: lane times 32 plus unit. -/
def indexEntry (n : LaneId) (u : UnitAddr) : Fin 128 := ⟨n.val * 32 + u.val, by omega⟩

/-- The entry for a pair: a slot, or UNBOUND as `none`. -/
def Blocks.lookup (b : Blocks) (n : LaneId) (u : UnitAddr) : Option Slot := b.index.get (indexEntry n u)

/-- The entry for a pair becomes `e`. -/
def Blocks.setIndex (b : Blocks) (n : LaneId) (u : UnitAddr) (e : Option Slot) : Blocks :=
  { b with index := b.index.set (indexEntry n u).val e (indexEntry n u).isLt }

/-- The lowest-numbered FREE slot (R5). -/
def Blocks.lowestFree (b : Blocks) : Option Slot := allSlots.find? fun s => (b.ctx s).state == .free

/-! ### Fields of a binding -/

/-- The unit address a slot is bound to. No event reaches a FREE slot's (R3); its value there is 0 (log 31). -/
def Blocks.unitOf (b : Blocks) (s : Slot) : UnitAddr :=
  match (b.ctx s).binding with
  | some x => x.unit
  | none => 0

/-- The lane a slot is bound to (R3; log 31). -/
def Blocks.laneOf (b : Blocks) (s : Slot) : LaneId :=
  match (b.ctx s).binding with
  | some x => x.lane
  | none => 0

/-- The select retries of a slot's context (R15). -/
def Blocks.retriesOf (b : Blocks) (s : Slot) : Nat :=
  match (b.ctx s).binding with
  | some x => x.selectRetries
  | none => 0

/-- The slot is bound to lane `n`. -/
def Blocks.onLane (b : Blocks) (s : Slot) (n : LaneId) : Bool :=
  match (b.ctx s).binding with
  | some x => x.lane == n
  | none => false

/-- The number of a lane's contexts in running states (R44). -/
def Blocks.runningOn (b : Blocks) (n : LaneId) : Nat :=
  (allSlots.filter fun s => b.onLane s n && (b.ctx s).state.running).length

/-! ### Fields of a lane engine -/

/-- Enable: 0 exactly in L_DISABLED (TABLE 31). -/
def Lane.enable (l : Lane) : Bool := l.state != .disabled

/-- The slot of the served context. -/
def Lane.servedSlot (l : Lane) : Option Slot := l.served.map (·.slot)

/-- The direction of the live descriptor in effect. -/
def Lane.dir (l : Lane) : Direction :=
  match l.desc with
  | some d => d.dir
  | none => .noData

/-- The flags of the live descriptor in effect. -/
def Lane.dflags (l : Lane) : DescFlags :=
  match l.desc with
  | some d => d.flags
  | none => ⟨false, false, false, false, false⟩

/-- The end of the data area of the live descriptor in effect. -/
def Lane.areaEnd (l : Lane) : Nat :=
  match l.desc with
  | some d => d.addr + d.count
  | none => 0

/-- The unit address of the served context. -/
def Blocks.servedUnit (b : Blocks) (n : LaneId) : UnitAddr :=
  match (b.lane n).served with
  | some sv => b.unitOf sv.slot
  | none => 0

/-- The response timer starts against the lane's limit at this moment (R81, R93). -/
def Lane.startTimer (l : Lane) : Lane := { l with timer := some ⟨0, l.limit⟩ }

/-- The response timer stops and is cleared (R81). -/
def Lane.stopTimer (l : Lane) : Lane := { l with timer := none }

/-- The receiver once a BREAK begins or the lane is disabled: a frame it was assembling is lost (R74). -/
def Receiver.deafened : Receiver → Receiver
  | .listening | .assembling _ => .listening
  | .lostFooting => .lostFooting

/-- The receiver is assembling a frame. -/
def Receiver.isAssembling : Receiver → Bool
  | .assembling _ => true
  | .listening | .lostFooting => false

/-- The oldest frame that waits goes out, at the lane's present rate (R46), when the pair is free for it: no frame is on
the wire, and the receiver is not assembling one (R74, R75; logs 8 and 9). -/
def Lane.drive (l : Lane) : Lane :=
  if l.tx.isNone && !l.rx.isAssembling then
    match l.txQueue with
    | [] => l
    | f :: rest => { l with tx := some ⟨f, l.rate⟩, txQueue := rest }
  else l

/-- The lane sends a frame: at once, or when the frames before it have gone and the frame being received has ended (logs
8 and 9). -/
def Lane.send (l : Lane) (f : PartFrame) : Lane := Lane.drive { l with txQueue := l.txQueue ++ [f] }

/-- The frame being received has ended, taken or discarded; a frame that waits goes out (R75, R80; log 9). -/
def Lane.endReception (l : Lane) (rx : Receiver) : Lane := Lane.drive { l with rx := rx }

/-- The frames the lane has sent whose last stop bit has not passed: the one on the wire, and those that wait. -/
def Lane.outgoing (l : Lane) : List PartFrame := (l.tx.map (·.frame)).toList ++ l.txQueue

/-- Lane `n` sends a frame. -/
def Blocks.send (b : Blocks) (n : LaneId) (f : PartFrame) : Blocks := b.modLane n (·.send f)

/-- LnDE (R74, R76): asserted while the lane sends a frame or the space of a BREAK. -/
def Lane.driverEnable (l : Lane) : Bool :=
  l.tx.isSome ||
    match l.brk with
    | some k => k.phase == .space
    | none => false

/-- LnTXD (R74, R76). While a frame is sent it depends on the bit time `k`, counted from the assertion of LnDE; the space
of a BREAK is at space; at every other time it rests at mark. -/
def Lane.txd (l : Lane) (k : Nat) : Level :=
  match l.tx with
  | some t => t.frame.levels.getD k .mark
  | none => if l.driverEnable then .space else .mark

/-- The receiver listens: not in L_DISABLED, not during a BREAK or its recovery, not while the lane drives the pair
(R74). -/
def Lane.listens (l : Lane) : Bool := l.enable && l.brk.isNone && l.tx.isNone

/-- The live residual and data address after `k` more bytes are done (R2, R16). -/
def Lane.advance (l : Lane) (k : Nat) : Lane := { l with residual := l.residual - k, dataAddr := l.dataAddr + k }

/-- The lane has no memory request outstanding: it has completed or has been withdrawn (R137, R138). -/
def Lane.memDone (l : Lane) : Lane := { l with memReq := none }

/-! ### Staging halves -/

/-- The other half. -/
def Half.other : Half → Half
  | .h0 => .h1
  | .h1 => .h0

/-- The bytes of a half. -/
def Staging.get (st : Staging) : Half → List Byte
  | .h0 => st.h0
  | .h1 => st.h1

/-- A half holds `bytes`. -/
def Staging.put (st : Staging) (h : Half) (bytes : List Byte) : Staging :=
  match h with
  | .h0 => { st with h0 := bytes }
  | .h1 => { st with h1 := bytes }

/-- Bytes held in both halves. -/
def Staging.held (st : Staging) : Nat := st.h0.length + st.h1.length

/-- Inbound bytes are appended to the half being filled, and to the other half when that one reaches 64 (R110). -/
def Staging.takeIn (st : Staging) (bytes : List Byte) : Staging :=
  let room := 64 - (st.get st.fill).length
  let st1 := st.put st.fill (st.get st.fill ++ bytes.take room)
  if (st1.get st1.fill).length < 64 then st1
  else
    let st2 : Staging := { st1 with fill := st1.fill.other }
    st2.put st2.fill (st2.get st2.fill ++ bytes.drop room)

/-- An inbound half is emptied by its write (R111); the next to be emptied is the other when it holds bytes, else the
half being filled. -/
def Staging.emptied (st : Staging) (h : Half) : Staging :=
  let st1 := st.put h []
  if (st1.get h.other).isEmpty then { st1 with drain := st1.fill } else { st1 with drain := h.other }

/-- `k` outbound bytes of the oldest filled half have been sent; when it becomes empty the other is next (R106). -/
def Staging.sent (st : Staging) (k : Nat) : Staging :=
  let st1 := st.put st.drain ((st.get st.drain).drop k)
  if (st1.get st1.drain).isEmpty then { st1 with drain := st1.drain.other } else st1

/-- Only the bytes of half `h` are kept. -/
def Staging.only (st : Staging) (h : Half) : Staging := st.put h.other []

end Sys2Proof.Machine
end

