-- ==== Sys2Proof/Machine/Memory.lean ====
section
/-!
DEFINITION. The memory port (07): asking, withdrawing, the arbiter and the issue of bursts.
-/
namespace Sys2Proof.Machine

/-- A lane's waiting request. -/
def MemPort.laneReq (m : MemPort) (n : LaneId) : Option MemReq := m.laneReqs.get n

/-- The waiting place of lane `n` becomes `r`. -/
def MemPort.setLaneReq (m : MemPort) (n : LaneId) (r : Option MemReq) : MemPort :=
  { m with laneReqs := m.laneReqs.set n.val r n.isLt }

/-- The lane after `n`, lane 0 following lane 3 (R139). -/
def nextLane (n : LaneId) : LaneId := n + 1

/-- The order in which the lanes are searched from the rotation pointer (R139). -/
def rotationOrder (n : LaneId) : List LaneId :=
  [n, nextLane n, nextLane (nextLane n), nextLane (nextLane (nextLane n))]

/-- The first waiting lane of the rotation (R139). -/
def MemPort.waitingLane (m : MemPort) : Option LaneId := (rotationOrder m.rotation).find? fun n => (m.laneReq n).isSome

/-- The bytes the transaction buffer takes at the grant: the `len` bytes of the half a data write names (R142). -/
def Blocks.grantBuffer (b : Blocks) (who : Requester) (r : MemReq) : List Byte :=
  match who, r.kind with
  | .lane n, .dataWrite h => ((b.lane n).staging.get h).take r.len
  | _, _ => []

/-- The transaction of a granted request, its first burst issued (R139); `none` for a request of no byte, which is
never asked for (R148). -/
def Blocks.transaction (b : Blocks) (who : Requester) (r : MemReq) : Option Txn :=
  match r.bursts with
  | [] => none
  | first :: rest =>
    some
      { requester := who, req := r, toIssue := rest, burst := first, buffer := b.grantBuffer who r, error := false,
        discard := false }

/-- The fetcher's request is granted (R139, step 1). -/
def Blocks.grantFetcher (b : Blocks) (r : MemReq) : Blocks :=
  { b with mem := { b.mem with fetchReq := none, grants := 0, inflight := b.transaction .fetcher r } }

/-- Lane `n`'s request is granted (R139, step 2). -/
def Blocks.grantLane (b : Blocks) (n : LaneId) (r : MemReq) : Blocks :=
  { b with
    mem :=
      { b.mem.setLaneReq n none with
        rotation := nextLane n
        grants := if b.mem.fetchReq.isSome then b.mem.grants + 1 else 0
        inflight := b.transaction (.lane n) r } }

/-- The grant decision (R139). It is taken only with no transaction in flight. -/
def Blocks.portDecision (b : Blocks) : Blocks :=
  if b.mem.inflight.isSome then b
  else
    match b.mem.fetchReq, b.mem.waitingLane with
    | none, none => b
    | some r, none => b.grantFetcher r
    | some r, some n =>
      if Config.laneGrantLimit ≤ b.mem.grants then b.grantFetcher r
      else
        match b.mem.laneReq n with
        | some q => b.grantLane n q
        | none => b
    | none, some n =>
      match b.mem.laneReq n with
      | some q => b.grantLane n q
      | none => b

/-- The transaction in flight has completed: it becomes absent, and the port decides (R139, R143). -/
def Blocks.portNext (b : Blocks) : Blocks := Blocks.portDecision { b with mem := { b.mem with inflight := none } }

/-- The fetcher asks for the read of the fetch in progress (R137). -/
def Blocks.askFetcher (b : Blocks) (addr : Addr48) : Blocks :=
  { b with mem := { b.mem with fetchReq := some ⟨.descriptor, addr.toNat, 16⟩ } }.portDecision

/-- Lane `n` asks (R137). -/
def Blocks.askLane (b : Blocks) (n : LaneId) (r : MemReq) : Blocks :=
  { b with mem := b.mem.setLaneReq n (some r) }.portDecision

/-- The fetcher withdraws its waiting request; the lane-grant counter becomes 0 (R138). -/
def Blocks.withdrawFetcher (b : Blocks) : Blocks :=
  { b with mem := { b.mem with fetchReq := none, grants := 0 } }

/-- Lane `n` withdraws its waiting request (R138). -/
def Blocks.withdrawLane (b : Blocks) (n : LaneId) : Blocks := { b with mem := b.mem.setLaneReq n none }

/-- The discard mark of the transaction in flight is set when `who` asked for it (R145). -/
def MemPort.discardOf (m : MemPort) (who : Requester) : MemPort :=
  { m with inflight := m.inflight.map fun t => if t.requester = who then { t with discard := true } else t }

/-- A lane reset at the port (R145): the waiting request is dropped, the transaction in flight marked. -/
def Blocks.portLaneReset (b : Blocks) (n : LaneId) : Blocks :=
  { b with mem := (b.mem.setLaneReq n none).discardOf (.lane n) }

/-- A soft reset at the port (R146): every waiting request dropped, the transaction in flight marked. -/
def MemPort.drained (m : MemPort) : MemPort :=
  { MemPort.reset with inflight := m.inflight.map fun t => { t with discard := true } }

end Sys2Proof.Machine
end

