-- ==== Sys2Proof/Machine/Fetcher.lean ====
section
/-!
DEFINITION. The fetch queue and the fetch in progress (03, 3.8 and 3.10).
-/
namespace Sys2Proof.Machine

/-- The first read address of a fetch (R57): the chain address, or the chain address plus 16 for a LINK-class fetch. -/
def firstReadAddr (cls : FetchClass) (chainAddr : Addr48) : Addr48 :=
  match cls with
  | .start => chainAddr
  | .link => chainAddr + 16

/-- An idle fetcher takes the head of the fetch queue and asks for its first read (R68). -/
def Blocks.fetchBegin (b : Blocks) : Blocks :=
  match b.fetch, b.fetchQ with
  | none, e :: rest =>
    let addr := firstReadAddr e.cls (b.ctx e.slot).chainAddr
    let b1 : Blocks := { b with fetchQ := rest, fetch := some ⟨e.slot, e.cls, addr, 0, false⟩ }
    b1.askFetcher addr
  | _, _ => b

/-- A START entry joins at the tail (R67). -/
def Blocks.appendStart (b : Blocks) (s : Slot) : Blocks :=
  Blocks.fetchBegin { b with fetchQ := b.fetchQ ++ [⟨s, .start⟩] }

/-- A LINK entry stands after the last LINK entry and before the first START entry (R67). -/
def insertLink (q : List FetchEntry) (s : Slot) : List FetchEntry :=
  q.takeWhile (fun e => e.cls == .link) ++ ⟨s, .link⟩ :: q.dropWhile (fun e => e.cls == .link)

/-- A LINK entry joins (R67). -/
def Blocks.appendLink (b : Blocks) (s : Slot) : Blocks :=
  Blocks.fetchBegin { b with fetchQ := insertLink b.fetchQ s }

/-- The entries of a slot leave the queue. -/
def Blocks.dropFetchEntry (b : Blocks) (s : Slot) : Blocks :=
  { b with fetchQ := b.fetchQ.filter fun e => e.slot != s }

/-- A slot's claim on the fetcher is given up (R73): its entry leaves the queue; an ungranted read is withdrawn and the
fetch ends, so that the fetcher may begin its next (R68); a granted read gets the discard mark. The withdrawal sets the
lane-grant counter to 0 (R138) in a lane reset too (log 39). -/
def Blocks.withdrawFetch (b : Blocks) (s : Slot) : Blocks :=
  let b1 := b.dropFetchEntry s
  match b1.fetch with
  | none => b1
  | some f =>
    if f.slot = s then
      if b1.mem.fetchReq.isSome then Blocks.fetchBegin { b1.withdrawFetcher with fetch := none }
      else { b1 with fetch := some { f with discard := true } }
    else b1

end Sys2Proof.Machine
end

