-- ==== Sys2Proof/Machine/Reports.lean ====
section
/-!
DEFINITION. The report unit (08): building and posting reports, notes, and what the attention slot shows.
-/
namespace Sys2Proof.Machine

/-- The kind of a slot's entry in the report queue, when it has one (R11, R149). -/
def Blocks.entryOf (b : Blocks) (s : Slot) : Option EntryKind :=
  (b.reports.queue.find? fun e => e.slot == s).map (·.kind)

/-- A FINAL entry for the slot: its entry becomes FINAL in its place, or one is appended at the tail (R157). -/
def postFinalEntry (q : List ReportEntry) (s : Slot) : List ReportEntry :=
  if q.any (fun e => e.slot == s) then q.map fun e => if e.slot == s then ⟨s, .final⟩ else e
  else q ++ [⟨s, .final⟩]

/-- The final report built from the record (R150, R151), with the class chosen (R152) and its reason (R153). -/
def Context.buildReport (c : Context) (s : Slot) (named : List Named) : FinalReport :=
  let chosen := chooseClass named
  { slot := s
    lane := match c.binding with | some x => x.lane | none => 0
    unit := match c.binding with | some x => x.unit | none => 0
    cookie := match c.binding with | some x => x.cookie | none => 0
    cls := chosen.cls
    reason := chosen.reason
    status := c.lastStatus
    residual := c.residual
    descAddr := c.chainAddr
    noteCount := match c.note with | some k => k.count | none => 0
    noteAddr := c.note.map (·.addr)
    flags := c.flags }

/-- The context enters REPORTED with its final report, its pending note passed into it, awaiting and the detach timer
absent (R7, steps 3 to 5). -/
def Context.toReported (c : Context) (s : Slot) (named : List Named) : Context :=
  { c with state := .reported, final := some (c.buildReport s named), note := none, awaiting := none, timer := none }

/-- The final report of slot `s` is built and its FINAL entry posted (R7, R157). No run ends the context of a FREE slot,
which would post nothing (log 31). -/
def Blocks.postFinal (b : Blocks) (s : Slot) (named : List Named) : Blocks :=
  if (b.ctx s).state = .free then b
  else
    { b.modCtx s (·.toReported s named) with
      reports := { b.reports with queue := postFinalEntry b.reports.queue s } }

/-- The pending note after one more note of the descriptor at `addr` (R8, R156). -/
def nextNote (old : Option PendingNote) (addr : Addr48) : PendingNote :=
  match old with
  | none => ⟨1, addr⟩
  | some k => ⟨min 255 (k.count + 1), addr⟩

/-- A context whose notes are posted: CONNECTED or HALTING (R8). -/
def CtxState.notes : CtxState → Bool
  | .connected | .halting => true
  | .free | .idle | .loading | .ready | .detached | .reported => false

/-- A note is posted for slot `s`, whose live fields have been written back (R8, steps 2 and 3; R156). No run posts one for
a context neither CONNECTED nor HALTING (log 31). -/
def Blocks.postNoteEntry (b : Blocks) (s : Slot) : Blocks :=
  let c := b.ctx s
  let q := b.reports.queue
  if c.state.notes then
    { b.setCtx s { c with note := some (nextNote c.note c.chainAddr) } with
      reports := { b.reports with queue := if c.note.isSome then q else q ++ [⟨s, .note⟩] } }
  else b

/-! ### The attention slot (R160) -/

/-- The content of the attention slot, the update count apart. -/
structure Shown where
  slot : Slot
  lane : LaneId
  unit : UnitAddr
  cookie : Word
  kind : EntryKind
  cls : Option ReportClass
  reason : Option Reason
  status : Option Byte
  residual : Nat
  descAddr : Addr48
  noteCount : Nat
  noteAddr : Option Addr48
  flags : CtxFlags
  deriving DecidableEq, Repr

/-- The note report of a context (R155). -/
def Context.noteShown (c : Context) (s : Slot) : Shown :=
  { slot := s
    lane := match c.binding with | some x => x.lane | none => 0
    unit := match c.binding with | some x => x.unit | none => 0
    cookie := match c.binding with | some x => x.cookie | none => 0
    kind := .note
    cls := none
    reason := none
    status := none
    residual := 0
    descAddr := match c.note with | some k => k.addr | none => 0
    noteCount := match c.note with | some k => k.count | none => 0
    noteAddr := c.note.map (·.addr)
    flags := .empty }

/-- The final report as the slot shows it (R150, R160). -/
def FinalReport.shown (r : FinalReport) : Shown :=
  { slot := r.slot
    lane := r.lane
    unit := r.unit
    cookie := r.cookie
    kind := .final
    cls := some r.cls
    reason := r.reason
    status := r.status
    residual := r.residual
    descAddr := r.descAddr
    noteCount := r.noteCount
    noteAddr := r.noteAddr
    flags := r.flags }

/-- What the attention slot shows: the report of the queue's head entry, nothing when the queue is empty (R160). -/
def Blocks.shown (b : Blocks) : Option Shown :=
  match b.reports.queue with
  | [] => none
  | e :: _ =>
    match e.kind, (b.ctx e.slot).final with
    | .final, some r => some r.shown
    | .final, none => some ((b.ctx e.slot).noteShown e.slot)
    | .note, _ => some ((b.ctx e.slot).noteShown e.slot)

/-- The blocks after an event that made `after` of `before`: the update count rises by one exactly when what the attention
slot shows has changed (R161; log 26). -/
def Blocks.settled (before after : Blocks) : Blocks :=
  { after with
    reports :=
      { after.reports with
        update := if after.shown = before.shown then before.reports.update else before.reports.update + 1 } }

/-- An event of the blocks behind the request port: `f` is what it does, and the update count follows (R161). -/
def State.onBlocks (s : State) (f : Blocks → Blocks) : State := { s with blocks := s.blocks.settled (f s.blocks) }

end Sys2Proof.Machine
end

