-- ==== Sys2Proof/Machine/Window.lean ====
section
/-!
DEFINITION. The start window (06): young records, grants and the permit queue.
-/
namespace Sys2Proof.Machine

/-- The young count (R128). -/
def Window.youngCount (w : Window) : Nat := (w.ledger.filter fun r => decide (r.age < w.windowUs)).length

/-- The ledger with the record of a grant: the oldest record leaves when it already holds 8 (R127). -/
def appendRecord (ledger : List LedgerRec) (r : LedgerRec) : List LedgerRec :=
  if Config.ledgerCapacity ≤ ledger.length then ledger.drop 1 ++ [r] else ledger ++ [r]

/-- A grant may be made: a lane waits and the young count is below START_LIMIT (R131). -/
def Window.mayGrant (w : Window) : Bool := !w.permits.isEmpty && decide (w.youngCount < w.startLimit)

/-- The CMD of the descriptor in effect (R104): its code, direction and count, or 0 for NONE. -/
def cmdFrame (u : UnitAddr) (d : Descriptor) : PartFrame :=
  .cmd u d.code d.dir (if d.dir = .noData then 0 else d.count)

/-- The granted lane sends CMD: both toggles 0, no last inbound chunk, L_COMMANDING (R104). -/
def Lane.command (l : Lane) (u : UnitAddr) : Lane :=
  let l1 := { l with state := .commanding, outToggle := false, inToggle := false, lastIn := none }
  match l.desc with
  | some d => l1.send (cmdFrame u d)
  | none => l1

/-- The head lane of the permit queue is granted (R131): it leaves the queue, its record joins the ledger, and it sends
its CMD. -/
def Blocks.grantHead (b : Blocks) : Blocks :=
  match b.window.permits with
  | [] => b
  | n :: rest =>
    let w : Window := { b.window with permits := rest, ledger := appendRecord b.window.ledger ⟨b.timebase.count, 0⟩ }
    Blocks.modLane { b with window := w } n (·.command (b.servedUnit n))

/-- Grants one after another while each may be made, at most `fuel` of them. -/
def Blocks.grantRun : Nat → Blocks → Blocks
  | 0, b => b
  | fuel + 1, b => if b.window.mayGrant then b.grantHead.grantRun fuel else b

/-- A grant decision and those that follow each grant (R131). Every asking is then answered. -/
def Blocks.grantDecision (b : Blocks) : Blocks :=
  Blocks.grantRun b.window.permits.length { b with window := { b.window with asked := false } }

/-- The decision that a joining brought is taken where it has not been yet (R131). -/
def Blocks.decideIfAsked (b : Blocks) : Blocks := if b.window.asked then b.grantDecision else b

/-- Lane `n` enters L_PERMIT_WAIT and joins the permit queue at the tail (R104, R130). Where the window has room, the decision
this brings is owed (R131): `State.onBlocksAsking` takes it, or leaves it to come after another event. -/
def Blocks.joinPermit (b : Blocks) (n : LaneId) : Blocks :=
  let b1 := b.modLane n fun l => { l with state := .permitWait, timer := none }
  let w : Window := { b1.window with permits := b1.window.permits ++ [n] }
  { b1 with window := { w with asked := w.asked || w.mayGrant } }

/-- Lane `n` leaves the permit queue without a grant (R132, R134); with no lane left no decision is owed. -/
def Blocks.leavePermit (b : Blocks) (n : LaneId) : Blocks :=
  let rest := b.window.permits.filter fun k => k != n
  { b with window := { b.window with permits := rest, asked := b.window.asked && !rest.isEmpty } }

/-! ### Between asking and grant (R131, R132) -/

/-- The lane that a waiting command may take out of L_PERMIT_WAIT (R132): a HALT or a RESET_LANE at the head of the request
FIFO names it, or a frame begins or is taken on it. -/
def withdrawnBy (reqs : List Request) : Instr → Option LaneId
  | .haltUnit | .resetLane => reqs.head?.map (·.lane)
  | .frameFirstStartBit n | .frameAttn n _ _ _ | .frameEcho n _ | .frameAcpt n _ _ | .frameNeed n _ _ | .frameDin n _ _ _
  | .frameWait n _ | .frameEnd n _ _ => some n
  | _ => none

/-- The next command that waits is such an event of a lane in the permit queue of `w`. -/
def State.withdrawalWaits (s : State) (w : Window) : Bool :=
  match s.pending.head?.bind (withdrawnBy s.port.reqs) with
  | some n => w.permits.contains n
  | none => false

/-- The decision that a joining in this event brought: it is taken in the event; where a withdrawal of a lane waits to be
taken, that may come first, and which does is a free value (R131, R132; log 38). -/
def Blocks.answerAsking (b : Blocks) (withdrawalWaits : Bool) : Blocks :=
  if withdrawalWaits && b.window.asked then
    let b1 : Blocks := { b with choice := b.choice + 1 }
    if Config.grantWaits b.choice then b1 else b1.grantDecision
  else b.decideIfAsked

/-- An event in which a lane may ask for a permit: `f`, then the decision its asking brings. A decision owed from an earlier
event is left to the events that take it: an expiry event, POLICY, the next tick, or the block on an empty queue. -/
def State.onBlocksAsking (s : State) (f : Blocks → Blocks) : State :=
  s.onBlocks fun b =>
    if b.window.asked then f b else (f b).answerAsking (s.withdrawalWaits (f b).window)

/-- What the block does of itself while no command waits: a decision that is owed (R131; log 38). -/
def State.idle (s : State) : State := if s.blocks.window.asked then s.onBlocks Blocks.grantDecision else s

end Sys2Proof.Machine
end

