-- ==== Sys2Proof/Machine/Lanes.lean ====
section
/-!
DEFINITION. The lane engine's own operations (05, 09): service choice, the start and the end of a connection, the data
pumps, closing, and the abort. The commands of the families call these.
-/
namespace Sys2Proof.Machine

/-! ### Service choice (R97, R99, R102) -/

/-- Work waits: the halt list or the ready queue is not empty. -/
def Lane.hasWork (l : Lane) : Bool := !l.haltList.isEmpty || !l.readyQ.isEmpty

/-- Case 1 of R97: the choice is a poll. -/
def Lane.wantsPoll (l : Lane) : Bool := l.atn && !l.lineStuck && (decide (l.pollRun < 4) || !l.hasWork)

/-- The lane chooses to poll (R97, R99). -/
def Lane.startPoll (l : Lane) : Lane :=
  let l1 : Lane := { l with state := .polling, pollRun := if l.hasWork then l.pollRun + 1 else 0 }
  l1.send .poll

/-- The lane chooses slot `s` for a selection and sends its first SEL (R97, R102). -/
def Lane.startSelection (l : Lane) (s : Slot) (kind : ServiceKind) (u : UnitAddr) : Lane :=
  let l1 : Lane :=
    { l with state := .selecting, served := some ⟨s, kind⟩, attempts := 1, mismatch := false, pollRun := 0 }
  l1.send (.sel u)

/-- The service choice of a lane in L_IDLE that no BREAK holds out of service (R97); any other lane makes none. -/
def Blocks.serviceChoice (b : Blocks) (n : LaneId) : Blocks :=
  let l := b.lane n
  if l.state == .idle && l.brk.isNone then
    if l.wantsPoll then b.setLane n l.startPoll
    else
      match l.haltList, l.readyQ with
      | s :: _, _ => b.setLane n (l.startSelection s .haltSelection (b.unitOf s))
      | [], s :: _ => b.setLane n (l.startSelection s .readySelection (b.unitOf s))
      | [], [] => b
  else b

/-- The lane enters L_IDLE and makes a service choice (R97). -/
def Blocks.enterIdle (b : Blocks) (n : LaneId) : Blocks :=
  (b.modLane n fun l => { l with state := .idle, timer := none }).serviceChoice n

/-- A slot joins its lane's ready queue (R12, R98). -/
def Blocks.appendReady (b : Blocks) (n : LaneId) (s : Slot) : Blocks :=
  (b.modLane n fun l => { l with readyQ := l.readyQ ++ [s] }).serviceChoice n

/-- A slot joins its lane's halt list (R98). -/
def Blocks.appendHalt (b : Blocks) (n : LaneId) (s : Slot) : Blocks :=
  (b.modLane n fun l => { l with haltList := l.haltList ++ [s] }).serviceChoice n

/-- A slot leaves both lists of its lane (R98). -/
def Blocks.dropFromLists (b : Blocks) (n : LaneId) (s : Slot) : Blocks :=
  b.modLane n fun l => { l with readyQ := l.readyQ.filter (· != s), haltList := l.haltList.filter (· != s) }

/-! ### The beginning and the end of a connection -/

/-- The live fields are loaded from a record and the transfer items start afresh (R16, R92, R100, R103). -/
def Lane.loadLive (l : Lane) (c : Context) : Lane :=
  { l with
    desc := c.desc
    residual := c.residual
    dataAddr := c.dataAddr
    rxResidual := c.residual
    stagingAddr := c.dataAddr
    lengthCond := c.lengthCond
    notePosted := false
    doutOwed := 0
    heldNeed := none
    staging := .empty
    credit := [] }

/-- The served context becomes absent: the halt notice, the selection items, the abort's items, the live fields and the
transfer items are cleared (R92, R122, R166). A memory request marked for discard stays. -/
def Lane.release (l : Lane) : Lane :=
  { l with
    served := none
    attempts := 0
    mismatch := false
    selOwed := false
    haltNotice := false
    abortCause := none
    abortPhase := .awaiting
    abortFault := none
    closing := none
    timer := none
    desc := none
    residual := 0
    dataAddr := 0
    rxResidual := 0
    stagingAddr := 0
    lengthCond := false
    notePosted := false
    doutOwed := 0
    heldNeed := none
    staging := .empty
    credit := [] }

/-- Slot `s` becomes the lane's served context in a connection, its live fields loaded from its record (R16). -/
def Blocks.connect (b : Blocks) (n : LaneId) (s : Slot) : Blocks :=
  b.modLane n fun l =>
    let l1 : Lane := { l with served := some ⟨s, .connection⟩, timer := none }
    l1.loadLive (b.ctx s)

/-- The live fields are written back into a record (R16). -/
def Context.writtenBack (c : Context) (l : Lane) : Context :=
  { c with desc := l.desc, residual := l.residual, dataAddr := l.dataAddr, lengthCond := l.lengthCond }

/-- The lane's live fields are written back into the record of the context it serves in a connection (R16). -/
def Blocks.writeBack (b : Blocks) (n : LaneId) : Blocks :=
  match (b.lane n).served with
  | some ⟨s, .connection⟩ => b.modCtx s (·.writtenBack (b.lane n))
  | some ⟨_, .readySelection⟩ | some ⟨_, .haltSelection⟩ | none => b

/-- The lane sends DESEL to the unit of the context it serves. -/
def Blocks.sendDesel (b : Blocks) (n : LaneId) : Blocks := b.send n (.desel (b.servedUnit n))

/-- The ending of slot `s` is taken with the classes named (R7): its claims are removed, and its final report is built and
posted. -/
def Blocks.endContext (b : Blocks) (s : Slot) (named : List Named) : Blocks :=
  ((b.dropFromLists (b.laneOf s) s).withdrawFetch s).postFinal s named

/-- The ending of the context the lane serves in a connection: write-back, ending, and the lane free again (R7, R119). -/
def Blocks.endServed (b : Blocks) (n : LaneId) (named : List Named) : Blocks :=
  match (b.lane n).servedSlot with
  | some s => (((b.writeBack n).endContext s named).modLane n (·.release)).enterIdle n
  | none => b

/-- A CONNECTED context detaches: DETACHED awaiting `aw` with its detach timer (R18, R21). One that is HALTING does not
change (R18); a served context is one of the two (log 31). -/
def Context.detached (c : Context) (aw : Awaiting) : Context :=
  if c.state = .connected then
    let limit := match c.binding with | some x => x.detachLimit | none => 0
    { c with state := .detached, awaiting := some aw, timer := if limit = 0 then none else some ⟨limit, 0⟩ }
  else c

/-- The end of a connection by a detach (R18, R116): write-back, DESEL, DETACHED or the halt list, and the lane free
again. -/
def Blocks.detachContext (b : Blocks) (n : LaneId) (aw : Awaiting) : Blocks :=
  match (b.lane n).servedSlot with
  | some s =>
    let b1 := ((b.writeBack n).sendDesel n).modCtx s (·.detached aw)
    let b2 := b1.modLane n fun l =>
      let l1 := l.release
      if (b1.ctx s).state = .halting then { l1 with haltList := l1.haltList ++ [s] } else l1
    b2.enterIdle n
  | none => b

/-- The note of the descriptor in effect is posted when it has NOTE and its mark is clear (R8, R65). -/
def Blocks.postNote (b : Blocks) (n : LaneId) : Blocks :=
  let l := b.lane n
  match l.servedSlot with
  | some s =>
    if l.dflags.note && !l.notePosted then
      ((b.writeBack n).postNoteEntry s).modLane n fun l => { l with notePosted := true }
    else b
  | none => b

/-- The context served is HALTING. -/
def Blocks.servedHalting (b : Blocks) (n : LaneId) : Bool :=
  match (b.lane n).servedSlot with
  | some s => (b.ctx s).state == .halting
  | none => false

/-- A status byte is taken for the served context (R17). -/
def Blocks.takeStatus (b : Blocks) (n : LaneId) (status : Byte) : Blocks :=
  match (b.lane n).servedSlot with
  | some s => b.modCtx s (·.takeStatus status)
  | none => b

/-- The flags of the served context are changed by `f`. -/
def Blocks.addServedFlag (b : Blocks) (n : LaneId) (f : CtxFlags → CtxFlags) : Blocks :=
  match (b.lane n).servedSlot with
  | some s => b.modCtx s fun c => { c with flags := f c.flags }
  | none => b

/-! ### Selection (R102, R171) -/

/-- No attempt remains: the selection fails (R15, R27, R102). -/
def Blocks.selectionFailed (b : Blocks) (n : LaneId) : Blocks :=
  match (b.lane n).served with
  | some ⟨s, .haltSelection⟩ =>
    let b1 := b.modCtx s fun c => { c with flags := c.flags.addAbortUnconfirmed }
    ((b1.endContext s [haltClass (b1.ctx s).haltCause]).modLane n (·.release)).enterIdle n
  | some ⟨s, .readySelection⟩ =>
    let cls := if (b.lane n).mismatch then ReportClass.linkError else ReportClass.noUnit
    ((b.endContext s [plain cls]).modLane n (·.release)).enterIdle n
  | some ⟨_, .connection⟩ | none => b

/-- Attempts remain for the selection in course (R15, R102). -/
def Blocks.attemptsRemain (b : Blocks) (n : LaneId) : Bool :=
  match (b.lane n).servedSlot with
  | some s => decide ((b.lane n).attempts < 1 + b.retriesOf s)
  | none => false

/-- The next SEL of the selection in course (R102). -/
def Blocks.nextAttempt (b : Blocks) (n : LaneId) : Blocks :=
  (b.modLane n fun l => { l with attempts := l.attempts + 1, selOwed := false, timer := none }).send n
    (.sel (b.servedUnit n))

/-- The lost attempt ends (R171). -/
def Blocks.endLostAttempt (b : Blocks) (n : LaneId) : Blocks :=
  (b.modLane n fun l => { l with lostAttempt := none }).enterIdle n

/-- A READY context that a selection is being made of is taken from it (R24, R171): the attempt in course becomes a lost
attempt; between a mismatch and its next SEL no attempt is in course and the lane returns to L_IDLE (log 17). -/
def Blocks.loseSelection (b : Blocks) (n : LaneId) (u : UnitAddr) : Blocks :=
  if (b.lane n).selOwed then (b.modLane n (·.release)).enterIdle n
  else
    b.modLane n fun l => { l with served := none, attempts := 0, mismatch := false, lostAttempt := some u }

/-! ### Data pumps (R106, R107, R109, R111) -/

/-- The next DOUT is sent when one is owed, a filled half has bytes, and nothing holds it back: no frame on the wire or
being received (R75), no halt notice (R107, R168). -/
def Blocks.sendDout (b : Blocks) (n : LaneId) : Blocks :=
  let l := b.lane n
  let bytes := (l.staging.get l.staging.drain).take 16
  if l.doutOwed ≠ 0 ∧ l.tx.isNone ∧ l.rx.isAssembling = false ∧ l.haltNotice = false ∧ bytes ≠ [] then
    b.send n (.dout (b.servedUnit n) l.outToggle bytes)
  else b

/-- The next staging read is asked for (R106). -/
def Blocks.askRead (b : Blocks) (n : LaneId) : Blocks :=
  let l := b.lane n
  let half := l.staging.fill
  if l.memReq.isNone ∧ l.staging.get half = [] ∧ l.stagingAddr < l.areaEnd then
    let len := min 64 (l.areaEnd - l.stagingAddr)
    let b1 := b.modLane n fun l =>
      { l with
        stagingAddr := l.stagingAddr + len
        staging := { l.staging with fill := half.other }
        memReq := some ⟨false, half, len, false⟩ }
    b1.askLane n ⟨.dataRead half, l.stagingAddr, len⟩
  else b

/-- The next staging write is asked for: of the oldest half, when it is full, or no byte of the descriptor is still to be
received, or the lane is closing (R111, R119). -/
def Blocks.askWrite (b : Blocks) (n : LaneId) : Blocks :=
  let l := b.lane n
  let half := l.staging.drain
  let len := (l.staging.get half).length
  if l.dir = .inbound ∧ l.memReq.isNone ∧ len ≠ 0 ∧ (64 ≤ len ∨ l.rxResidual = 0 ∨ l.closing.isSome) then
    (b.modLane n fun l => { l with memReq := some ⟨true, half, len, false⟩ }).askLane n ⟨.dataWrite half, l.dataAddr, len⟩
  else b

/-- A held NEED is served from the new data; DOUTs carried over are served before it (R114; log 19). -/
def Lane.takeHeldNeed (l : Lane) : Lane :=
  match l.heldNeed with
  | some k => if l.dir = .outbound ∧ l.doutOwed = 0 then { l with doutOwed := k, heldNeed := none } else l
  | none => l

/-- The residual that no credit covers (R109). -/
def Lane.uncovered (l : Lane) : Nat := l.rxResidual - l.credit.sum

/-- The free 16-byte places of staging (R109). -/
def Lane.freePlaces (l : Lane) : Nat := (128 - (l.staging.held + 16 * l.credit.length)) / 16

/-- The chunk count of a GRANT (R109). -/
def Lane.grantChunks (l : Lane) : Nat := min (min 8 l.freePlaces) ((l.uncovered + 15) / 16)

/-- The tail size of a GRANT: what the other chunks leave uncovered, at most 16 (R109). -/
def Lane.grantTail (l : Lane) : Nat := min 16 (l.uncovered - 16 * (l.grantChunks - 1))

/-- GRANT may be sent (R109, R168). -/
def Lane.mayGrant (l : Lane) : Bool :=
  l.dir == .inbound && l.credit.isEmpty && decide (0 < l.uncovered) && decide (0 < l.freePlaces)
    && !l.rx.isAssembling && l.tx.isNone && !l.haltNotice

/-- GRANT is sent when it may be (R109). A NEED that was held is answered by it. -/
def Blocks.sendGrant (b : Blocks) (n : LaneId) : Blocks :=
  let l := b.lane n
  if l.mayGrant then
    (b.modLane n fun l =>
        { l with credit := List.replicate (l.grantChunks - 1) 16 ++ [l.grantTail], heldNeed := none }).send n
      (.grant (b.servedUnit n) l.grantChunks l.grantTail)
  else b

/-! ### Entering L_LINK_FETCH, closing, and the end of an abort -/

/-- The lane enters L_LINK_FETCH and asks for a LINK-class fetch of its served slot (R113). -/
def Blocks.enterLinkFetch (b : Blocks) (n : LaneId) : Blocks :=
  match (b.lane n).servedSlot with
  | some s => (b.modLane n fun l => { l with state := .linkFetch, timer := none }).appendLink s
  | none => b

/-- Closing ends: no memory request is outstanding and staging is empty (R117, R119, R170). -/
def Blocks.closingEnd (b : Blocks) (n : LaneId) : Blocks :=
  let l := b.lane n
  match l.closing with
  | none => b
  | some .detach =>
    if l.dir = .inbound ∧ l.dflags.linkData ∧ l.residual = 0 ∧ b.servedHalting n = false then
      (b.writeBack n).enterLinkFetch n
    else b.detachContext n .resume
  | some .linkCommand =>
    if b.servedHalting n then (b.sendDesel n).endServed n []
    else ((b.writeBack n).modLane n fun l => { l with closing := none }).enterLinkFetch n
  | some (.outcome named) => (b.sendDesel n).endServed n named

/-- The classes an abort's ending names: that of its cause, and DATA_FAULT when a request failed meanwhile (R121,
R122). -/
def Lane.abortNames (l : Lane) (haltCause : Option HaltCause) : List Named :=
  (match l.abortCause with
    | some c => [c.named haltCause]
    | none => [])
    ++ (match l.abortFault with
        | some r => [⟨.dataFault, some r⟩]
        | none => [])

/-- The abort's ending is taken, its END taken or never come, and no memory request outstanding (R122, R123). -/
def Blocks.abortEnd (b : Blocks) (n : LaneId) : Blocks :=
  let l := b.lane n
  match l.servedSlot, l.abortPhase with
  | some s, .confirmed => b.endServed n (l.abortNames (b.ctx s).haltCause)
  | some s, .unconfirmed =>
    let b1 := b.addServedFlag n CtxFlags.addAbortUnconfirmed
    let b2 := (b1.writeBack n).endContext s (l.abortNames (b.ctx s).haltCause)
    let b3 := b2.modLane n fun l => { l.release with state := .fault, faultCause := some .abortTimeout }
    { b3 with laneFault := b3.laneFault.set n.val true n.isLt }
  | some _, .awaiting | none, _ => b

/-- The lane does what its state and its memory work now allow: DOUT and staging reads, staging writes and GRANT, the end
of closing, the end of an abort. -/
def Blocks.pump (b : Blocks) (n : LaneId) : Blocks :=
  let l := b.lane n
  match l.state with
  | .transfer =>
    match l.dir with
    | .outbound => (b.sendDout n).askRead n
    | .inbound => (b.askWrite n).sendGrant n
    | .noData => b
  | .ending =>
    if l.closing.isSome && l.memReq.isNone && decide (l.staging.held = 0) then b.closingEnd n else b.askWrite n
  | .aborting => if l.memReq.isNone then b.abortEnd n else b
  | .disabled | .idle | .polling | .selecting | .permitWait | .commanding | .linkFetch | .fault => b

/-! ### Dropping memory work, ABORT (R120 to R122, R168) -/

/-- A waiting staging read is withdrawn, and one in flight has its data discarded (R116, R119, R122, R138). -/
def Blocks.dropRead (b : Blocks) (n : LaneId) : Blocks :=
  match (b.lane n).memReq with
  | some m =>
    if m.write || m.discard then b
    else if (b.mem.laneReq n).isSome then
      (b.withdrawLane n).modLane n fun l =>
        { l with memReq := none, stagingAddr := l.stagingAddr - m.len, staging := { l.staging with fill := m.half } }
    else b.modLane n fun l => { l with memReq := some { m with discard := true } }
  | none => b

/-- A waiting staging write is withdrawn (R120, R121, R138). -/
def Blocks.dropWrite (b : Blocks) (n : LaneId) : Blocks :=
  match (b.lane n).memReq with
  | some m =>
    if m.write && (b.mem.laneReq n).isSome then (b.withdrawLane n).modLane n (·.memDone) else b
  | none => b

/-- Staged bytes are discarded, but for those of a write that is kept (R120, R121, R168). -/
def Lane.keepWriteOnly (l : Lane) : Lane :=
  match l.memReq with
  | some m => if m.write && !m.discard then { l with staging := l.staging.only m.half } else { l with staging := .empty }
  | none => { l with staging := .empty }

/-- The abort's cause withdraws a waiting staging write (R138): a link error and a data fault do, a halt and a chain fault
do not (log 28). -/
def AbortCause.dropsWrite : AbortCause → Bool
  | .linkError | .dataFault _ => true
  | .chainFault _ | .halt => false

/-- The lane cancels all credit, withdraws its claims on the start window and the fetcher, drops its memory work as the
cause gives, sends ABORT and enters L_ABORTING (R120, R121, R122, R168). -/
def Blocks.enterAborting (b : Blocks) (n : LaneId) (cause : AbortCause) : Blocks :=
  let b1 := b.leavePermit n
  let b2 := match (b1.lane n).servedSlot with | some s => b1.withdrawFetch s | none => b1
  let b3 := b2.dropRead n
  let b4 := if cause.dropsWrite then b3.dropWrite n else b3
  let b5 := b4.modLane n fun l =>
    { l.keepWriteOnly with
      state := .aborting, abortCause := some cause, abortPhase := .awaiting, abortFault := none, closing := none
      credit := [], heldNeed := none, doutOwed := 0, timer := none }
  b5.send n (.abort (b5.servedUnit n))

/-- L_ENDING, closing (R119). -/
def Lane.isClosing (l : Lane) : Bool := l.state == .ending && l.closing.isSome

/-- A link error (R120). With the halt notice set it is the ABORT the halt required, with cause HALT (R169), except in
closing (R170). -/
def Blocks.linkError (b : Blocks) (n : LaneId) : Blocks :=
  let l := b.lane n
  b.enterAborting n (if l.haltNotice && !l.isClosing then .halt else .linkError)

/-- A data fault, taken by the lane's state (R121). -/
def Blocks.dataFault (b : Blocks) (n : LaneId) (r : Reason) : Blocks :=
  match (b.lane n).state with
  | .aborting => (b.modLane n fun l => { l with abortFault := some r }).pump n
  | .transfer | .linkFetch | .ending => b.enterAborting n (.dataFault r)
  | .disabled | .idle | .polling | .selecting | .permitWait | .commanding | .fault => b

/-! ### A halt at the lane (R168) -/

/-- The phase is the lane's turn on the pair (R168): the response timer is stopped in L_TRANSFER, no GRANT and no RESUME
that starts it is on the wire, or the lane is in L_LINK_FETCH after link-data. -/
def Lane.isLanesTurn (l : Lane) : Bool :=
  match l.state with
  | .linkFetch => l.dflags.linkData
  | .transfer =>
    l.timer.isNone &&
      match l.tx with
      | some ⟨.grant _ _ _, _⟩ => false
      | some ⟨.resume _, _⟩ => l.dir == .inbound && decide (0 < l.uncovered)
      | some _ | none => true
  | .disabled | .idle | .polling | .selecting | .permitWait | .commanding | .ending | .aborting | .fault => false

/-- With the halt notice set, the lane acts on it when it is its turn, no frame is being sent and none is being received
(R168); otherwise it goes on. -/
def Blocks.haltIfTurn (b : Blocks) (n : LaneId) : Blocks :=
  let l := b.lane n
  if l.haltNotice && l.isLanesTurn && l.tx.isNone && !l.rx.isAssembling then b.enterAborting n .halt else b.pump n

/-! ### Closing begins (R116, R118, R119) -/

/-- The lane cancels all credit, drops a held NEED and the DOUT owed, drops what an OUT command has staged, and enters the
closing phase of L_ENDING carrying `cl` (R116, R118, R119). -/
def Blocks.beginClosing (b : Blocks) (n : LaneId) (cl : Closing) : Blocks :=
  let b1 := b.dropRead n
  let b2 := b1.modLane n fun l =>
    { l with
      state := .ending, closing := some cl, credit := [], heldNeed := none, doutOwed := 0, timer := none
      staging := if l.dir = .outbound then .empty else l.staging }
  b2.pump n

/-- The lane sends STOP and enters L_ENDING awaiting END (R107, R108, R115). -/
def Blocks.sendStop (b : Blocks) (n : LaneId) : Blocks :=
  (b.modLane n fun l => { l with state := .ending, closing := none, doutOwed := 0, heldNeed := none, timer := none }).send n
    (.stop (b.servedUnit n))

/-- A NEED beyond the data chain (R63): STOP, LENGTH_LONG, and the length condition. -/
def Blocks.needBeyond (b : Blocks) (n : LaneId) : Blocks :=
  ((b.addServedFlag n CtxFlags.addLengthLong).modLane n fun l => { l with lengthCond := true }).sendStop n

end Sys2Proof.Machine
end

