-- ==== Sys2Proof/Machine/Chain.lean ====
section
/-!
DEFINITION. The end of a fetch (03, 3.8 and 3.9) and what the context and its lane make of a delivery or a chain fault
(R12 to R14, R114).
-/
namespace Sys2Proof.Machine

/-- The record after a delivery of `d`, read at `addr` (R12, R13). -/
def Context.delivered (c : Context) (d : Descriptor) (addr : Addr48) : Context :=
  { c with desc := some d, residual := d.count, dataAddr := d.addr, chainAddr := addr, lengthCond := false }

/-- The live fields after a LINK-class delivery: loaded from the new descriptor; toggles, DOUT owed and a held NEED are
kept (R13, R114). -/
def Lane.delivered (l : Lane) (d : Descriptor) : Lane :=
  { l with
    desc := some d
    residual := d.count
    dataAddr := d.addr
    rxResidual := d.count
    stagingAddr := d.addr
    lengthCond := false
    notePosted := false }

/-- What the lane does with a delivery in L_LINK_FETCH (R114, R117); `wasData` says that the descriptor it follows has
LINK_DATA. -/
def Blocks.afterDelivery (b : Blocks) (n : LaneId) (wasData : Bool) : Blocks :=
  if (b.lane n).closing = some .detach then b.beginClosing n .detach
  else if wasData then (b.modLane n fun l => ({ l with state := .transfer } : Lane).takeHeldNeed).pump n
  else b.joinPermit n

/-- A delivery reaches the context of slot `s` (R12, R13, R70). -/
def Blocks.deliver (b : Blocks) (s : Slot) (d : Descriptor) (addr : Addr48) : Blocks :=
  let c := b.ctx s
  let n := b.laneOf s
  match c.state with
  | .loading =>
    if c.haltCause.isSome then b.endContext s [haltClass c.haltCause]
    else (b.setCtx s { c.delivered d addr with state := .ready }).appendReady n s
  | .connected =>
    let wasData := (b.lane n).dflags.linkData
    ((b.setCtx s (c.delivered d addr)).modLane n (·.delivered d)).afterDelivery n wasData
  | .free | .idle | .ready | .detached | .halting | .reported => b

/-- A chain fault reaches the context of slot `s` (R14, R71, R114). -/
def Blocks.chainFault (b : Blocks) (s : Slot) (r : Reason) (addr : Addr48) : Blocks :=
  let c := b.ctx s
  let n := b.laneOf s
  match c.state with
  | .loading =>
    (b.setCtx s { c with chainAddr := addr }).endContext s
      [if c.haltCause.isSome then haltClass c.haltCause else ⟨.chainFault, some r⟩]
  | .connected =>
    let b1 := b.setCtx s { c with chainAddr := addr }
    if (b.lane n).dflags.linkData then b1.enterAborting n (.chainFault r)
    else (b1.sendDesel n).endServed n [⟨.chainFault, some r⟩]
  | .free | .idle | .ready | .detached | .halting | .reported => b

/-- What a fetch ends with. -/
inductive FetchEnd where
  | delivery (d : Descriptor)
  | fault (r : Reason)
  deriving DecidableEq, Repr

/-- What a read of a fetch leads to. -/
inductive FetchNext where
  | follow (target : Addr48)
  | ends (e : FetchEnd)
  deriving DecidableEq, Repr

/-- The direction a LINK-class TRANSFER must have: that of the descriptor in effect with LINK_DATA (R60). -/
def Context.linkDirection (c : Context) : Option Direction :=
  match c.desc with
  | some d => if d.flags.linkData then some d.dir else none
  | none => none

/-- Cases 2 to 7 of R69, the first that applies: `error` is the port's error response, `bytes` what the read returned. -/
def Fetch.judge (f : Fetch) (c : Context) (error : Bool) (bytes : List Byte) : FetchNext :=
  if error then .ends (.fault .fetchError)
  else
    match readDescriptor f.addr bytes with
    | none => .ends (.fault .badDescriptor)
    | some (.jump target) => if 4 ≤ f.run then .ends (.fault .jumpLoop) else .follow target
    | some (.transfer d) =>
      match f.cls, c.linkDirection with
      | .link, some dir => if d.dir = dir then .ends (.delivery d) else .ends (.fault .directionChange)
      | .link, none | .start, _ => .ends (.delivery d)

/-- The outcome of a fetch is handed on (R70, R71). -/
def Blocks.handOn (b : Blocks) (f : Fetch) : FetchEnd → Blocks
  | .delivery d => b.deliver f.slot d f.addr
  | .fault r => b.chainFault f.slot r f.addr

/-- A fetch has ended: its outcome is handed on and the fetcher begins its next fetch. Which comes first when an entry
waits is a free value (log 13). -/
def Blocks.endFetch (b : Blocks) (f : Fetch) (e : FetchEnd) : Blocks :=
  let b1 : Blocks := { b with fetch := none }
  if b.fetchQ.isEmpty then (b1.handOn f e).fetchBegin
  else
    let b2 : Blocks := { b1 with choice := b1.choice + 1 }
    if Config.fetchBeginsFirst b.choice then b2.fetchBegin.handOn f e else (b2.handOn f e).fetchBegin

/-- The read of the fetch in progress completes (R69). -/
def Blocks.fetchRead (b : Blocks) (error : Bool) (bytes : List Byte) : Blocks :=
  match b.fetch with
  | none => b
  | some f =>
    if f.discard then Blocks.fetchBegin { b with fetch := none }
    else
      match f.judge (b.ctx f.slot) error bytes with
      | .follow target => Blocks.askFetcher { b with fetch := some { f with addr := target, run := f.run + 1 } } target
      | .ends e => b.endFetch f e

end Sys2Proof.Machine
end

