-- ==== Sys2Proof/Machine/Bus.lean ====
section
/-!
DEFINITION. The family of the memory port: MEMORY_BURST_RESPONSE (07, 7.6).
-/
namespace Sys2Proof.Machine

/-- The transaction writes memory. -/
def Txn.isWrite (t : Txn) : Bool :=
  match t.req.kind with
  | .dataWrite _ => true
  | .descriptor | .dataRead _ => false

/-- The response is one of the burst outstanding (R143): for a read, one response and its bytes for each beat; for a
write, one response (log 24). -/
def Txn.answeredBy (t : Txn) (resps : List BusResp) (bytes : List Byte) : Bool :=
  if t.isWrite then resps.length == 1 && bytes.isEmpty
  else resps.length == t.burst.beats && bytes.length == t.burst.bytes

/-- The transaction with the bytes of a read burst in its buffer and the error mark set by an error response (R141,
R143). -/
def Txn.took (t : Txn) (resps : List BusResp) (bytes : List Byte) : Txn :=
  { t with buffer := t.buffer ++ bytes, error := t.error || resps.any BusResp.isError }

/-- A staging read of lane `n` completes without error (R106); a read marked for discard leaves nothing. -/
def Blocks.readDone (b : Blocks) (n : LaneId) (m : LaneMem) (bytes : List Byte) : Blocks :=
  (b.modLane n fun l =>
      { l with memReq := none, staging := if m.discard then l.staging else l.staging.put m.half bytes }).pump n

/-- A staging write of lane `n` completes without error (R111): its half is empty, its bytes count as written, the note
may be posted, and in L_TRANSFER a LINK_DATA descriptor written whole leads to L_LINK_FETCH. -/
def Blocks.writeDone (b : Blocks) (n : LaneId) (m : LaneMem) : Blocks :=
  let b1 := b.modLane n fun l =>
    ({ l with memReq := none, staging := l.staging.emptied m.half } : Lane).advance m.len
  let l := b1.lane n
  let b2 := if l.residual = 0 ∧ l.state ≠ .aborting then b1.postNote n else b1
  if l.state = .transfer ∧ l.residual = 0 ∧ l.dflags.linkData then b2.enterLinkFetch n else b2.pump n

/-- The outcome of a data transaction reaches its lane (TABLE 46). -/
def Blocks.laneMemDone (b : Blocks) (n : LaneId) (t : Txn) : Blocks :=
  match (b.lane n).memReq with
  | none => b
  | some m =>
    if t.error then
      (b.modLane n (·.memDone)).dataFault n (if m.write then .writeError else .readError)
    else if m.write then b.writeDone n m
    else b.readDone n m t.buffer

/-- A transaction completes: it becomes absent, the port decides, and the outcome is handed on (R137, R143 to R145). -/
def Blocks.completeTxn (b : Blocks) (t : Txn) : Blocks :=
  let b1 := b.portNext
  match t.requester with
  | .fetcher => if t.discard then b1 else b1.fetchRead t.error t.buffer
  | .lane n =>
    if t.discard then (b1.modLane n (·.memDone)).pump n else b1.laneMemDone n t

/-- The burst outstanding completes (R143): the next burst is issued, or the transaction completes. -/
def Blocks.burstDone (b : Blocks) (resps : List BusResp) (bytes : List Byte) : Blocks :=
  match b.mem.inflight with
  | none => b
  | some t =>
    if t.answeredBy resps bytes then
      let t1 := t.took resps bytes
      match t1.toIssue with
      | next :: rest =>
        if t1.error || t1.discard then b.completeTxn t1
        else { b with mem := { b.mem with inflight := some { t1 with burst := next, toIssue := rest } } }
      | [] => b.completeTxn t1
    else b

/-- MEMORY_BURST_RESPONSE (R143). -/
def execMemoryBurstResponse (resps : List BusResp) (bytes : List Byte) (s : State) :
    Host.Outcome State Fault Refusal :=
  .next (s.onBlocksAsking fun b => b.burstDone resps bytes)

end Sys2Proof.Machine
end

