-- ==== Sys2Proof/Machine/Link.lean ====
section
/-!
DEFINITION. The family of the lane wire: the attention line, the receiver's footing, and the end of a frame the part
sends (R80, R81, R99).
-/
namespace Sys2Proof.Machine

/-! ### ATTENTION_LINE_CHANGE -/

/-- The lane takes a change of the filtered level (R99): deassertion clears LINE_STUCK, and the empty polls with it except
in L_FAULT (R124). A lane in L_DISABLED takes the level only (R96). -/
def Lane.takeAttention (l : Lane) (asserted : Bool) : Lane :=
  if asserted || !l.enable then { l with atn := asserted }
  else { l with atn := false, lineStuck := false, emptyPolls := if l.state = .fault then l.emptyPolls else 0 }

/-- The level changes; in L_IDLE an assertion, or the clearing of LINE_STUCK, brings a service choice (R97, R99). -/
def Blocks.attentionChange (b : Blocks) (n : LaneId) (asserted : Bool) : Blocks :=
  let l := b.lane n
  if l.atn = asserted then b
  else
    let b1 := b.modLane n (·.takeAttention asserted)
    if asserted || l.lineStuck then b1.serviceChoice n else b1

/-- ATTENTION_LINE_CHANGE (R99). -/
def execAttentionLineChange (lane : LaneId) (asserted : Bool) (s : State) : Host.Outcome State Fault Refusal :=
  .next (s.onBlocks fun b => b.attentionChange lane asserted)

/-! ### The receiver -/

/-- The first start bit of a frame is seen by a receiver that listens (R74, R80, R81); the frame is received at the lane's
present rate whatever LANE sets meanwhile (R46). -/
def Lane.firstStartBit (l : Lane) : Lane :=
  if l.listens && l.rx == .listening then { l with rx := .assembling l.rate } else l

/-- FRAME_FIRST_START_BIT (R81). -/
def execFrameFirstStartBit (lane : LaneId) (s : State) : Host.Outcome State Fault Refusal :=
  .next (s.onBlocks fun b => b.modLane lane (·.firstStartBit))

/-- The receiver cannot know where the frame ends (R80). -/
def losesFooting (check : FrameCheck) (lengthAbove16 : Bool) : Bool :=
  lengthAbove16 || check == .framing || check == .completeness

/-- The frame being assembled is discarded (R80): the timer goes on, and what had waited for the receiver goes on (R109,
R168). -/
def Blocks.discardFrame (b : Blocks) (n : LaneId) (lostFooting : Bool) : Blocks :=
  if (b.lane n).rx.isAssembling then
    (b.modLane n (·.endReception (if lostFooting then .lostFooting else .listening))).haltIfTurn n
  else b

/-- FRAME_MALFORMED (R80). -/
def execFrameMalformed (lane : LaneId) (check : FrameCheck) (lengthAbove16 : Bool) (s : State) :
    Host.Outcome State Fault Refusal :=
  .next (s.onBlocks fun b => b.discardFrame lane (losesFooting check lengthAbove16))

/-- 20 bit times of unbroken mark are seen (R80); a receiver that does not listen disregards LnRXD and sees none (R74). -/
def Lane.resync (l : Lane) : Lane := if l.listens && l.rx == .lostFooting then { l with rx := .listening } else l

/-- UNBROKEN_MARK_RESYNC (R80). -/
def execUnbrokenMarkResync (lane : LaneId) (s : State) : Host.Outcome State Fault Refusal :=
  .next (s.onBlocks fun b => b.modLane lane (·.resync))

/-! ### FRAME_SENT -/

/-- The pair is released, and the next frame that waits goes out, at the lane's present rate (R74, R46). -/
def Lane.nextFrame (l : Lane) : Lane := Lane.drive { l with tx := none }

/-- The timer starts when the lane stands in the state in which it awaits the answer (R81, TABLE 33). -/
def Lane.awaitIn (l : Lane) (state : LaneState) : Lane := if l.state = state then l.startTimer else l

/-- After STOP (R115). -/
def Lane.afterStop (l : Lane) : Lane := if l.closing.isNone then l.awaitIn .ending else l

/-- After ABORT (R122). -/
def Lane.afterAbort (l : Lane) : Lane := if l.abortPhase = .awaiting then l.awaitIn .aborting else l

/-- After DESEL: the SEL that follows a mismatch (R102). -/
def Blocks.afterDesel (b : Blocks) (n : LaneId) : Blocks :=
  if (b.lane n).state = .selecting ∧ (b.lane n).selOwed then b.nextAttempt n else b

/-- After RESUME (TABLE 33, R109, R176): the timer starts for OUT and NONE; for IN the GRANT goes next, or the timer starts
when no byte is left to grant (log 14). -/
def Blocks.afterResume (b : Blocks) (n : LaneId) : Blocks :=
  let l := b.lane n
  if l.state ≠ .transfer then b
  else if l.dir = .inbound ∧ 0 < l.uncovered then b.haltIfTurn n
  else (b.modLane n (·.startTimer)).pump n

/-- A DOUT of `k` bytes has been sent (R107): the toggle changes, its bytes count as done, one less is owed. -/
def Lane.doutSent (l : Lane) (k : Nat) : Lane :=
  let l1 : Lane :=
    { l with outToggle := !l.outToggle, staging := l.staging.sent k, doutOwed := l.doutOwed - 1 }
  l1.advance k

/-- The DOUT brought the residual to 0 (R108). -/
def Blocks.outFinished (b : Blocks) (n : LaneId) : Blocks :=
  let b1 := b.postNote n
  let l := b1.lane n
  if l.haltNotice then b1.enterAborting n .halt
  else if l.dflags.linkData then b1.enterLinkFetch n
  else if l.doutOwed ≠ 0 then b1.sendStop n
  else if l.heldNeed.isSome then b1.needBeyond n
  else b1.modLane n (·.startTimer)

/-- The residual is above 0 after a DOUT (R107): the lane goes on, or awaits the unit when no more are owed. -/
def Blocks.outGoesOn (b : Blocks) (n : LaneId) : Blocks :=
  let l := b.lane n
  if l.haltNotice then b.enterAborting n .halt
  else if l.doutOwed ≠ 0 then b.pump n
  else if l.heldNeed.isSome then (b.modLane n (·.takeHeldNeed)).pump n
  else (b.modLane n (·.startTimer)).pump n

/-- After a DOUT (R107, R108). -/
def Blocks.afterDout (b : Blocks) (n : LaneId) (k : Nat) : Blocks :=
  let b1 := b.modLane n (·.doutSent k)
  let l := b1.lane n
  if l.state ≠ .transfer then b1
  else if l.residual = 0 then b1.outFinished n
  else b1.outGoesOn n

/-- After CMD (R104): the timer starts in L_COMMANDING. Where an ACPT was taken while the CMD waited (log 9), the GRANT or the
ABORT of a halt that waited for the pair goes next (R109, R168). -/
def Blocks.afterCmd (b : Blocks) (n : LaneId) : Blocks := (b.modLane n (·.awaitIn .commanding)).haltIfTurn n

/-- What follows the last stop bit of `f` (R81, TABLE 26). -/
def Blocks.afterFrame (b : Blocks) (n : LaneId) : PartFrame → Blocks
  | .poll => b.modLane n (·.awaitIn .polling)
  | .sel _ => b.modLane n (·.awaitIn .selecting)
  | .desel _ => b.afterDesel n
  | .cmd _ _ _ _ => b.afterCmd n
  | .dout _ _ bytes => b.afterDout n bytes.length
  | .grant _ _ _ => b.modLane n (·.awaitIn .transfer)
  | .stop _ => b.modLane n (·.afterStop)
  | .abort _ => b.modLane n (·.afterAbort)
  | .resume _ => b.afterResume n
  | .defer _ => b

/-- The last stop bit of the frame on the wire passes (R81). -/
def Blocks.frameSent (b : Blocks) (n : LaneId) : Blocks :=
  match (b.lane n).tx with
  | none => b
  | some t => (b.modLane n (·.nextFrame)).afterFrame n t.frame

/-- FRAME_SENT (R81). -/
def execFrameSent (lane : LaneId) (s : State) : Host.Outcome State Fault Refusal :=
  .next (s.onBlocks fun b => b.frameSent lane)

end Sys2Proof.Machine
end

