-- ==== Sys2Proof/Machine/Frames.lean ====
section
/-!
DEFINITION. The family of the frames taken: ATTN, ECHO, ACPT, NEED, DIN, WAIT, END (R82, R99 to R119, R169).
-/
namespace Sys2Proof.Machine

/-! ### Taking a frame -/

/-- A frame of valid operands that the receiver was assembling is taken by `f`; with an operand its format does not admit
it is malformed (R80; log 23), and `lostFooting` says whether its end is then unknown. -/
def Blocks.takeFrame (b : Blocks) (n : LaneId) (valid lostFooting : Bool) (f : Blocks → Blocks) : Blocks :=
  if (b.lane n).rx.isAssembling then
    if valid then f (b.modLane n (·.endReception .listening)) else b.discardFrame n lostFooting
  else b

/-- A stray frame (R82). -/
def Lane.stray (l : Lane) : Lane := { l with strayFrame := true }

/-- A frame outside what R99 and R102 take (R82, TABLE 38): stray outside a connection, discarded in L_ABORTING, a link
error in L_PERMIT_WAIT, a duplicate DIN too (log 37), or from another address, else what `act` makes of it. -/
def Blocks.inConnection (b : Blocks) (n : LaneId) (addr : UnitAddr) (act : Blocks → Blocks) : Blocks :=
  match (b.lane n).state with
  | .disabled => b
  | .idle | .polling | .selecting | .fault => b.modLane n (·.stray)
  | .permitWait => b.linkError n
  | .aborting => b
  | .commanding | .transfer | .linkFetch | .ending => if addr = b.servedUnit n then act b else b.linkError n

/-- The states of a connection in which a frame of the served unit is taken; in L_ABORTING every frame but END is discarded
(R82, TABLE 38). -/
def LaneState.takesFrames : LaneState → Bool
  | .permitWait | .commanding | .transfer | .linkFetch | .ending => true
  | .disabled | .idle | .polling | .selecting | .aborting | .fault => false

/-- The status byte of an ACPT or END taken from the served unit becomes the last unit status, whatever else the frame is
taken as (R17, R85; log 36). -/
def Blocks.frameStatus (b : Blocks) (n : LaneId) (addr : UnitAddr) (status : Byte) : Blocks :=
  if (b.lane n).state.takesFrames && addr == b.servedUnit n then b.takeStatus n status else b

/-- The lane waits in L_LINK_FETCH after link-data, so the unit is in the middle of its command (R114). -/
def Lane.inLinkData (l : Lane) : Bool := l.state == .linkFetch && l.dflags.linkData

/-- The lane is in L_ENDING awaiting END (R115). -/
def Lane.awaitsEnd (l : Lane) : Bool := l.state == .ending && l.closing.isNone

/-! ### FRAME_ATTN -/

/-- The answer DEFER to unit `u`, and the poll over (R100). -/
def Blocks.deferUnit (b : Blocks) (n : LaneId) (u : UnitAddr) : Blocks := (b.send n (.defer u)).enterIdle n

/-- An unbound unit is told DEFER and joins the deferred-attention set (R100, R101). -/
def Blocks.deferUnbound (b : Blocks) (n : LaneId) (u : UnitAddr) : Blocks :=
  (b.modLane n fun l => { l with deferred := l.deferred ||| ((1 : Word) <<< u.val) }).deferUnit n u

/-- DEFERRED_ATTENTION joins the flags, and those of a pending final report (R20, R159). -/
def Context.deferred (c : Context) : Context :=
  { c with
    flags := c.flags.addDeferred
    final := c.final.map fun r => { r with flags := r.flags.addDeferred } }

/-- A reconnected context (R19). -/
def Context.reconnected (c : Context) : Context := { c with state := .connected, awaiting := none, timer := none }

/-- The reason matches what the context awaits (R19). -/
def reasonAnswers (r : AttnReason) (aw : Option Awaiting) : Bool :=
  match r, aw with
  | .reconnect, some .resume => true
  | .free, some .free => true
  | .reconnect, some .free | .reconnect, none | .free, some .resume | .free, none | .unsolicited, _ => false

/-- A context is served in a connection and its unit is sent ABORT with this cause (R100). -/
def Blocks.connectAborting (b : Blocks) (n : LaneId) (s : Slot) (cause : AbortCause) : Blocks :=
  (b.connect n s).enterAborting n cause

/-- RESUME and L_TRANSFER after a matching RECONNECT: both toggles 0, no last inbound chunk (R89, R100). -/
def Blocks.resume (b : Blocks) (n : LaneId) (s : Slot) : Blocks :=
  let b1 := (b.connect n s).modLane n fun l =>
    { l with state := .transfer, outToggle := false, inToggle := false, lastIn := none }
  (b1.send n (.resume (b1.servedUnit n))).pump n

/-- An ATTN for a DETACHED context (R19, TABLE 35). -/
def Blocks.attnDetached (b : Blocks) (n : LaneId) (s : Slot) (u : UnitAddr) (reason : AttnReason) (status : Byte) :
    Blocks :=
  let c := b.ctx s
  let b1 := b.setCtx s (c.takeStatus status)
  match reason with
  | .unsolicited => (b1.modCtx s Context.deferred).deferUnit n u
  | .reconnect =>
    let b2 := b1.modCtx s Context.reconnected
    if reasonAnswers reason c.awaiting then b2.resume n s else b2.connectAborting n s .linkError
  | .free =>
    let b2 := b1.modCtx s Context.reconnected
    if reasonAnswers reason c.awaiting then (b2.connect n s).joinPermit n else b2.connectAborting n s .linkError

/-- An ATTN taken in L_POLLING, by the state of the named unit's context (R100, TABLE 35). -/
def Blocks.attnTaken (b : Blocks) (n : LaneId) (u : UnitAddr) (reason : AttnReason) (status : Byte) : Blocks :=
  let b1 := b.modLane n fun l => { l with emptyPolls := 0, timer := none }
  match b1.lookup n u with
  | none => b1.deferUnbound n u
  | some s =>
    match (b1.ctx s).state with
    | .idle =>
      (((b1.modCtx s (·.takeStatus status)).endContext s [plain .unitAttention]).send n (.desel u)).enterIdle n
    | .loading | .ready | .reported => (b1.modCtx s Context.deferred).deferUnit n u
    | .detached => b1.attnDetached n s u reason status
    | .halting =>
      ((b1.modCtx s (·.takeStatus status)).dropFromLists n s).connectAborting n s .halt
    | .connected | .free => b1.deferUnit n u

/-- An ATTN frame (R99, R100). -/
def Blocks.attnFrame (b : Blocks) (n : LaneId) (u : UnitAddr) (reason : AttnReason) (status : Byte) : Blocks :=
  if (b.lane n).state = .polling then b.attnTaken n u reason status
  else b.inConnection n u fun b => b.linkError n

/-- FRAME_ATTN (R100). -/
def execFrameAttn (lane : LaneId) (addr : UnitAddr) (reason : AttnReason) (status : Byte) (s : State) :
    Host.Outcome State Fault Refusal :=
  .next (s.onBlocksAsking fun b =>
    b.takeFrame lane (statusValid status) false fun b => b.attnFrame lane addr reason status)

/-! ### FRAME_ECHO -/

/-- The READY context selected becomes CONNECTED (R15). No run selects another (log 31). -/
def Context.selected (c : Context) : Context := if c.state = .ready then { c with state := .connected } else c

/-- A ready selection succeeds (R15, R103): CONNECTED, out of the ready queue, and on to L_PERMIT_WAIT. -/
def Blocks.readySelected (b : Blocks) (n : LaneId) (s : Slot) : Blocks :=
  let b1 := (b.modCtx s Context.selected).dropFromLists n s
  ((b1.modLane n (·.release)).connect n s).joinPermit n

/-- A halt selection succeeds (R27, R103): out of the halt list, ABORT with cause HALT. -/
def Blocks.haltSelected (b : Blocks) (n : LaneId) (s : Slot) : Blocks :=
  ((b.dropFromLists n s).modLane n (·.release)).connectAborting n s .halt

/-- An ECHO with another address (R102): the mismatch mark, DESEL to that address, and the attempt has failed. -/
def Blocks.echoMismatch (b : Blocks) (n : LaneId) (addr : UnitAddr) : Blocks :=
  let b1 := (b.modLane n fun l => { l with mismatch := true, timer := none }).send n (.desel addr)
  if b1.attemptsRemain n then b1.modLane n fun l => { l with selOwed := true } else b1.selectionFailed n

/-- An ECHO taken in L_SELECTING (R102, R103, R171). -/
def Blocks.echoTaken (b : Blocks) (n : LaneId) (addr : UnitAddr) : Blocks :=
  match (b.lane n).served with
  | none => (b.send n (.desel addr)).endLostAttempt n
  | some sv =>
    if addr = b.unitOf sv.slot then
      match sv.kind with
      | .readySelection => b.readySelected n sv.slot
      | .haltSelection => b.haltSelected n sv.slot
      | .connection => b
    else b.echoMismatch n addr

/-- An ECHO frame (R102). -/
def Blocks.echoFrame (b : Blocks) (n : LaneId) (addr : UnitAddr) : Blocks :=
  if (b.lane n).state = .selecting then b.echoTaken n addr else b.inConnection n addr fun b => b.linkError n

/-- FRAME_ECHO (R102). -/
def execFrameEcho (lane : LaneId) (addr : UnitAddr) (s : State) : Host.Outcome State Fault Refusal :=
  .next (s.onBlocksAsking fun b => b.takeFrame lane true false fun b => b.echoFrame lane addr)

/-! ### FRAME_ACPT -/

/-- A clean ACPT (TABLE 36): L_TRANSFER, with the timer started for OUT and NONE, staging reads for OUT, GRANT for IN. -/
def Blocks.beginTransfer (b : Blocks) (n : LaneId) : Blocks :=
  (b.modLane n fun l =>
      let l1 : Lane := { l with state := .transfer, timer := none }
      if l.dir = .inbound then l1 else l1.startTimer).pump n

/-- An ACPT taken in L_COMMANDING, by its status (R105, TABLE 36; with the halt notice set, TABLE 54). -/
def Blocks.acptTaken (b : Blocks) (n : LaneId) (status : Byte) : Blocks :=
  if statusCheck status || statusException status then (b.sendDesel n).endServed n (statusClasses status)
  else if statusBusy status then b.detachContext n .free
  else if (b.lane n).haltNotice then b.enterAborting n .halt
  else b.beginTransfer n

/-- An ACPT frame (R17, R105): its status is recorded also where the frame is a link error. -/
def Blocks.acptFrame (b : Blocks) (n : LaneId) (addr : UnitAddr) (status : Byte) : Blocks :=
  (b.frameStatus n addr status).inConnection n addr fun b =>
    if (b.lane n).state = .commanding then b.acptTaken n status else b.linkError n

/-- FRAME_ACPT (R105). -/
def execFrameAcpt (lane : LaneId) (addr : UnitAddr) (status : Byte) (s : State) :
    Host.Outcome State Fault Refusal :=
  .next (s.onBlocks fun b => b.takeFrame lane (statusValid status) false fun b => b.acptFrame lane addr status)

/-! ### FRAME_NEED -/

/-- A NEED in L_TRANSFER of an OUT command (R107). -/
def Blocks.needOut (b : Blocks) (n : LaneId) (chunks : Nat) : Blocks :=
  let l := b.lane n
  if l.doutOwed ≠ 0 then b.linkError n
  else if l.haltNotice then b.enterAborting n .halt
  else if l.residual ≠ 0 then (b.modLane n fun l => { l with doutOwed := chunks, timer := none }).pump n
  else if l.dflags.linkData then b.modLane n fun l => { l with heldNeed := some chunks, timer := none }
  else b.needBeyond n

/-- A NEED in L_TRANSFER of an IN command (R110). -/
def Blocks.needIn (b : Blocks) (n : LaneId) (chunks : Nat) : Blocks :=
  let l := b.lane n
  if l.credit ≠ [] then b.linkError n
  else if l.haltNotice then b.enterAborting n .halt
  else if l.rxResidual ≠ 0 then (b.modLane n (·.stopTimer)).pump n
  else if l.dflags.linkData then b.modLane n fun l => { l with heldNeed := some chunks, timer := none }
  else b.needBeyond n

/-- A NEED in L_TRANSFER of a command without data (R112). -/
def Blocks.needNone (b : Blocks) (n : LaneId) : Blocks :=
  if (b.lane n).haltNotice then b.enterAborting n .halt else b.needBeyond n

/-- A NEED from the served unit, by the lane's state (R107, R110, R112, R114, R115, R169). In L_ENDING awaiting END it is
answered with STOP again and adds nothing to the flags (R115; log 34). -/
def Blocks.needTaken (b : Blocks) (n : LaneId) (chunks : Nat) : Blocks :=
  let l := b.lane n
  if l.state = .transfer then
    match l.dir with
    | .outbound => b.needOut n chunks
    | .inbound => b.needIn n chunks
    | .noData => b.needNone n
  else if l.inLinkData then
    if l.haltNotice then b.enterAborting n .halt else b.modLane n fun l => { l with heldNeed := some chunks }
  else if l.awaitsEnd then
    if l.haltNotice then b.enterAborting n .halt else b.sendStop n
  else b.linkError n

/-- FRAME_NEED (R107). -/
def execFrameNeed (lane : LaneId) (addr : UnitAddr) (chunks : Nat) (s : State) : Host.Outcome State Fault Refusal :=
  .next (s.onBlocks fun b => b.takeFrame lane (decide (1 ≤ chunks) && decide (chunks ≤ 8)) false fun b =>
    b.inConnection lane addr fun b => b.needTaken lane chunks)

/-! ### FRAME_DIN -/

/-- How a DIN is judged for its toggle (R89). -/
inductive DinVerdict where
  | new
  | duplicate
  | skip
  deriving DecidableEq, Repr

/-- The judgement of a DIN (R89). -/
def Lane.judgeDin (l : Lane) (toggle : Bool) (bytes : List Byte) : DinVerdict :=
  if toggle = l.inToggle then .new
  else if l.lastIn = some bytes then .duplicate
  else .skip

/-- A new DIN within credit at the lane (R89, R110): it uses the head chunk, its bytes go to staging or, under DISCARD, are
dropped and count as done. -/
def Lane.takeDin (l : Lane) (bytes : List Byte) : Lane :=
  let l1 : Lane :=
    { l with
      credit := l.credit.drop 1
      inToggle := !l.inToggle
      lastIn := some bytes
      rxResidual := l.rxResidual - bytes.length
      timer := none }
  if l.dflags.discard then l1.advance bytes.length else { l1 with staging := l1.staging.takeIn bytes }

/-- The timer starts after a DIN that leaves credit unused, and after the one that leaves the receive residual at 0 with no
LINK_DATA (R93, R110). -/
def Lane.timerAfterDin (l : Lane) : Lane :=
  if l.credit ≠ [] ∨ (l.rxResidual = 0 ∧ l.dflags.linkData = false) then l.startTimer else l

/-- A new DIN within credit (R110, R169): the note of a DISCARD descriptor, then the ABORT a halt requires, or the link of
a DISCARD descriptor that is done (log 33), or the transfer goes on. -/
def Blocks.dinNew (b : Blocks) (n : LaneId) (bytes : List Byte) : Blocks :=
  let b1 := b.modLane n (·.takeDin bytes)
  let done := (b1.lane n).rxResidual = 0 ∧ (b1.lane n).dflags.discard
  let b2 := if done then b1.postNote n else b1
  if (b2.lane n).haltNotice then b2.enterAborting n .halt
  else if done ∧ (b2.lane n).dflags.linkData then b2.enterLinkFetch n
  else (b2.modLane n (·.timerAfterDin)).pump n

/-- The DIN fits the head chunk of the credit list (R88). -/
def Lane.withinCredit (l : Lane) (bytes : List Byte) : Bool :=
  match l.credit with
  | allowance :: _ => decide (bytes.length ≤ allowance)
  | [] => false

/-- A DIN from the served unit (R89, R110, R114). In L_ENDING, awaiting END and closing, and in L_LINK_FETCH after
link-command it is a link error also when it repeats the last chunk (log 37). -/
def Blocks.dinTaken (b : Blocks) (n : LaneId) (toggle : Bool) (bytes : List Byte) : Blocks :=
  let l := b.lane n
  if (l.state = .transfer ∧ l.dir = .inbound) ∨ l.inLinkData then
    match l.judgeDin toggle bytes with
    | .duplicate => b.haltIfTurn n
    | .skip => b.linkError n
    | .new => if l.state = .transfer ∧ l.withinCredit bytes then b.dinNew n bytes else b.linkError n
  else b.linkError n

/-- FRAME_DIN (R110). -/
def execFrameDin (lane : LaneId) (addr : UnitAddr) (toggle : Bool) (bytes : List Byte) (s : State) :
    Host.Outcome State Fault Refusal :=
  .next (s.onBlocks fun b =>
    b.takeFrame lane (decide (1 ≤ bytes.length) && decide (bytes.length ≤ 16)) (decide (16 < bytes.length)) fun b =>
      b.inConnection lane addr fun b => b.dinTaken lane toggle bytes)

/-! ### FRAME_WAIT -/

/-- A WAIT in L_LINK_FETCH after link-data (R114): the detach is pending until the fetch ends; with the halt notice set the
fetch is not waited for (log 18). -/
def Blocks.waitInLinkFetch (b : Blocks) (n : LaneId) : Blocks :=
  if (b.lane n).haltNotice then
    (match (b.lane n).servedSlot with | some s => b.withdrawFetch s | none => b).beginClosing n .detach
  else b.modLane n fun l => { l with closing := some .detach }

/-- A WAIT from the served unit (R114 to R117). -/
def Blocks.waitTaken (b : Blocks) (n : LaneId) : Blocks :=
  let l := b.lane n
  if l.inLinkData then b.waitInLinkFetch n
  else if l.state = .transfer ∨ l.awaitsEnd then b.beginClosing n .detach
  else b.linkError n

/-- FRAME_WAIT (R116). -/
def execFrameWait (lane : LaneId) (addr : UnitAddr) (s : State) : Host.Outcome State Fault Refusal :=
  .next (s.onBlocks fun b => b.takeFrame lane true false fun b => b.inConnection lane addr fun b => b.waitTaken lane)

/-! ### FRAME_END -/

/-- The residual that the length check tests: the receive residual for IN, the residual else (R62, R118). -/
def Lane.testedResidual (l : Lane) : Nat := if l.dir = .inbound then l.rxResidual else l.residual

/-- The END arrives before the data chain is exhausted (R62). -/
def Lane.endsShort (l : Lane) : Bool :=
  l.dir != .noData && (decide (0 < l.testedResidual) || l.dflags.linkData)

/-- The classes an END names (R118): those of its status, and LENGTH. -/
def Lane.endNames (l : Lane) (status : Byte) : List Named :=
  statusClasses status
    ++ (if (l.endsShort || l.lengthCond) && !l.dflags.noLengthCheck then [plain .length] else [])

/-- The note of the descriptor falls at this END (R65, R118). -/
def Lane.noteAtEnd (l : Lane) : Bool := l.dir == .noData || decide (0 < l.testedResidual)

/-- An END that ends the command, its status recorded (R118). -/
def Blocks.endTaken (b : Blocks) (n : LaneId) (status : Byte) : Blocks :=
  let l := b.lane n
  let b1 := b.addServedFlag n (·.addLengthShort l.endsShort)
  let b2 := if l.noteAtEnd then b1.postNote n else b1
  let b3 := match l.state, l.servedSlot with | .linkFetch, some s => b2.withdrawFetch s | _, _ => b2
  let named := l.endNames status
  b3.beginClosing n (if named.isEmpty && l.dflags.linkCmd && !b.servedHalting n then .linkCommand else .outcome named)

/-- An END that confirms an abort (R122, R173). -/
def Blocks.endConfirms (b : Blocks) (n : LaneId) (status : Byte) : Blocks :=
  let b1 := (b.takeStatus n status).modLane n fun l => { l with abortPhase := .confirmed, timer := none }
  (b1.sendDesel n).pump n

/-- An END frame (R17, R114, R115, R118, R122): its status is recorded also where the frame is a link error. -/
def Blocks.endFrame (b : Blocks) (n : LaneId) (addr : UnitAddr) (status : Byte) : Blocks :=
  let l := b.lane n
  if l.state = .aborting then
    if addr = b.servedUnit n ∧ l.abortPhase = .awaiting then b.endConfirms n status else b
  else
    (b.frameStatus n addr status).inConnection n addr fun b =>
      if l.state = .transfer ∨ l.inLinkData ∨ l.awaitsEnd then b.endTaken n status else b.linkError n

/-- FRAME_END (R118). -/
def execFrameEnd (lane : LaneId) (addr : UnitAddr) (status : Byte) (s : State) : Host.Outcome State Fault Refusal :=
  .next (s.onBlocks fun b => b.takeFrame lane (statusValid status) false fun b => b.endFrame lane addr status)

end Sys2Proof.Machine
end

