-- ==== Sys2Proof/Machine/Registers.lean ====
section
/-!
DEFINITION. The family of the register window and the resets (02, 2.1 to 2.3 and 2.10 to 2.12; 10, 10.1 to 10.4).
-/
namespace Sys2Proof.Machine

/-! ### Resets (R52, R53, R92) -/

/-- The blocks after pin reset: their reset values, with the levels of the attention pins, which no reset drives (log 6),
and the counter of the free value. -/
def Blocks.pinReset (b : Blocks) : Blocks :=
  { Blocks.reset with
    lanes := Vector.ofFn fun n => { Lane.reset with atn := (b.lane n).atn }
    choice := b.choice }

/-- The blocks after a soft reset has begun: as after pin reset, but for a transaction in flight, marked for discard
(R52, R146; log 7). -/
def Blocks.softReset (b : Blocks) : Blocks := { b.pinReset with mem := b.mem.drained }

/-- PIN_RESET (R53). -/
def execPinReset (s : State) : Host.Outcome State Fault Refusal :=
  .next { s with port := .reset, blocks := s.blocks.pinReset }

/-- The soft reset is complete when the memory port has no transaction in flight (R52, R146). -/
def State.softResetDue (s : State) : Bool := s.port.pstat == .resetting && s.blocks.mem.inflight.isNone

/-- SOFT_RESET_COMPLETE (R52). -/
def execSoftResetComplete (s : State) : Host.Outcome State Fault Refusal :=
  .next (if s.softResetDue then { s with port := .reset, blocks := s.blocks.softReset } else s)

/-! ### Writes (R30, R179) -/

/-- A write with a strobe set, taken while PSTAT shows READY, does `f`; any other write is ignored (R30, R52). -/
def State.onWrite (s : State) (strobes : BitVec 4) (f : State → State) : State :=
  if s.port.pstat = .ready ∧ strobes ≠ 0 then f s else s

/-- The request submitted with the tag of `value` (R32, TABLE 57). -/
def Port.staged (p : Port) (value : Word) : Request :=
  ⟨p.rqw.get 0, p.rqw.get 1, p.rqw.get 2, p.rqw.get 3, value.setWidth 8⟩

/-- A submission (R32): to the tail of the request FIFO, or dropped with OVERFLOW when it holds 8 entries. -/
def Port.submit (p : Port) (value : Word) : Port :=
  if p.reqs.length < Config.fifoCapacity then { p with reqs := p.reqs ++ [p.staged value] }
  else { p with overflow := true }

/-- The head of the response FIFO is removed, when there is one (R34). -/
def Port.pop (p : Port) : Port := { p with resps := p.resps.drop 1 }

/-- Staging word `i` takes the strobed bytes (R30, R31). -/
def Port.stage (p : Port) (i : Fin 4) (value : Word) (strobes : BitVec 4) : Port :=
  { p with rqw := p.rqw.set i.val (mergeStrobes (p.rqw.get i) value strobes) i.isLt }

/-- The bits of INTE and INTS that have a cause (TABLE 57). -/
def causeMask : Word := 0x000001F3

/-- INTE takes the strobed bytes; a bit without a cause stays 0 (R51, TABLE 57). -/
def Port.enable (p : Port) (value : Word) (strobes : BitVec 4) : Port :=
  { p with inte := mergeStrobes p.inte value strobes &&& causeMask }

/-- TBDIV takes byte 0 when it is strobed and not 0 (R54, TABLE 57). -/
def Port.setDivider (p : Port) (value : Word) (strobes : BitVec 4) : Port :=
  if strobes.getLsbD 0 = true ∧ value.setWidth 8 ≠ (0 : BitVec 8) then { p with tbdiv := value.setWidth 8 } else p

/-- Each sticky cause whose bit is 1 in `value` is cleared (R50). -/
def State.clearCauses (s : State) (value : Word) : State :=
  { s with
    port := { s.port with overflow := s.port.overflow && !value.getLsbD 8 }
    blocks := { s.blocks with laneFault := Vector.ofFn fun n => s.blocks.laneFault.get n && !value.getLsbD (4 + n.val) } }

/-- A soft reset begins (R52): PSTAT shows RESETTING, queued work is discarded, the memory port drains. -/
def State.beginSoftReset (s : State) : State :=
  { s with port := { Port.reset with pstat := .resetting }, blocks := s.blocks.softReset }

/-- The request port's own part of a write. -/
def State.onPort (s : State) (f : Port → Port) : State := { s with port := f s.port }

/-- RQGO_SUBMIT (R32). -/
def execRqgoSubmit (value : Word) (strobes : BitVec 4) (s : State) : Host.Outcome State Fault Refusal :=
  .next (s.onWrite strobes fun s => s.onPort (·.submit (strobed value strobes)))

/-- RSNEXT_POP (R34). The value is ignored. -/
def execRsnextPop (_value : Word) (strobes : BitVec 4) (s : State) : Host.Outcome State Fault Refusal :=
  .next (s.onWrite strobes fun s => s.onPort (·.pop))

/-- INTS_WRITE (R50). -/
def execIntsWrite (value : Word) (strobes : BitVec 4) (s : State) : Host.Outcome State Fault Refusal :=
  .next (s.onWrite strobes fun s => s.clearCauses (strobed value strobes))

/-- INTE_WRITE (R51). -/
def execInteWrite (value : Word) (strobes : BitVec 4) (s : State) : Host.Outcome State Fault Refusal :=
  .next (s.onWrite strobes fun s => s.onPort (·.enable value strobes))

/-- PRST_WRITE (R52). The value is ignored. -/
def execPrstWrite (_value : Word) (strobes : BitVec 4) (s : State) : Host.Outcome State Fault Refusal :=
  .next (s.onWrite strobes fun s => s.beginSoftReset)

/-- TBDIV_WRITE (R54). -/
def execTbdivWrite (value : Word) (strobes : BitVec 4) (s : State) : Host.Outcome State Fault Refusal :=
  .next (s.onWrite strobes fun s => s.onPort (·.setDivider value strobes))

/-- A write at a byte offset of the window (TABLE 13, TABLE 56): the staging words store, the six registers whose writes
have rows of their own act as those rows say, and every other word ignores the write. The two low bits of the offset do not
choose a register (log 22). -/
def State.writeRegister (s : State) (offset : BitVec 7) (value : Word) (strobes : BitVec 4) : State :=
  match offset.toNat / 4 with
  | 0 => s.onPort (·.stage 0 value strobes)
  | 1 => s.onPort (·.stage 1 value strobes)
  | 2 => s.onPort (·.stage 2 value strobes)
  | 3 => s.onPort (·.stage 3 value strobes)
  | 4 => s.onPort (·.submit (strobed value strobes))
  | 5 => s.onPort (·.pop)
  | 16 => s.clearCauses (strobed value strobes)
  | 17 => s.onPort (·.enable value strobes)
  | 19 => s.beginSoftReset
  | 20 => s.onPort (·.setDivider value strobes)
  | _ => s

/-- REGISTER_WRITE (R30). -/
def execRegisterWrite (offset : BitVec 7) (value : Word) (strobes : BitVec 4) (s : State) :
    Host.Outcome State Fault Refusal :=
  .next (s.onWrite strobes fun s => s.writeRegister offset value strobes)

/-! ### Reads (R30, R34, R179, R181, R182) -/

/-- The active causes, in the bits of INTS (R50, TABLE 57). -/
def State.causes (s : State) : Word :=
  packWord
    [⟨0, 1, (!s.port.resps.isEmpty).toNat⟩, ⟨1, 1, s.blocks.shown.isSome.toNat⟩,
     ⟨4, 1, (s.blocks.laneFault.get 0).toNat⟩, ⟨5, 1, (s.blocks.laneFault.get 1).toNat⟩,
     ⟨6, 1, (s.blocks.laneFault.get 2).toNat⟩, ⟨7, 1, (s.blocks.laneFault.get 3).toNat⟩,
     ⟨8, 1, s.port.overflow.toNat⟩]

/-- The interrupt line (R51); deasserted while PSTAT shows RESETTING (R52). -/
def State.interruptLine (s : State) : Bool := s.port.pstat == .ready && s.causes &&& s.port.inte != 0

/-- RSW0 to RSW3: the head response, or 0 (R34, R181). -/
def Port.responseWord (p : Port) (i : Nat) : Word :=
  match p.resps with
  | [] => 0
  | r :: _ =>
    match i with
    | 0 => packWord [⟨0, 8, r.tag.toNat⟩, ⟨8, 4, r.result.code⟩, ⟨31, 1, 1⟩]
    | 1 => r.d1
    | 2 => r.d2
    | _ => r.d3

/-- A number that may be absent, as 0 (R182). -/
def orZero (x : Option Nat) : Nat := x.getD 0

/-- Bits 47:4 of a descriptor address, from bit `lo` of them. -/
def addrBits (a : Addr48) (lo : Nat) : Nat := a.toNat / 2 ^ (4 + lo)

/-- ATW0 to ATW5 of what the attention slot shows (TABLE 62). -/
def Shown.word (r : Shown) (update : BitVec 8) (i : Nat) : Word :=
  match i with
  | 0 =>
    packWord
      [⟨0, 6, r.slot.val⟩, ⟨6, 2, r.lane.val⟩, ⟨8, 5, r.unit.val⟩, ⟨13, 2, r.kind.code⟩, ⟨15, 1, 1⟩,
       ⟨16, 4, orZero (r.cls.map ReportClass.code)⟩, ⟨20, 3, orZero (r.reason.map Reason.code)⟩,
       ⟨23, 1, r.status.isSome.toNat⟩, ⟨24, 8, update.toNat⟩]
  | 1 => r.cookie
  | 2 => packWord [⟨0, 16, r.residual⟩, ⟨16, 8, orZero (r.status.map BitVec.toNat)⟩, ⟨24, 8, r.noteCount⟩]
  | 3 => packWord [⟨0, 32, addrBits r.descAddr 0⟩]
  | 4 =>
    packWord
      [⟨0, 12, addrBits r.descAddr 32⟩, ⟨12, 6, r.flags.toNat⟩, ⟨18, 12, orZero (r.noteAddr.map (addrBits · 32))⟩]
  | _ => packWord [⟨0, 32, orZero (r.noteAddr.map (addrBits · 0))⟩]

/-- ATW0 to ATW5 (R160, R182). -/
def Blocks.attentionWord (b : Blocks) (i : Nat) : Word :=
  match b.shown with
  | some r => r.word b.reports.update i
  | none => if i = 0 then packWord [⟨24, 8, b.reports.update.toNat⟩] else 0

/-- PSTAT (R53, TABLE 57). -/
def Port.pstatWord (p : Port) : Word :=
  packWord [⟨0, 1, (p.pstat == .resetting).toNat⟩, ⟨8, 8, Config.revision⟩]

/-- A read of the window (TABLE 13, TABLE 56). It changes nothing (R30, R32, R34, R160). While PSTAT shows RESETTING every
register but PSTAT reads 0 (R52). -/
def State.readRegister (s : State) (offset : BitVec 7) : Word :=
  let i := offset.toNat / 4
  if i = 18 then s.port.pstatWord
  else if s.port.pstat = .resetting then 0
  else
    match i with
    | 0 => s.port.rqw.get 0
    | 1 => s.port.rqw.get 1
    | 2 => s.port.rqw.get 2
    | 3 => s.port.rqw.get 3
    | 4 => packWord [⟨0, 4, Config.fifoCapacity - s.port.reqs.length⟩]
    | 6 => s.port.responseWord 0
    | 7 => s.port.responseWord 1
    | 8 => s.port.responseWord 2
    | 9 => s.port.responseWord 3
    | 10 => s.blocks.attentionWord 0
    | 11 => s.blocks.attentionWord 1
    | 12 => s.blocks.attentionWord 2
    | 13 => s.blocks.attentionWord 3
    | 14 => s.blocks.attentionWord 4
    | 15 => s.blocks.attentionWord 5
    | 16 => s.causes
    | 17 => s.port.inte
    | 20 => s.port.tbdiv.setWidth 32
    | _ => 0

end Sys2Proof.Machine
end

