-- ==== Sys2Proof/Machine/Requests.lean ====
section
/-!
DEFINITION. The family of the request handler: the ten requests and the unknown one (02, 2.3 to 2.9; R23 to R28; R181).
-/
namespace Sys2Proof.Machine

/-! ### Taking a request (R33, R35) -/

/-- A result and its three data words (R34). -/
structure Answer where
  result : Result
  d1 : Word
  d2 : Word
  d3 : Word
  deriving DecidableEq, Repr

/-- A result with no data. -/
def bare (r : Result) : Answer := ⟨r, 0, 0, 0⟩

/-- A result whose first data word is made of fields. -/
def withFields (r : Result) (fields : List WordField) : Answer := ⟨r, packWord fields, 0, 0⟩

/-- The handler takes the head of the request FIFO when PSTAT shows READY, the response FIFO has a place, and its code is
`code` (R33): it carries out `act`, or answers BAD_REQUEST when a range check fails (R35), and places one response. -/
def State.handle (s : State) (code : ReqCode) (act : Request → Blocks → Blocks × Answer) : State :=
  match s.port.reqs with
  | [] => s
  | r :: rest =>
    if s.port.pstat = .ready ∧ s.port.resps.length < Config.fifoCapacity ∧ r.code = code then
      let out := if r.inRange then act r s.blocks else (s.blocks, bare .badRequest)
      { s with
        port :=
          { s.port with
            reqs := rest
            resps := s.port.resps ++ [⟨r.tag, out.2.result, out.2.d1, out.2.d2, out.2.d3⟩] }
        blocks := s.blocks.settled out.1 }
    else s

/-- The request acts on the slot the unit index names, or answers as an unbound unit does (R36). -/
def Blocks.onBound (b : Blocks) (r : Request) (unbound : Blocks × Answer) (act : Slot → Blocks × Answer) :
    Blocks × Answer :=
  match b.lookup r.lane r.unit with
  | some s => act s
  | none => unbound

/-! ### OPEN (R5, R37) -/

/-- The record of a slot just opened (R5). -/
def openedContext (r : Request) : Context :=
  { Context.reset with
    state := .idle
    binding := some ⟨r.lane, r.unit, r.w1, r.detachLimit, r.selectRetries⟩ }

/-- The unit is in its lane's deferred-attention set. -/
def Lane.defers (l : Lane) (u : UnitAddr) : Bool := l.deferred.getLsbD u.val

/-- The unit leaves the deferred-attention set (R101). -/
def Lane.undefer (l : Lane) (u : UnitAddr) : Lane := { l with deferred := l.deferred &&& ~~~((1 : Word) <<< u.val) }

/-- The binding of a FREE slot (R5). -/
def Blocks.bind (b : Blocks) (r : Request) (s : Slot) : Blocks :=
  ((b.setCtx s (openedContext r)).setIndex r.lane r.unit (some s)).modLane r.lane (·.undefer r.unit)

/-- OPEN at the blocks (R37). -/
def Blocks.doOpen (r : Request) (b : Blocks) : Blocks × Answer :=
  b.onBound r
    (match b.lowestFree with
      | none => (b, bare .tableFull)
      | some s => (b.bind r s, withFields .accepted [⟨0, 6, s.val⟩, ⟨8, 1, ((b.lane r.lane).defers r.unit).toNat⟩]))
    fun s => (b, withFields .alreadyOpen [⟨0, 6, s.val⟩])

/-- OPEN (R37). -/
def execOpen (s : State) : Host.Outcome State Fault Refusal := .next (s.handle .openUnit Blocks.doOpen)

/-! ### CLOSE (R6, R38) -/

/-- CLOSE at the blocks (R38). -/
def Blocks.doClose (r : Request) (b : Blocks) : Blocks × Answer :=
  b.onBound r (b, bare .notOpen) fun s =>
    match (b.ctx s).state with
    | .reported => (b, bare .reportPending)
    | .idle => ((b.setCtx s Context.reset).setIndex r.lane r.unit none, withFields .accepted [⟨0, 6, s.val⟩])
    | c => (b, withFields .busy [⟨0, 4, c.code⟩])

/-- CLOSE (R38). -/
def execClose (s : State) : Host.Outcome State Fault Refusal := .next (s.handle .closeUnit Blocks.doClose)

/-! ### START (R9, R39) -/

/-- The record after an accepted START (R9). -/
def Context.started (c : Context) (addr : Addr48) : Context :=
  { c with state := .loading, flags := .empty, lastStatus := none, chainAddr := addr, haltCause := none }

/-- START at the blocks (R39). -/
def Blocks.doStart (r : Request) (b : Blocks) : Blocks × Answer :=
  b.onBound r (b, bare .notOpen) fun s =>
    match (b.ctx s).state with
    | .reported => (b, bare .reportPending)
    | .idle =>
      match (b.lane r.lane).state with
      | .disabled => (b, withFields .laneUnavailable [⟨0, 4, LaneState.code .disabled⟩])
      | .fault => (b, withFields .laneUnavailable [⟨0, 4, LaneState.code .fault⟩])
      | _ => ((b.modCtx s (·.started r.chainAddr)).appendStart s, withFields .accepted [⟨0, 6, s.val⟩])
    | c => (b, withFields .busy [⟨0, 4, c.code⟩])

/-- START (R39). -/
def execStart (s : State) : Host.Outcome State Fault Refusal := .next (s.handle .startChain Blocks.doStart)

/-! ### HALT (R23 to R26, R40, R41, R167, R168, R171) -/

/-- The record of an accepted HALT: cause REQUESTED, HALT_REQUESTED among the flags (R23 to R26). -/
def Context.haltRequested (c : Context) : Context :=
  { c with haltCause := some .requested, flags := c.flags.addHaltRequested }

/-- The two states a HALT response carries (R40, TABLE 61). -/
def haltAnswer (r : Result) (found after : CtxState) : Answer :=
  withFields r [⟨0, 4, found.code⟩, ⟨4, 4, after.code⟩]

/-- HALT of a LOADING context (R23, R72). -/
def Blocks.haltLoading (b : Blocks) (s : Slot) : Blocks × Answer :=
  let b1 := b.modCtx s Context.haltRequested
  if b.fetchQ.any (fun e => e.slot == s) then
    (b1.endContext s [plain .halted], haltAnswer .accepted .loading .reported)
  else (b1, haltAnswer .accepted .loading .loading)

/-- HALT of a READY context (R24): REPORTED with HALTED; a selection being made of it is lost (R171). -/
def Blocks.haltReady (b : Blocks) (s : Slot) : Blocks :=
  let n := b.laneOf s
  let b1 := (b.modCtx s Context.haltRequested).endContext s [plain .halted]
  if (b.lane n).servedSlot = some s then b1.loseSelection n (b.unitOf s) else b1

/-- The lane is told of the halt of the context it serves (R166): it acts by its phase (R167, R168, R170). -/
def Blocks.haltNotice (b : Blocks) (n : LaneId) (s : Slot) : Blocks :=
  let b1 := b.modLane n fun l => { l with haltNotice := true }
  let l := b1.lane n
  let named := [haltClass (b1.ctx s).haltCause]
  if l.state = .permitWait then ((b1.leavePermit n).sendDesel n).endServed n named
  else if l.state = .linkFetch ∧ l.dflags.linkData = false then ((b1.withdrawFetch s).sendDesel n).endServed n named
  else b1.haltIfTurn n

/-- HALT of a CONNECTED context (R25). -/
def Blocks.haltConnected (b : Blocks) (s : Slot) : Blocks :=
  (b.modCtx s fun c => { c.haltRequested with state := .halting }).haltNotice (b.laneOf s) s

/-- HALT of a DETACHED context (R26). -/
def Blocks.haltDetached (b : Blocks) (s : Slot) : Blocks :=
  (b.modCtx s fun c => { c.haltRequested with state := .halting, awaiting := none, timer := none }).appendHalt
    (b.laneOf s) s

/-- HALT of the context of slot `s`, by the state it finds (R40). The states after are those R40 tables; for CONNECTED
that is HALTING also where the lane ends the halt in the same event (log 35). -/
def Blocks.haltSlot (b : Blocks) (s : Slot) : Blocks × Answer :=
  let c := b.ctx s
  match c.state with
  | .idle | .reported | .free => (b, haltAnswer .nothingToHalt c.state c.state)
  | .halting => (b, haltAnswer .alreadyHalting .halting .halting)
  | .loading => if c.haltCause.isSome then (b, haltAnswer .alreadyHalting .loading .loading) else b.haltLoading s
  | .ready => (b.haltReady s, haltAnswer .accepted .ready .reported)
  | .connected => (b.haltConnected s, haltAnswer .accepted .connected .halting)
  | .detached => (b.haltDetached s, haltAnswer .accepted .detached .halting)

/-- HALT at the blocks (R40). -/
def Blocks.doHalt (r : Request) (b : Blocks) : Blocks × Answer := b.onBound r (b, bare .notOpen) fun s => b.haltSlot s

/-- HALT (R40). -/
def execHalt (s : State) : Host.Outcome State Fault Refusal := .next (s.handle .haltUnit Blocks.doHalt)

/-! ### PROBE (R11, R42) -/

/-- The answer to PROBE of a bound unit (TABLE 61). -/
def Blocks.probeAnswer (b : Blocks) (s : Slot) : Answer :=
  let c := b.ctx s
  { result := .accepted
    d1 := packWord
      [⟨0, 4, c.state.code⟩, ⟨8, 6, s.val⟩, ⟨16, 2, entryKindCode (b.entryOf s)⟩, ⟨18, 1, c.lastStatus.isSome.toNat⟩,
       ⟨24, 8, (c.lastStatus.map BitVec.toNat).getD 0⟩]
    d2 := packWord [⟨0, 16, c.residual⟩, ⟨16, 16, c.chainAddr.toNat / 2 ^ 32⟩]
    d3 := packWord [⟨0, 32, c.chainAddr.toNat⟩] }

/-- PROBE at the blocks (R42). -/
def Blocks.doProbe (r : Request) (b : Blocks) : Blocks × Answer :=
  b.onBound r (b, withFields .notOpen [⟨0, 1, ((b.lane r.lane).defers r.unit).toNat⟩]) fun s => (b, b.probeAnswer s)

/-- PROBE (R42). -/
def execProbe (s : State) : Host.Outcome State Fault Refusal := .next (s.handle .probeUnit Blocks.doProbe)

/-! ### COLLECT (R10, R43, R163) -/

/-- The record after its FINAL entry is collected (R10). -/
def Context.collected (c : Context) : Context :=
  { c with
    state := .idle, final := none, desc := none, haltCause := none, residual := 0, dataAddr := 0, lengthCond := false
    flags := .empty }

/-- The record after its entry of this kind is collected (R10). -/
def Context.collectedAs (c : Context) : EntryKind → Context
  | .final => c.collected
  | .note => { c with note := none }

/-- The head entry is removed and its context acts on the removal (R10, R163). -/
def Blocks.collectHead (b : Blocks) (e : ReportEntry) (rest : List ReportEntry) : Blocks :=
  Blocks.modCtx { b with reports := { b.reports with queue := rest } } e.slot (·.collectedAs e.kind)

/-- COLLECT at the blocks (R43). -/
def Blocks.doCollect (r : Request) (b : Blocks) : Blocks × Answer :=
  b.onBound r (b, bare .notOpen) fun s =>
    match b.reports.queue with
    | [] => (b, bare .nothingToCollect)
    | e :: rest =>
      if e.slot = s then
        (b.collectHead e rest,
          withFields .accepted [⟨0, 6, s.val⟩, ⟨8, 2, e.kind.code⟩, ⟨16, 6, rest.length⟩])
      else (b, withFields .notHead [⟨0, 6, e.slot.val⟩, ⟨8, 2, e.kind.code⟩])

/-- COLLECT (R43). -/
def execCollect (s : State) : Host.Outcome State Fault Refusal := .next (s.handle .collectReport Blocks.doCollect)

/-! ### LANE (R44 to R46, R94 to R96) -/

/-- New parameters (R46). -/
def Lane.withParams (l : Lane) (r : Request) : Lane :=
  { l with rate := Fin.ofNat 4 r.rateCode, limit := r.respLimit }

/-- A BREAK begins: a frame being sent is cut off, and the receiver hears nothing (R74, R94). -/
def Lane.beginBreak (l : Lane) : Lane :=
  { l with brk := some ⟨.space, Config.breakTicks⟩, tx := none, txQueue := [], rx := l.rx.deafened }

/-- The lane is enabled (R95). -/
def Lane.enabled (l : Lane) : Lane :=
  let l1 : Lane := { l with state := .idle, deferred := 0, emptyPolls := 0, pollRun := 0, lineStuck := false }
  l1.beginBreak

/-- The lane is disabled (R96): a frame on the wire is cut off, a poll or a lost attempt abandoned; the space of a BREAK
runs on, its recovery does not. -/
def Lane.disabled (l : Lane) : Lane :=
  { l.release with
    state := .disabled
    lostAttempt := none
    tx := none
    txQueue := []
    rx := l.rx.deafened
    brk := match l.brk with
      | some ⟨.space, k⟩ => some ⟨.space, k⟩
      | some ⟨.recovery, _⟩ | none => none }

/-- The lane states a LANE response carries (TABLE 61). -/
def laneAnswer (r : Result) (found after : LaneState) : Answer :=
  withFields r [⟨0, 4, found.code⟩, ⟨4, 4, after.code⟩]

/-- The parameters differ from those the lane holds (R44). -/
def Lane.paramsChange (l : Lane) (r : Request) : Bool := l.rate.val != r.rateCode || l.limit != r.respLimit

/-- LANE on an enabled lane out of L_FAULT that its running contexts do not hold back (R44). -/
def Lane.controlled (l : Lane) (r : Request) : Lane :=
  if r.enable then l.withParams r else (l.disabled).withParams r

/-- LANE at the blocks (R44). -/
def Blocks.doLane (r : Request) (b : Blocks) : Blocks × Answer :=
  let n := r.lane
  let l := b.lane n
  let running := b.runningOn n
  match l.state with
  | .fault => (b, laneAnswer .laneUnavailable .fault .fault)
  | .disabled =>
    if r.enable then (b.setLane n (l.withParams r).enabled, laneAnswer .accepted .disabled .idle)
    else (b.setLane n (l.withParams r), laneAnswer .accepted .disabled .disabled)
  | _ =>
    if r.enable && !l.paramsChange r then (b, laneAnswer .accepted l.state l.state)
    else if running ≠ 0 then (b, withFields .busy [⟨0, 6, running⟩])
    else (b.setLane n (l.controlled r), laneAnswer .accepted l.state (l.controlled r).state)

/-- LANE (R44). -/
def execLane (s : State) : Host.Outcome State Fault Refusal := .next (s.handle .laneControl Blocks.doLane)

/-! ### RESET_LANE (R28, R47, R125, R134, R145) -/

/-- A context that a lane reset finalises (R28). -/
def CtxState.finalised : CtxState → Bool
  | .ready | .connected | .detached | .halting => true
  | .free | .idle | .loading | .reported => false

/-- The slots a reset of lane `n` finalises, ascending (R28). -/
def Blocks.finalisedOn (b : Blocks) (n : LaneId) : List Slot :=
  allSlots.filter fun s => b.onLane s n && (b.ctx s).state.finalised

/-- The contexts of `slots` end with LANE_RESET, in order (R28, R158). -/
def Blocks.finaliseAll (b : Blocks) (slots : List Slot) : Blocks :=
  slots.foldl (fun b s => b.endContext s [plain .laneReset]) b

/-- The lane engine after a lane reset (R125, TABLE 39), `memReq` being what is left of its memory request. -/
def Lane.afterReset (l : Lane) (memReq : Option LaneMem) : Lane :=
  let l1 : Lane :=
    { Lane.reset with
      state := .idle, rate := l.rate, limit := l.limit, strayFrame := l.strayFrame, atn := l.atn, rx := l.rx
      memReq := memReq }
  l1.beginBreak

/-- What a lane reset leaves of the lane's memory request: none of a waiting one, the discard mark on one in flight (R125,
R145). -/
def Blocks.memAfterReset (b : Blocks) (n : LaneId) : Option LaneMem :=
  if (b.mem.laneReq n).isSome then none else (b.lane n).memReq.map fun m => { m with discard := true }

/-- The lane reset of lane `n` (R28, R47, R125). -/
def Blocks.laneReset (b : Blocks) (n : LaneId) : Blocks :=
  let b1 := (b.writeBack n).finaliseAll (b.finalisedOn n)
  (((b1.leavePermit n).portLaneReset n)).modLane n (·.afterReset (b.memAfterReset n))

/-- RESET_LANE at the blocks (R47). -/
def Blocks.doResetLane (r : Request) (b : Blocks) : Blocks × Answer :=
  let found := (b.lane r.lane).state
  if found = .disabled then (b, withFields .laneUnavailable [⟨0, 4, found.code⟩])
  else
    (b.laneReset r.lane,
      withFields .accepted [⟨0, 4, found.code⟩, ⟨8, 6, (b.finalisedOn r.lane).length⟩])

/-- RESET_LANE (R47). -/
def execResetLane (s : State) : Host.Outcome State Fault Refusal := .next (s.handle .resetLane Blocks.doResetLane)

/-! ### POLICY (R48, R133) -/

/-- POLICY at the blocks (R48): both values, then a grant decision (R133). -/
def Blocks.doPolicy (r : Request) (b : Blocks) : Blocks × Answer :=
  let w : Window := { b.window with startLimit := r.startLimit, windowUs := r.windowUs }
  (Blocks.grantDecision { b with window := w },
    withFields .accepted [⟨0, 4, b.window.startLimit⟩, ⟨16, 16, b.window.windowUs⟩])

/-- POLICY (R48). -/
def execPolicy (s : State) : Host.Outcome State Fault Refusal := .next (s.handle .setPolicy Blocks.doPolicy)

/-! ### LANE_STATUS (R49) -/

/-- The answer to LANE_STATUS (TABLE 61). -/
def Lane.statusAnswer (l : Lane) : Answer :=
  { result := .accepted
    d1 := packWord
      [⟨0, 4, l.state.code⟩, ⟨4, 1, l.enable.toNat⟩, ⟨5, 2, l.rate.val⟩, ⟨7, 1, l.faultCause.isSome.toNat⟩,
       ⟨8, 1, l.lineStuck.toNat⟩, ⟨9, 1, l.strayFrame.toNat⟩, ⟨16, 13, l.limit⟩]
    d2 := l.deferred
    d3 := packWord [⟨0, 6, l.readyQ.length⟩, ⟨8, 6, l.haltList.length⟩] }

/-- LANE_STATUS at the blocks (R49). -/
def Blocks.doLaneStatus (r : Request) (b : Blocks) : Blocks × Answer :=
  (b.modLane r.lane fun l => { l with strayFrame := false }, (b.lane r.lane).statusAnswer)

/-- LANE_STATUS (R49). -/
def execLaneStatus (s : State) : Host.Outcome State Fault Refusal := .next (s.handle .laneStatus Blocks.doLaneStatus)

/-! ### UNKNOWN_REQUEST (R35) -/

/-- A code that names none of the ten requests (R35): BAD_REQUEST and no change. No such request is in range. -/
def Blocks.doUnknown (_r : Request) (b : Blocks) : Blocks × Answer := (b, bare .badRequest)

/-- UNKNOWN_REQUEST (R35). -/
def execUnknownRequest (s : State) : Host.Outcome State Fault Refusal := .next (s.handle .unknown Blocks.doUnknown)

end Sys2Proof.Machine
end

