-- ==== Sys2Proof/Machine/Time.lean ====
section
/-!
DEFINITION. The family of time: the tick and the expiries (R21, R22, R54, R76, R81, R93, R94, R127, R128).
-/
namespace Sys2Proof.Machine

/-! ### TIMEBASE_TICK -/

/-- The response timer counts a tick while the receiver is not assembling a frame, up to its limit (R81). -/
def ResponseTimer.tick (t : ResponseTimer) (assembling : Bool) : ResponseTimer :=
  if assembling || decide (t.limit ≤ t.count) then t else { t with count := t.count + 1 }

/-- A tick of a lane: its response timer and its BREAK (R76, R81). -/
def Lane.tick (l : Lane) : Lane :=
  { l with
    timer := l.timer.map fun t => t.tick l.rx.isAssembling
    brk := l.brk.map fun k => { k with left := k.left - 1 } }

/-- A tick of a detach timer: it falls by one at each 1000th tick (R21). -/
def DetachTimer.tick (t : DetachTimer) : DetachTimer :=
  if t.ms = 0 then t
  else if t.ticks + 1 < Config.ticksPerMs then { t with ticks := t.ticks + 1 }
  else ⟨t.ms - 1, 0⟩

/-- A tick of a context (R21). -/
def Context.tick (c : Context) : Context := { c with timer := c.timer.map DetachTimer.tick }

/-- A tick of a ledger record (R127). -/
def LedgerRec.tick (r : LedgerRec) : LedgerRec := { r with age := min Config.maxAge (r.age + 1) }

/-- The tick is an expiry event: some record's age reaches WINDOW_US at it (R128). -/
def Window.expiresNow (w : Window) : Bool := w.ledger.any fun r => r.age + 1 == w.windowUs

/-- A tick of the start window (R127, R128). -/
def Window.tick (w : Window) : Window :=
  { w with ledger := w.ledger.map LedgerRec.tick, expiryDue := w.expiryDue || w.expiresNow }

/-- A tick of the blocks: the count rises by one, the divider set applies to the tick that begins, and every age and timer
advances (R54). -/
def Blocks.advance (b : Blocks) (tbdiv : BitVec 8) : Blocks :=
  { b with
    timebase := ⟨b.timebase.count + 1, tbdiv⟩
    lanes := b.lanes.map Lane.tick
    ctxs := b.ctxs.map Context.tick
    window := b.window.tick }

/-- A tick. A decision that a joining brought is taken first, for a lane it grants stands in L_PERMIT_WAIT for no tick
(R131). -/
def Blocks.tick (b : Blocks) (tbdiv : BitVec 8) : Blocks := b.decideIfAsked.advance tbdiv

/-- TIMEBASE_TICK (R54). -/
def execTimebaseTick (s : State) : Host.Outcome State Fault Refusal :=
  .next (s.onBlocks fun b => b.tick s.port.tbdiv)

/-! ### Expiries -/

/-- The record after the expiry of its detach timer (R22). -/
def Context.expired (c : Context) : Context :=
  { c with state := .halting, haltCause := some .timeout, awaiting := none, timer := none }

/-- A detach timer has reached 0 (R21). -/
def Context.timerDue (c : Context) : Bool :=
  c.state == .detached &&
    match c.timer with
    | some t => t.ms == 0
    | none => false

/-- The detach timer of a slot expires (R22). -/
def Blocks.detachExpiry (b : Blocks) (slot : Slot) : Blocks :=
  if (b.ctx slot).timerDue then (b.modCtx slot Context.expired).appendHalt (b.laneOf slot) slot else b

/-- DETACH_TIMER_EXPIRY (R22). -/
def execDetachTimerExpiry (slot : Slot) (s : State) : Host.Outcome State Fault Refusal :=
  .next (s.onBlocks fun b => b.detachExpiry slot)

/-- An expiry event is taken by the start window, which takes a grant decision (R128, R131). -/
def Blocks.ledgerExpiry (b : Blocks) : Blocks :=
  if b.window.expiryDue then Blocks.grantDecision { b with window := { b.window with expiryDue := false } } else b

/-- LEDGER_RECORD_EXPIRY (R128). -/
def execLedgerRecordExpiry (s : State) : Host.Outcome State Fault Refusal :=
  .next (s.onBlocks fun b => b.ledgerExpiry)

/-- The response timer has reached the limit it started with (R81). -/
def Lane.timerDue (l : Lane) : Bool :=
  match l.timer with
  | some t => decide (t.limit ≤ t.count)
  | none => false

/-- An empty poll (R99): at the third LINE_STUCK is set. -/
def Lane.emptyPoll (l : Lane) : Lane :=
  if 2 ≤ l.emptyPolls then { l with emptyPolls := 0, lineStuck := true } else { l with emptyPolls := l.emptyPolls + 1 }

/-- Expiry in L_SELECTING: the attempt fails (R102), or the lost attempt ends (R171). -/
def Blocks.attemptTimedOut (b : Blocks) (n : LaneId) : Blocks :=
  if (b.lane n).served.isNone then b.endLostAttempt n
  else if b.attemptsRemain n then b.nextAttempt n
  else b.selectionFailed n

/-- Expiry in L_ABORTING: the abort is unconfirmed (R123). -/
def Blocks.abortTimedOut (b : Blocks) (n : LaneId) : Blocks :=
  (b.modLane n fun l => { l with timer := none, abortPhase := .unconfirmed }).pump n

/-- Expiry of the response timer, taken by the lane's state (TABLE 33). -/
def Blocks.timedOut (b : Blocks) (n : LaneId) : Blocks :=
  match (b.lane n).state with
  | .polling => (b.modLane n (·.emptyPoll)).enterIdle n
  | .selecting => b.attemptTimedOut n
  | .commanding | .transfer | .ending => b.linkError n
  | .aborting => b.abortTimedOut n
  | .disabled | .idle | .permitWait | .linkFetch | .fault => b

/-- The response timer of a lane expires when its count has reached its limit (R81, R93). -/
def Blocks.responseTimeout (b : Blocks) (n : LaneId) : Blocks := if (b.lane n).timerDue then b.timedOut n else b

/-- RESPONSE_TIMEOUT (R93). -/
def execResponseTimeout (lane : LaneId) (s : State) : Host.Outcome State Fault Refusal :=
  .next (s.onBlocks fun b => b.responseTimeout lane)

/-! ### The end of a BREAK -/

/-- The part of a BREAK in the phase named has run all its ticks (R76). -/
def Lane.breakDue (l : Lane) (phase : BreakPhase) : Bool := l.brk == some ⟨phase, 0⟩

/-- The space of a BREAK ends: recovery begins (R76), or, when the lane has been disabled meanwhile, the BREAK is over
(R96). -/
def Lane.breakSpaceEnd (l : Lane) : Lane :=
  if l.breakDue .space then { l with brk := if l.enable then some ⟨.recovery, Config.recoveryTicks⟩ else none } else l

/-- BREAK_SPACE_END (R76). -/
def execBreakSpaceEnd (lane : LaneId) (s : State) : Host.Outcome State Fault Refusal :=
  .next (s.onBlocks fun b => b.modLane lane (·.breakSpaceEnd))

/-- BREAK recovery ends: the BREAK in progress becomes absent and the lane makes its first service choice (R94). -/
def Blocks.breakRecoveryEnd (b : Blocks) (n : LaneId) : Blocks :=
  if (b.lane n).breakDue .recovery then (b.modLane n fun l => { l with brk := none }).serviceChoice n else b

/-- BREAK_RECOVERY_END (R94). -/
def execBreakRecoveryEnd (lane : LaneId) (s : State) : Host.Outcome State Fault Refusal :=
  .next (s.onBlocks fun b => b.breakRecoveryEnd lane)

end Sys2Proof.Machine
end

