-- ==== Sys2Proof/Machine/Dispatch.lean ====
section
/-!
DEFINITION. The meaning of each command: one arm per constructor of `Instr`.
-/
namespace Sys2Proof.Machine

def exec (i : Instr) (s : State) : Host.Outcome State Fault Refusal :=
  match i with
  | .pinReset => Sys2Proof.Machine.execPinReset s
  | .rqgoSubmit value strobes => Sys2Proof.Machine.execRqgoSubmit value strobes s
  | .rsnextPop value strobes => Sys2Proof.Machine.execRsnextPop value strobes s
  | .intsWrite value strobes => Sys2Proof.Machine.execIntsWrite value strobes s
  | .inteWrite value strobes => Sys2Proof.Machine.execInteWrite value strobes s
  | .prstWrite value strobes => Sys2Proof.Machine.execPrstWrite value strobes s
  | .tbdivWrite value strobes => Sys2Proof.Machine.execTbdivWrite value strobes s
  | .registerWrite offset value strobes => Sys2Proof.Machine.execRegisterWrite offset value strobes s
  | .softResetComplete => Sys2Proof.Machine.execSoftResetComplete s
  | .openUnit => Sys2Proof.Machine.execOpen s
  | .closeUnit => Sys2Proof.Machine.execClose s
  | .startChain => Sys2Proof.Machine.execStart s
  | .haltUnit => Sys2Proof.Machine.execHalt s
  | .probeUnit => Sys2Proof.Machine.execProbe s
  | .collectReport => Sys2Proof.Machine.execCollect s
  | .laneControl => Sys2Proof.Machine.execLane s
  | .resetLane => Sys2Proof.Machine.execResetLane s
  | .setPolicy => Sys2Proof.Machine.execPolicy s
  | .laneStatus => Sys2Proof.Machine.execLaneStatus s
  | .unknownRequest => Sys2Proof.Machine.execUnknownRequest s
  | .timebaseTick => Sys2Proof.Machine.execTimebaseTick s
  | .detachTimerExpiry slot => Sys2Proof.Machine.execDetachTimerExpiry slot s
  | .ledgerRecordExpiry => Sys2Proof.Machine.execLedgerRecordExpiry s
  | .responseTimeout lane => Sys2Proof.Machine.execResponseTimeout lane s
  | .breakSpaceEnd lane => Sys2Proof.Machine.execBreakSpaceEnd lane s
  | .breakRecoveryEnd lane => Sys2Proof.Machine.execBreakRecoveryEnd lane s
  | .attentionLineChange lane asserted => Sys2Proof.Machine.execAttentionLineChange lane asserted s
  | .frameMalformed lane check lengthAbove16 => Sys2Proof.Machine.execFrameMalformed lane check lengthAbove16 s
  | .frameAttn lane addr reason status => Sys2Proof.Machine.execFrameAttn lane addr reason status s
  | .frameEcho lane addr => Sys2Proof.Machine.execFrameEcho lane addr s
  | .frameAcpt lane addr status => Sys2Proof.Machine.execFrameAcpt lane addr status s
  | .frameNeed lane addr chunks => Sys2Proof.Machine.execFrameNeed lane addr chunks s
  | .frameDin lane addr toggle bytes => Sys2Proof.Machine.execFrameDin lane addr toggle bytes s
  | .frameWait lane addr => Sys2Proof.Machine.execFrameWait lane addr s
  | .frameEnd lane addr status => Sys2Proof.Machine.execFrameEnd lane addr status s
  | .memoryBurstResponse resps bytes => Sys2Proof.Machine.execMemoryBurstResponse resps bytes s
  | .frameSent lane => Sys2Proof.Machine.execFrameSent lane s
  | .frameFirstStartBit lane => Sys2Proof.Machine.execFrameFirstStartBit lane s
  | .unbrokenMarkResync lane => Sys2Proof.Machine.execUnbrokenMarkResync lane s

end Sys2Proof.Machine
end

