-- ==== Sys2Proof/Machine/Step.lean ====
section
/-!
DEFINITION. One step: the command at the front of the queue is carried out.
-/
namespace Sys2Proof.Machine

/-- One step: the front command acts on the state with the rest of the queue. On an empty queue a grant decision
that is owed is taken, and else nothing happens (logs 2 and 38). -/
def step (s : State) : Host.Outcome State Fault Refusal :=
  match s.pending with
  | [] => .next s.idle
  | c :: rest => exec c { s with pending := rest }

/-- The state with the command that the table word spells put at the front of its queue; unchanged where the word spells
none (log 3). -/
def State.withFetchWord (s : State) (nbits w : Nat) : State :=
  match decodeTableWord nbits w with
  | some c => { s with pending := c :: s.pending }
  | none => s

end Sys2Proof.Machine
end

