-- ==== Sys2Proof/Safety.lean ====
section
/-!
DEFINITION. What every reachable state of the part satisfies: the bounds the rules give its queues and registers, and the
exclusions between the parts of a lane.
-/
namespace Sys2Proof.Machine

/-- The request port's bounds: neither FIFO holds more than 8 entries (R33), INTE has no bit without a cause (TABLE 57),
the divider is 1 to 255 (R54). -/
def Port.sound (p : Port) : Prop :=
  p.reqs.length ≤ 8 ∧ p.resps.length ≤ 8 ∧ p.inte &&& ~~~causeMask = 0 ∧ p.tbdiv ≠ 0

/-- A lane's receiver assembles a frame only while it listens: the lane is enabled, sends no frame and is in no BREAK
(R74). -/
def Lane.halfDuplex (l : Lane) : Prop := l.rx.isAssembling = true → l.listens = true

/-- Every lane is half-duplex. -/
def Blocks.halfDuplex (b : Blocks) : Prop := ∀ n : LaneId, (b.lane n).halfDuplex

/-- The start ledger (R127): at most 8 records, no age above 65535, and ages that do not rise from head to tail. -/
def Window.sound (w : Window) : Prop :=
  w.ledger.length ≤ 8 ∧ (∀ r ∈ w.ledger, r.age ≤ 65535) ∧ w.ledger.Pairwise (fun older newer => newer.age ≤ older.age)

/-- The unit index and the contexts' bindings agree (R3): an entry that names a slot names one that is not FREE and records
that lane and unit, and every slot that is not FREE is named by the entry of its lane and unit. -/
def Blocks.indexSound (b : Blocks) : Prop :=
  (∀ (n : LaneId) (u : UnitAddr) (s : Slot), b.lookup n u = some s →
      (b.ctx s).state ≠ .free ∧ ∃ x, (b.ctx s).binding = some x ∧ x.lane = n ∧ x.unit = u)
    ∧ ∀ s : Slot, (b.ctx s).state ≠ .free →
        ∃ x, (b.ctx s).binding = some x ∧ b.lookup x.lane x.unit = some s

/-- The report queue and the records agree (R149, R8): at most one entry per slot, a context REPORTED exactly when the queue
holds a FINAL entry for its slot and exactly when it has a pending final report, a pending note exactly when the queue holds
a NOTE entry for its slot, and then only in CONNECTED, DETACHED or HALTING. -/
def Blocks.reportsSound (b : Blocks) : Prop :=
  (b.reports.queue.map (·.slot)).Nodup
    ∧ ∀ s : Slot,
        ((b.ctx s).state = .reported ↔ ⟨s, .final⟩ ∈ b.reports.queue)
          ∧ ((b.ctx s).state = .reported ↔ (b.ctx s).final ≠ none)
          ∧ ((b.ctx s).note ≠ none ↔ ⟨s, .note⟩ ∈ b.reports.queue)
          ∧ ((b.ctx s).note ≠ none →
              (b.ctx s).state = .connected ∨ (b.ctx s).state = .detached ∨ (b.ctx s).state = .halting)

end Sys2Proof.Machine
end

