-- ==== Sys2Proof/Certificates/Slice0/Obligations.lean ====
section
/-!
DEFINITION. The statements for the provers, from the numbered rules of the spec. Each says what a command does for every
state that meets its hypotheses; the witnesses stand in Tests/Slice0.lean.
-/
namespace Sys2Proof.Claims

open Sys2Proof.Machine

/-- Register writes are taken: PSTAT shows READY and a strobe is set (R30, R52). -/
def writable (s : State) (strobes : BitVec 4) : Prop := s.port.pstat = .ready ∧ strobes ≠ 0

/-- The byte `k` of a word. -/
def byteOf (w : Word) (k : Nat) : Byte := w.extractLsb' (8 * k) 8

/-- The value a strobed write leaves in byte `k`: the written byte where its strobe is set, the old byte else (R30). -/
def strobedByte (old value : Word) (strobes : BitVec 4) (k : Nat) : Byte :=
  if strobes.getLsbD k then byteOf value k else byteOf old k

/-- The request code each command of the handler takes (TABLE 58). -/
def handlerCode : Instr → Option ReqCode
  | .openUnit => some .openUnit
  | .closeUnit => some .closeUnit
  | .startChain => some .startChain
  | .haltUnit => some .haltUnit
  | .probeUnit => some .probeUnit
  | .collectReport => some .collectReport
  | .laneControl => some .laneControl
  | .resetLane => some .resetLane
  | .setPolicy => some .setPolicy
  | .laneStatus => some .laneStatus
  | .unknownRequest => some .unknown
  | _ => none

/-- The handler may take `r`: it is the head of the request FIFO, the response FIFO has a place, PSTAT shows READY (R33),
and its code is `code`. -/
def atHead (s : State) (r : Request) (rest : List Request) (code : ReqCode) : Prop :=
  s.port.reqs = r :: rest ∧ s.port.resps.length < 8 ∧ s.port.pstat = .ready ∧ r.code = code

/-- As `atHead`, with every field in its range (R35). -/
def taken (s : State) (r : Request) (rest : List Request) (code : ReqCode) : Prop :=
  atHead s r rest code ∧ r.inRange = true

/-- The request port of `t` is that of `s` with the request taken and one response placed (R33, R34). -/
def answered (s t : State) (r : Request) (rest : List Request) (result : Result) (d1 d2 d3 : Word) : Prop :=
  t.port = { s.port with reqs := rest, resps := s.port.resps ++ [⟨r.tag, result, d1, d2, d3⟩] }

/-- The bits each request uses and the ranges of its fields (TABLE 58, TABLE 59): detach limit 0 to 60000 and select retries
0 to 7 of OPEN, the 16-aligned chain address of START, bit-rate code 0 to 3 and response limit 20 to 5000 of LANE,
START_LIMIT 1 to 8 and WINDOW_US 100 to 65535 of POLICY; RQW3 is 0. -/
def fieldsInRange (r : Request) : Prop :=
  r.w3 = 0 ∧
    match r.code with
    | .openUnit =>
      r.w0 &&& 0xFFE0FC00 = 0 ∧ r.w2 &&& 0xFFF00000 = 0 ∧ r.w2.toNat % 65536 ≤ 60000 ∧ r.w2.toNat / 65536 % 16 ≤ 7
    | .startChain => r.w0 &&& 0xFFE0FC00 = 0 ∧ r.w1.toNat % 16 = 0 ∧ r.w2.toNat < 65536
    | .closeUnit | .haltUnit | .probeUnit | .collectReport => r.w0 &&& 0xFFE0FC00 = 0 ∧ r.w1 = 0 ∧ r.w2 = 0
    | .laneControl =>
      r.w0 &&& 0xFFFFFC00 = 0 ∧ r.w1 &&& 0xFFFFFF0E = 0 ∧ r.w1.toNat / 16 % 16 ≤ 3 ∧ 20 ≤ r.w2.toNat
        ∧ r.w2.toNat ≤ 5000
    | .resetLane | .laneStatus => r.w0 &&& 0xFFFFFC00 = 0 ∧ r.w1 = 0 ∧ r.w2 = 0
    | .setPolicy =>
      r.w0 &&& 0xFFFFFF00 = 0 ∧ 1 ≤ r.w1.toNat ∧ r.w1.toNat ≤ 8 ∧ 100 ≤ r.w2.toNat ∧ r.w2.toNat ≤ 65535
    | .unknown => False

/-- Every context but that of slot `k` is as it was. -/
def otherCtxs (s t : State) (k : Slot) : Prop := ∀ j : Slot, j ≠ k → t.blocks.ctx j = s.blocks.ctx j

/-- Every lane but `n` is as it was. -/
def otherLanes (s t : State) (n : LaneId) : Prop := ∀ m : LaneId, m ≠ n → t.blocks.lane m = s.blocks.lane m

/-- No context, no unit index entry, no fetch and no memory request has changed. -/
def sameTables (s t : State) : Prop :=
  t.blocks.ctxs = s.blocks.ctxs ∧ t.blocks.index = s.blocks.index ∧ t.blocks.fetchQ = s.blocks.fetchQ
    ∧ t.blocks.fetch = s.blocks.fetch ∧ t.blocks.mem = s.blocks.mem ∧ t.blocks.reports = s.blocks.reports

/-- Nothing outside the lanes, the contexts, the fetcher, the memory port and the reports has changed. -/
def elsewhere (s t : State) : Prop :=
  t.blocks.index = s.blocks.index ∧ t.blocks.window = s.blocks.window ∧ t.blocks.timebase = s.blocks.timebase
    ∧ t.blocks.laneFault = s.blocks.laneFault ∧ t.pending = s.pending

/-- The lane's receiver is assembling a frame. -/
def receiving (s : State) (n : LaneId) : Prop := (s.blocks.lane n).rx.isAssembling = true

/-- Lane `n` serves slot `k` in a connection. -/
def serving (s : State) (n : LaneId) (k : Slot) : Prop := (s.blocks.lane n).served = some ⟨k, .connection⟩

/-- The frame on the wire of lane `n`. -/
def onWire (s : State) (n : LaneId) : Option PartFrame := (s.blocks.lane n).tx.map (·.frame)

/-- The frames lane `n` has sent whose last stop bit has not passed: the one on the wire, then those that wait. -/
def outgoing (s : State) (n : LaneId) : List PartFrame :=
  ((s.blocks.lane n).tx.map (·.frame)).toList ++ (s.blocks.lane n).txQueue

/-- Lane `n` sends `f` and then `more`, behind the frames it was sending; `f` is on the wire at once when there were none
and no frame is being received (R74, R75; logs 8 and 9). -/
def sendsThen (s t : State) (n : LaneId) (f : PartFrame) (more : List PartFrame) : Prop :=
  outgoing t n = outgoing s n ++ f :: more
    ∧ (outgoing s n = [] → (t.blocks.lane n).rx.isAssembling = false → onWire t n = some f)

/-- Lane `n` sends `f` and nothing else. -/
def sends (s t : State) (n : LaneId) (f : PartFrame) : Prop := sendsThen s t n f []

/-- Lane `n` sends `f`; the frame of a service choice may follow it. -/
def sendsFirst (s t : State) (n : LaneId) (f : PartFrame) : Prop := ∃ more, sendsThen s t n f more

/-- The final report of slot `k` has this class. -/
def reportedAs (s : State) (k : Slot) (c : ReportClass) : Prop :=
  (s.blocks.ctx k).state = .reported ∧ ∃ f, (s.blocks.ctx k).final = some f ∧ f.cls = c

/-- Every response is a success (R143). -/
def burstSucceeds (resps : List BusResp) : Prop := ∀ p ∈ resps, p = .okay ∨ p = .exokay

/-- A response is an error response (R143). -/
def burstErrs (resps : List BusResp) : Prop := ∃ p ∈ resps, p = .slverr ∨ p = .decerr

/-- The responses and bytes are those of the burst of `x` outstanding: of a write one response, of a read one for each beat
and every byte of the burst (R143; log 24). -/
def answers (x : Txn) (resps : List BusResp) (bytes : List Byte) : Prop :=
  match x.req.kind with
  | .dataWrite _ => resps.length = 1 ∧ bytes = []
  | .descriptor | .dataRead _ => resps.length = x.burst.beats ∧ bytes.length = x.burst.bytes

/-- The transaction in flight is the last burst of `x`, its marks clear. -/
def lastBurst (s : State) (x : Txn) : Prop :=
  s.blocks.mem.inflight = some x ∧ x.toIssue = [] ∧ x.error = false ∧ x.discard = false

/-- The fetch `f` is in progress, its read in flight as the one burst of R140, and no other fetch waits. -/
def descriptorRead (s : State) (f : Fetch) : Prop :=
  s.blocks.fetch = some f ∧ f.discard = false ∧ s.blocks.fetchQ = []
    ∧ s.blocks.mem.inflight =
        some ⟨.fetcher, ⟨.descriptor, f.addr.toNat, 16⟩, [], ⟨f.addr.toNat, 2, 8, 16⟩, [], false, false⟩

/-- The chain fault that ends the fetch `f` at this read, `linked` the descriptor in effect (R69, cases 2, 3, 4 and 6). -/
def faults (f : Fetch) (linked : Option Descriptor) (resps : List BusResp) (bytes : List Byte) (reason : Reason) : Prop :=
  (burstErrs resps ∧ reason = .fetchError)
    ∨ (burstSucceeds resps ∧ readDescriptor f.addr bytes = none ∧ reason = .badDescriptor)
    ∨ (burstSucceeds resps ∧ (∃ target, readDescriptor f.addr bytes = some (.jump target)) ∧ f.run = 4 ∧ reason = .jumpLoop)
    ∨ (burstSucceeds resps ∧ f.cls = .link ∧ reason = .directionChange ∧
        ∃ d e, readDescriptor f.addr bytes = some (.transfer e) ∧ linked = some d ∧ d.flags.linkData = true ∧ e.dir ≠ d.dir)

/-- Lane `n` waits in L_LINK_FETCH for the fetch `f` of slot `k`, which follows the descriptor `d` (R113). -/
def linking (s : State) (n : LaneId) (k : Slot) (f : Fetch) (d : Descriptor) : Prop :=
  descriptorRead s f ∧ f.cls = .link ∧ f.slot = k ∧ serving s n k ∧ s.blocks.laneOf k = n
    ∧ (s.blocks.lane n).state = .linkFetch ∧ (s.blocks.lane n).desc = some d ∧ (s.blocks.ctx k).desc = some d
    ∧ (s.blocks.ctx k).state = .connected

/-- The checks of TABLE 19 that a TRANSFER read at `at_` passes beside those of its kind, spare and upper address bytes. -/
def validTransfer (at_ : Addr48) (dir flags : Byte) (count addr : Nat) : Prop :=
  dir.toNat ≤ 2 ∧ flags.toNat < 32 ∧ (dir = 0 → count = 0 ∧ addr = 0) ∧ (dir ≠ 0 → count ≠ 0 ∧ addr + count ≤ 2 ^ 48)
    ∧ ¬(flags.getLsbD 0 = true ∧ flags.getLsbD 1 = true) ∧ (flags.getLsbD 0 = true → dir ≠ 0)
    ∧ (flags.getLsbD 4 = true → dir = 2)
    ∧ (flags.getLsbD 0 = true ∨ flags.getLsbD 1 = true → at_.toNat ≠ 2 ^ 48 - 16)

/-- The number of six little-endian bytes. -/
def le6 (a0 a1 a2 a3 a4 a5 : Byte) : Nat :=
  a0.toNat + 2 ^ 8 * a1.toNat + 2 ^ 16 * a2.toNat + 2 ^ 24 * a3.toNat + 2 ^ 32 * a4.toNat + 2 ^ 40 * a5.toNat

/-- The record with a status byte as its last unit status, MORE adding UNIT_MORE (R17). -/
def recorded (c : Context) (status : Byte) : Context :=
  { c with lastStatus := some status, flags := { c.flags with unitMore := c.flags.unitMore || status.getLsbD 4 } }

/-- The record with DEFERRED_ATTENTION among its flags and those of a pending final report (R20, R159). -/
def deferredCtx (c : Context) : Context :=
  { c with
    flags := { c.flags with deferredAttention := true }
    final := c.final.map fun rep => { rep with flags := { rep.flags with deferredAttention := true } } }

/-- The record after an accepted HALT of a CONNECTED context (R25). -/
def haltingCtx (c : Context) : Context :=
  { c with state := .halting, haltCause := some .requested, flags := { c.flags with haltRequested := true } }

/-- The lane once the frame it was assembling has been taken or discarded: it listens, and a frame that waited goes out
(R75; log 9). -/
def heard (l : Lane) : Lane :=
  match l.tx, l.txQueue with
  | none, f :: rest => { l with rx := .listening, tx := some ⟨f, l.rate⟩, txQueue := rest }
  | none, [] | some _, _ => { l with rx := .listening }

/-- The address of a unit's frame. -/
def frameAddr : UnitFrame → UnitAddr
  | .echo a | .wait a => a
  | .acpt a _ | .need a _ | .endFrame a _ => a
  | .din a _ _ | .attn a _ _ => a

/-- The record of slot `k` after a frame of a connection: the status byte of an ACPT or END from its unit is recorded (R17;
log 36). -/
def afterStatus (c : Context) (u : UnitAddr) : UnitFrame → Context
  | .acpt a status | .endFrame a status => if a = u then recorded c status else c
  | .echo _ | .din _ _ _ | .need _ _ | .wait _ | .attn _ _ _ => c

/-- The frame is stray in this state of the lane (R82). -/
def strayIn : LaneState → UnitFrame → Prop
  | .idle, _ | .fault, _ => True
  | .polling, f => ∀ a reason status, f ≠ .attn a reason status
  | .selecting, f => ∀ a, f ≠ .echo a
  | .disabled, _ | .permitWait, _ | .commanding, _ | .transfer, _ | .linkFetch, _ | .ending, _ | .aborting, _ => False

/-- The frame is one the lane takes without link error from the served unit, the live descriptor `d` (TABLE 38). -/
def expected (l : Lane) (d : Descriptor) : UnitFrame → Prop
  | .acpt _ _ => l.state = .commanding
  | .need _ _ =>
    (l.state = .transfer ∧ (d.dir = .outbound → l.doutOwed = 0) ∧ (d.dir = .inbound → l.credit = []))
      ∨ (l.state = .linkFetch ∧ d.flags.linkData = true) ∨ (l.state = .ending ∧ l.closing = none)
  | .wait _ | .endFrame _ _ =>
    l.state = .transfer ∨ (l.state = .linkFetch ∧ d.flags.linkData = true) ∨ (l.state = .ending ∧ l.closing = none)
  | .din _ toggle bytes =>
    (l.state = .transfer ∧ d.dir = .inbound ∧ toggle = l.inToggle ∧ ∃ c ∈ l.credit.head?, bytes.length ≤ c)
      ∨ (toggle ≠ l.inToggle ∧ l.lastIn = some bytes
          ∧ ((l.state = .transfer ∧ d.dir = .inbound) ∨ (l.state = .linkFetch ∧ d.flags.linkData = true)))
  | .echo _ | .attn _ _ _ => False

/-- Lane `n` sends ABORT to the unit of slot `k` and enters L_ABORTING with this cause: credit, owed DOUTs, a held NEED, the
timer and a place in the permit queue are given up (R120, R168). -/
def aborts (s t : State) (n : LaneId) (k : Slot) (cause : AbortCause) : Prop :=
  (t.blocks.lane n).state = .aborting ∧ (t.blocks.lane n).abortCause = some cause
    ∧ (t.blocks.lane n).abortPhase = .awaiting ∧ sends s t n (.abort (s.blocks.unitOf k))
    ∧ (t.blocks.lane n).credit = [] ∧ (t.blocks.lane n).doutOwed = 0 ∧ (t.blocks.lane n).heldNeed = none
    ∧ (t.blocks.lane n).timer = none ∧ n ∉ t.blocks.window.permits
    ∧ t.blocks.window.ledger = s.blocks.window.ledger ∧ serving t n k ∧ otherLanes s t n

/-- Slot `k` has given up its claim on the fetcher (R73, R138): its entries leave the queue; a fetch of another slot goes on;
its own is marked for discard when its read is granted, and ends when that still waits, the lane-grant counter 0 and the next
entry taken up at once. -/
def claimWithdrawn (s t : State) (k : Slot) : Prop :=
  ∀ (f : Fetch) (q : List FetchEntry), s.blocks.fetch = some f → q = s.blocks.fetchQ.filter (fun e => e.slot != k) →
    (f.slot ≠ k → t.blocks.fetch = some f ∧ t.blocks.fetchQ = q ∧ t.blocks.mem = s.blocks.mem)
    ∧ (f.slot = k → s.blocks.mem.fetchReq = none →
        t.blocks.fetch = some { f with discard := true } ∧ t.blocks.fetchQ = q ∧ t.blocks.mem = s.blocks.mem)
    ∧ (f.slot = k → s.blocks.mem.fetchReq ≠ none →
        (q = [] → t.blocks.fetch = none ∧ t.blocks.fetchQ = []
          ∧ t.blocks.mem = { s.blocks.mem with fetchReq := none, grants := 0 })
        ∧ ∀ (e : FetchEntry) (more : List FetchEntry) (addr : Addr48), q = e :: more → s.blocks.mem.inflight ≠ none →
            addr = (s.blocks.ctx e.slot).chainAddr + (if e.cls = .link then 16 else 0) →
            t.blocks.fetch = some ⟨e.slot, e.cls, addr, 0, false⟩ ∧ t.blocks.fetchQ = more
              ∧ t.blocks.mem = { s.blocks.mem with fetchReq := some ⟨.descriptor, addr.toNat, 16⟩, grants := 0 })

/-- Lane `n` serves slot `k`, whose halt has been requested and not acted on (R166). -/
def haltNoticed (s : State) (n : LaneId) (k : Slot) : Prop :=
  serving s n k ∧ s.blocks.laneOf k = n ∧ (s.blocks.ctx k).state = .halting
    ∧ (s.blocks.ctx k).haltCause = some .requested ∧ (s.blocks.lane n).haltNotice = true

/-- Lane `n`, alone in the permit queue, has been granted: it leaves the queue, a record of age 0 joins the ledger, and the
CMD of `d` goes out with both toggles 0 (R104, R131). -/
def granted (s t : State) (n : LaneId) (d : Descriptor) : Prop :=
  t.blocks.window.permits = [] ∧ t.blocks.window.asked = false
    ∧ t.blocks.window.ledger = s.blocks.window.ledger ++ [⟨s.blocks.timebase.count, 0⟩]
    ∧ (t.blocks.lane n).state = .commanding ∧ (t.blocks.lane n).outToggle = false
    ∧ (t.blocks.lane n).inToggle = false ∧ (t.blocks.lane n).lastIn = none
    ∧ sends s t n (.cmd (s.blocks.servedUnit n) d.code d.dir (if d.dir = .noData then 0 else d.count)) ∧ otherLanes s t n

/-- The next command that waits may take lane `n` out of L_PERMIT_WAIT: a HALT or a RESET_LANE of the lane, or a frame begun or
taken on it (R132). -/
def withdrawalNext (s : State) (n : LaneId) : Prop :=
  ∃ c rest, s.pending = c :: rest ∧
    (((c = .haltUnit ∨ c = .resetLane) ∧ ∃ r more, s.port.reqs = r :: more ∧ r.lane = n) ∨ c = .frameFirstStartBit n
      ∨ ∃ f : UnitFrame, c = f.command n)

/-- The bits of INTS (R50, TABLE 57): RESPONSE, ATTENTION, the LANE_FAULT marks, OVERFLOW. -/
def causeActive (s : State) (k : Nat) : Prop :=
  (k = 0 ∧ s.port.resps ≠ []) ∨ (k = 1 ∧ s.blocks.reports.queue ≠ [])
    ∨ (∃ n : LaneId, k = 4 + n.val ∧ s.blocks.laneFault.get n = true) ∨ (k = 8 ∧ s.port.overflow = true)

end Sys2Proof.Claims

open Sys2Proof Sys2Proof.Machine Sys2Proof.Claims

/-! ### The machine -/

/-- A step carries out the front command on the state with the rest of the queue. On an empty queue it takes the grant decision
that a joining has left owed, and else nothing changes, which is the model's choice (logs 2 and 38). -/
def Obligations.StepRunsFrontCommand : Prop :=
  (∀ (c : Instr) (s : State), step { s with pending := c :: s.pending } = exec c s)
    ∧ ∀ s : State, s.pending = [] →
        (s.blocks.window.asked = false → step s = .next s)
        ∧ (s.blocks.window.asked = true → ∃ t, step s = .next t ∧ t.blocks.window.asked = false ∧ t.pending = []
            ∧ t.port = s.port ∧ t.blocks.ctxs = s.blocks.ctxs)

/-- Every command completes, and leaves the queue of commands to the step. -/
def Obligations.EveryCommandCompletesAndKeepsTheQueue : Prop :=
  ∀ (c : Instr) (s : State), ∃ t, exec c s = .next t ∧ t.pending = s.pending

/-! ### Resets and registers -/

/-- R29, TABLE 56. What the window reads after reset; and what the steps keep holds after reset: the bounds of the request
port and of the start window, half-duplex lanes, and the agreement of the records with the unit index and the report queue.
-/
def Obligations.TheWindowReadsAndTheInvariantsHoldAtReset : Prop :=
  State.reset.port.reqs = [] ∧ State.reset.port.resps = [] ∧ State.reset.interruptLine = false
    ∧ (∀ i : Fin 24, State.reset.readRegister (BitVec.ofNat 7 (4 * i.val)) =
        if i.val = 4 then 8 else if i.val = 18 then 0x100 else if i.val = 20 then 50 else 0)
    ∧ State.reset.port.sound ∧ State.reset.blocks.window.sound ∧ State.reset.blocks.halfDuplex
    ∧ State.reset.blocks.indexSound ∧ State.reset.blocks.reportsSound

/-- R53. Pin reset sets every block to its reset values, which are those a soft reset leaves once no transaction is in
flight; PSTAT shows READY and the revision 1, which nothing changes. (The level of an attention pin and the counter of the
free value are not of the blocks' reset values: logs 6 and 13.) -/
def Obligations.PinResetSetsEveryBlock : Prop :=
  (∀ s : State, ∃ t, exec .pinReset s = .next t ∧ t.port = Port.reset
      ∧ t.blocks.ctxs = Vector.replicate 40 Context.reset ∧ t.blocks.index = Vector.replicate 128 none
      ∧ t.blocks.fetchQ = [] ∧ t.blocks.fetch = none
      ∧ (∀ n, { t.blocks.lane n with atn := false } = Lane.reset)
      ∧ t.blocks.window = Window.reset ∧ t.blocks.mem = MemPort.reset ∧ t.blocks.reports = Reports.reset
      ∧ t.blocks.timebase = Timebase.reset ∧ t.blocks.laneFault = Vector.replicate 4 false
      ∧ t.readRegister 0x48 = 0x100)
    ∧ (∀ s : State, s.port.pstat = .resetting → s.blocks.mem.inflight = none →
        exec .softResetComplete s = exec .pinReset s)
    ∧ ∀ s : State, (s.readRegister 0x48).extractLsb' 8 8 = 1

/-- R32. A submission copies the staging words and the tag to the tail of the request FIFO, or is dropped with OVERFLOW
when the FIFO holds 8 entries; RQGO reads the free places. -/
def Obligations.SubmissionJoinsTheFifoOrIsDropped : Prop :=
  ∀ (s : State) (v : Word) (st : BitVec 4), writable s st →
    (s.port.reqs.length < 8 →
      exec (.rqgoSubmit v st) s =
        .next { s with
          port := { s.port with
            reqs := s.port.reqs ++ [⟨s.port.rqw.get 0, s.port.rqw.get 1, s.port.rqw.get 2, s.port.rqw.get 3,
              if st.getLsbD 0 then byteOf v 0 else 0⟩] } })
    ∧ (8 ≤ s.port.reqs.length → exec (.rqgoSubmit v st) s = .next { s with port := { s.port with overflow := true } })
    ∧ (s.port.reqs.length ≤ 8 → (s.readRegister 0x10).toNat = 8 - s.port.reqs.length)

/-- R31. The staging words are ordinary words; a submission copies them and leaves them as they are; no request the handler
takes reads or writes them. -/
def Obligations.StagingWordsAreTheSoftwaresOwn : Prop :=
  (∀ (s : State) (i : Fin 4) (v : Word), s.port.pstat = .ready →
      ∃ t, exec (.registerWrite (BitVec.ofNat 7 (4 * i.val)) v 15) s = .next t ∧ t.port.rqw.get i = v
        ∧ t.readRegister (BitVec.ofNat 7 (4 * i.val)) = v)
    ∧ (∀ (s : State) (v : Word) (st : BitVec 4), ∃ t, exec (.rqgoSubmit v st) s = .next t ∧ t.port.rqw = s.port.rqw
        ∧ (writable s st → s.port.reqs.length < 8 →
            ∃ e, t.port.reqs = s.port.reqs ++ [e] ∧ e.w0 = s.port.rqw.get 0 ∧ e.w1 = s.port.rqw.get 1
              ∧ e.w2 = s.port.rqw.get 2 ∧ e.w3 = s.port.rqw.get 3))
    ∧ ∀ (c : Instr) (code : ReqCode) (s t : State) (words : Vector Word 4), handlerCode c = some code →
        exec c s = .next t →
        exec c { s with port := { s.port with rqw := words } } = .next { t with port := { t.port with rqw := words } }

/-- R34, R181. RSW0 to RSW3 show the head response, or 0; a write to RSNEXT removes the head and nothing else. -/
def Obligations.ResponseWordsShowTheHeadAndPopRemovesIt : Prop :=
  (∀ s : State, s.port.pstat = .ready → s.port.resps = [] →
      s.readRegister 0x18 = 0 ∧ s.readRegister 0x1C = 0 ∧ s.readRegister 0x20 = 0 ∧ s.readRegister 0x24 = 0)
    ∧ (∀ (s : State) (e : Response) (rest : List Response), s.port.pstat = .ready → s.port.resps = e :: rest →
        (s.readRegister 0x18).toNat = e.tag.toNat + 256 * e.result.code + 2 ^ 31
          ∧ s.readRegister 0x1C = e.d1 ∧ s.readRegister 0x20 = e.d2 ∧ s.readRegister 0x24 = e.d3)
    ∧ ∀ (s : State) (v : Word) (st : BitVec 4), writable s st →
        exec (.rsnextPop v st) s = .next { s with port := { s.port with resps := s.port.resps.tail } }

/-- R50, R51, R54, R162, TABLE 57. INTS reads the active causes: RESPONSE while the response FIFO holds an entry, ATTENTION
while the report queue does, the LANE_FAULT marks in bits 7:4, OVERFLOW; INTE reads its enables and TBDIV the divider. A
write to INTS clears the sticky causes whose strobed bit is 1 and changes nothing else; a write to INTE stores the seven
enables of the strobed bytes; the line is asserted exactly while a cause is active and enabled. -/
def Obligations.InterruptRegistersClearAndEnable : Prop :=
  (∀ (s : State) (v : Word) (st : BitVec 4), writable s st →
      ∃ t, exec (.intsWrite v st) s = .next t
        ∧ t.port = { s.port with overflow := s.port.overflow && !(st.getLsbD 1 && v.getLsbD 8) }
        ∧ (∀ n : LaneId, t.blocks.laneFault.get n =
            (s.blocks.laneFault.get n && !(st.getLsbD 0 && v.getLsbD (4 + n.val))))
        ∧ { t.blocks with laneFault := s.blocks.laneFault } = s.blocks ∧ t.pending = s.pending)
    ∧ (∀ (s : State) (v : Word) (st : BitVec 4), writable s st →
      ∃ w, exec (.inteWrite v st) s = .next { s with port := { s.port with inte := w } }
        ∧ ∀ k, k < 4 → byteOf w k = strobedByte s.port.inte v st k &&& byteOf 0x1F3 k)
    ∧ ∀ s : State, s.port.pstat = .ready →
        (∀ k, (s.readRegister 0x40).getLsbD k = true ↔ causeActive s k)
          ∧ s.readRegister 0x44 = s.port.inte ∧ (s.readRegister 0x50).toNat = s.port.tbdiv.toNat
          ∧ (s.interruptLine = true ↔ ∃ k, causeActive s k ∧ s.port.inte.getLsbD k = true)

/-- R52, R146. A write to PRST begins a soft reset: PSTAT shows RESETTING and every other register reads 0, the line is
deasserted, both FIFOs are empty, no lane sends, no request waits at the memory port, and a transaction in flight is
marked for discard. It completes when the memory port has no transaction in flight, and not before. (That the values are
taken at the write is the model's reading, log 7.) -/
def Obligations.PrstBeginsASoftResetThatCompletesWhenThePortIsQuiet : Prop :=
  (∀ (s : State) (v : Word) (st : BitVec 4), writable s st →
      ∃ t, exec (.prstWrite v st) s = .next t ∧ t.port.pstat = .resetting ∧ t.readRegister 0x48 = 0x101
        ∧ (∀ o : BitVec 7, o.toNat / 4 ≠ 18 → t.readRegister o = 0) ∧ t.interruptLine = false
        ∧ t.port.reqs = [] ∧ t.port.resps = [] ∧ (∀ n, (t.blocks.lane n).tx = none ∧ (t.blocks.lane n).brk = none)
        ∧ t.blocks.mem.fetchReq = none ∧ (∀ n, t.blocks.mem.laneReq n = none)
        ∧ t.blocks.mem.inflight = s.blocks.mem.inflight.map (fun x => { x with discard := true })
        ∧ t.pending = s.pending)
    ∧ (∀ s : State, s.port.pstat = .resetting →
        (∀ x, s.blocks.mem.inflight = some x → exec .softResetComplete s = .next s)
        ∧ (s.blocks.mem.inflight = none → ∃ t, exec .softResetComplete s = .next t ∧ t.port = Port.reset
            ∧ (∀ k : Slot, t.blocks.ctx k = Context.reset) ∧ (∀ n, { t.blocks.lane n with atn := false } = Lane.reset)
            ∧ t.blocks.mem = MemPort.reset ∧ t.readRegister 0x48 = 0x100))

/-- R30, R52, R54, TABLE 57. A write to a staging word stores the strobed bytes; a write to a read-only register or an
unused offset is ignored; a write at the offset of RQGO, RSNEXT, INTS, INTE, PRST or TBDIV is that register's own write; one
to TBDIV of 1 to 255 stores the divider, one of 0 or with the strobe of byte 0 clear leaves it; a write with no strobe set,
and every write while PSTAT shows RESETTING, is ignored. -/
def Obligations.RegisterWritesFollowTheStrobes : Prop :=
  ((∀ (s : State) (i : Fin 4) (v : Word) (st : BitVec 4), writable s st →
        ∃ w, exec (.registerWrite (BitVec.ofNat 7 (4 * i.val)) v st) s =
            .next { s with port := { s.port with rqw := s.port.rqw.set i.val w i.isLt } }
          ∧ ∀ k, k < 4 → byteOf w k = strobedByte (s.port.rqw.get i) v st k)
      ∧ ∀ (s : State) (i : Nat) (v : Word) (st : BitVec 4), (6 ≤ i ∧ i ≤ 15) ∨ i = 18 ∨ (21 ≤ i ∧ i ≤ 23) →
          exec (.registerWrite (BitVec.ofNat 7 (4 * i)) v st) s = .next s)
    ∧ (∀ (s : State) (v : Word) (st : BitVec 4),
        exec (.registerWrite 0x10 v st) s = exec (.rqgoSubmit v st) s
          ∧ exec (.registerWrite 0x14 v st) s = exec (.rsnextPop v st) s
          ∧ exec (.registerWrite 0x40 v st) s = exec (.intsWrite v st) s
          ∧ exec (.registerWrite 0x44 v st) s = exec (.inteWrite v st) s
          ∧ exec (.registerWrite 0x4C v st) s = exec (.prstWrite v st) s
          ∧ exec (.registerWrite 0x50 v st) s = exec (.tbdivWrite v st) s)
    ∧ (∀ (s : State) (v : Word) (st : BitVec 4), writable s st →
        exec (.tbdivWrite v st) s =
          .next (if st.getLsbD 0 = true ∧ byteOf v 0 ≠ 0 then { s with port := { s.port with tbdiv := byteOf v 0 } }
            else s))
    ∧ (∀ (s : State) (v : Word) (st : BitVec 4) (o : BitVec 7), s.port.pstat = .resetting ∨ st = 0 →
        exec (.rqgoSubmit v st) s = .next s ∧ exec (.rsnextPop v st) s = .next s ∧ exec (.intsWrite v st) s = .next s
          ∧ exec (.inteWrite v st) s = .next s ∧ exec (.prstWrite v st) s = .next s ∧ exec (.tbdivWrite v st) s = .next s
          ∧ exec (.registerWrite o v st) s = .next s)

/-! ### The request handler -/

/-- R33. A request that is taken leaves the request FIFO, produces exactly one response with its tag, and changes nothing
else of the request port; while the request FIFO is empty, the response FIFO is full, or PSTAT shows RESETTING, none is
taken. -/
def Obligations.TheHandlerTakesOneRequestUnderItsThreeConditions : Prop :=
  (∀ (c : Instr) (code : ReqCode) (s : State) (r : Request) (rest : List Request), handlerCode c = some code →
      atHead s r rest code →
      ∃ t result d1 d2 d3, exec c s = .next t ∧ answered s t r rest result d1 d2 d3 ∧ t.pending = s.pending)
    ∧ (∀ (c : Instr) (code : ReqCode) (s : State), handlerCode c = some code →
        s.port.reqs = [] ∨ 8 ≤ s.port.resps.length ∨ s.port.pstat = .resetting → exec c s = .next s)

/-- R35, TABLE 58, TABLE 59. A code that names none of the ten requests, a field out of the range TABLE 59 gives it, and a
bit set that the request does not use are answered with BAD_REQUEST and no data, and change nothing; every other request
passes the range checks. -/
def Obligations.BadRequestsChangeNothing : Prop :=
  (∀ (c : Instr) (code : ReqCode) (s : State) (r : Request) (rest : List Request), handlerCode c = some code →
      atHead s r rest code → ¬fieldsInRange r →
      ∃ t, exec c s = .next t ∧ answered s t r rest .badRequest 0 0 0 ∧ t.blocks = s.blocks ∧ t.pending = s.pending)
    ∧ (∀ r : Request, r.inRange = true ↔ fieldsInRange r)
    ∧ ∀ r : Request, r.code = .unknown ↔ r.w0.toNat % 256 = 0 ∨ 10 < r.w0.toNat % 256

/-- R5, R37, R101. An accepted OPEN binds the unit to the lowest FREE slot in IDLE, takes the unit, and no other, out of the
deferred-attention set and says whether it stood there. -/
def Obligations.OpenBindsTheLowestFreeSlot : Prop :=
  ∀ (s : State) (r : Request) (rest : List Request) (k : Slot), taken s r rest .openUnit →
    s.blocks.lookup r.lane r.unit = none → (s.blocks.ctx k).state = .free →
    (∀ j : Slot, j < k → (s.blocks.ctx j).state ≠ .free) →
    ∃ t, exec .openUnit s = .next t
      ∧ answered s t r rest .accepted
          (BitVec.ofNat 32 (k.val + if (s.blocks.lane r.lane).deferred.getLsbD r.unit.val then 256 else 0)) 0 0
      ∧ t.blocks.ctx k = { Context.reset with
          state := .idle
          binding := some ⟨r.lane, r.unit, r.w1, r.w2.toNat % 65536, r.w2.toNat / 65536 % 16⟩ }
      ∧ otherCtxs s t k ∧ t.blocks.lookup r.lane r.unit = some k
      ∧ (∀ n u, ¬(n = r.lane ∧ u = r.unit) → t.blocks.lookup n u = s.blocks.lookup n u)
      ∧ (∀ u : UnitAddr, (t.blocks.lane r.lane).deferred.getLsbD u.val =
          if u = r.unit then false else (s.blocks.lane r.lane).deferred.getLsbD u.val)
      ∧ { t.blocks.lane r.lane with deferred := (s.blocks.lane r.lane).deferred } = s.blocks.lane r.lane
      ∧ otherLanes s t r.lane

/-- R37, R39, R40. OPEN, START and HALT are refused in the orders R37, R39 and R40 give: each refusal has its result and
data and changes no block. -/
def Obligations.RefusalsOfOpenStartAndHalt : Prop :=
  (∀ (s : State) (r : Request) (rest : List Request), taken s r rest .openUnit →
      (∀ k, s.blocks.lookup r.lane r.unit = some k →
        ∃ t, exec .openUnit s = .next t ∧ answered s t r rest .alreadyOpen (BitVec.ofNat 32 k.val) 0 0
          ∧ t.blocks = s.blocks)
      ∧ (s.blocks.lookup r.lane r.unit = none → (∀ k : Slot, (s.blocks.ctx k).state ≠ .free) →
        ∃ t, exec .openUnit s = .next t ∧ answered s t r rest .tableFull 0 0 0 ∧ t.blocks = s.blocks))
    ∧ (∀ (s : State) (r : Request) (rest : List Request), taken s r rest .startChain →
        (s.blocks.lookup r.lane r.unit = none →
          ∃ t, exec .startChain s = .next t ∧ answered s t r rest .notOpen 0 0 0 ∧ t.blocks = s.blocks)
        ∧ ∀ k, s.blocks.lookup r.lane r.unit = some k →
          ((s.blocks.ctx k).state = .reported →
            ∃ t, exec .startChain s = .next t ∧ answered s t r rest .reportPending 0 0 0 ∧ t.blocks = s.blocks)
          ∧ ((s.blocks.ctx k).state.running = true →
            ∃ t, exec .startChain s = .next t
              ∧ answered s t r rest .busy (BitVec.ofNat 32 (s.blocks.ctx k).state.code) 0 0 ∧ t.blocks = s.blocks)
          ∧ ((s.blocks.ctx k).state = .idle →
              (s.blocks.lane r.lane).state = .disabled ∨ (s.blocks.lane r.lane).state = .fault →
            ∃ t, exec .startChain s = .next t
              ∧ answered s t r rest .laneUnavailable (BitVec.ofNat 32 (s.blocks.lane r.lane).state.code) 0 0
              ∧ t.blocks = s.blocks))
    ∧ (∀ (s : State) (r : Request) (rest : List Request), taken s r rest .haltUnit →
        (s.blocks.lookup r.lane r.unit = none →
          ∃ t, exec .haltUnit s = .next t ∧ answered s t r rest .notOpen 0 0 0 ∧ t.blocks = s.blocks)
        ∧ ∀ k, s.blocks.lookup r.lane r.unit = some k →
          ((s.blocks.ctx k).state = .idle ∨ (s.blocks.ctx k).state = .reported →
            ∃ t, exec .haltUnit s = .next t
              ∧ answered s t r rest .nothingToHalt (BitVec.ofNat 32 (17 * (s.blocks.ctx k).state.code)) 0 0
              ∧ t.blocks = s.blocks)
          ∧ ((s.blocks.ctx k).state = .halting ∨
                ((s.blocks.ctx k).state = .loading ∧ (s.blocks.ctx k).haltCause ≠ none) →
            ∃ t, exec .haltUnit s = .next t
              ∧ answered s t r rest .alreadyHalting (BitVec.ofNat 32 (17 * (s.blocks.ctx k).state.code)) 0 0
              ∧ t.blocks = s.blocks))

/-- R6, R38. CLOSE of an IDLE context frees the slot and unbinds the entry; it is refused in the order of R38 otherwise. -/
def Obligations.CloseFreesAnIdleSlotAndIsRefusedOtherwise : Prop :=
  ∀ (s : State) (r : Request) (rest : List Request), taken s r rest .closeUnit →
    (s.blocks.lookup r.lane r.unit = none →
      ∃ t, exec .closeUnit s = .next t ∧ answered s t r rest .notOpen 0 0 0 ∧ t.blocks = s.blocks)
    ∧ ∀ k, s.blocks.lookup r.lane r.unit = some k →
      ((s.blocks.ctx k).state = .idle →
        ∃ t, exec .closeUnit s = .next t ∧ answered s t r rest .accepted (BitVec.ofNat 32 k.val) 0 0
          ∧ t.blocks.ctx k = Context.reset ∧ otherCtxs s t k ∧ t.blocks.lookup r.lane r.unit = none
          ∧ (∀ n u, ¬(n = r.lane ∧ u = r.unit) → t.blocks.lookup n u = s.blocks.lookup n u)
          ∧ t.blocks.lanes = s.blocks.lanes)
      ∧ ((s.blocks.ctx k).state = .reported →
        ∃ t, exec .closeUnit s = .next t ∧ answered s t r rest .reportPending 0 0 0 ∧ t.blocks = s.blocks)
      ∧ ((s.blocks.ctx k).state.running = true →
        ∃ t, exec .closeUnit s = .next t
          ∧ answered s t r rest .busy (BitVec.ofNat 32 (s.blocks.ctx k).state.code) 0 0 ∧ t.blocks = s.blocks)

/-- R9, R39, R67. An accepted START moves the context to LOADING with the START address; its slot waits at the tail of the
fetch queue, or is fetched at once by an idle fetcher. -/
def Obligations.StartLoadsTheContext : Prop :=
  ∀ (s : State) (r : Request) (rest : List Request) (k : Slot), taken s r rest .startChain →
    s.blocks.lookup r.lane r.unit = some k → (s.blocks.ctx k).state = .idle →
    (s.blocks.lane r.lane).state ≠ .disabled → (s.blocks.lane r.lane).state ≠ .fault →
    ∃ t, exec .startChain s = .next t ∧ answered s t r rest .accepted (BitVec.ofNat 32 k.val) 0 0
      ∧ t.blocks.ctx k = { s.blocks.ctx k with
          state := .loading, flags := .empty, lastStatus := none, haltCause := none
          chainAddr := BitVec.ofNat 48 (r.w1.toNat + 2 ^ 32 * (r.w2.toNat % 65536)) }
      ∧ otherCtxs s t k ∧ t.blocks.index = s.blocks.index ∧ t.blocks.lanes = s.blocks.lanes
      ∧ (∀ f, s.blocks.fetch = some f →
          t.blocks.fetch = some f ∧ t.blocks.fetchQ = s.blocks.fetchQ ++ [⟨k, .start⟩])
      ∧ (s.blocks.fetch = none → s.blocks.fetchQ = [] →
          t.blocks.fetch = some ⟨k, .start, (t.blocks.ctx k).chainAddr, 0, false⟩ ∧ t.blocks.fetchQ = [])

/-- R23, R24, R26, R40, R72, R98. HALT of a LOADING context: its queued START entry is removed and it ends with HALTED in
the same event; when its fetch is in flight it stays LOADING with halt cause REQUESTED. HALT of a READY context: it leaves
the ready queue and ends with HALTED in the same event, whether or not the lane is selecting it. HALT of a DETACHED context:
HALTING, without timer and awaiting, at the tail of its lane's halt list. -/
def Obligations.HaltOfAContextThatIsNotConnected : Prop :=
  (∀ (s : State) (r : Request) (rest : List Request) (k : Slot), taken s r rest .haltUnit →
      s.blocks.lookup r.lane r.unit = some k → (s.blocks.ctx k).state = .loading → (s.blocks.ctx k).haltCause = none →
      (⟨k, .start⟩ ∈ s.blocks.fetchQ → (∀ f, s.blocks.fetch = some f → f.slot ≠ k) →
        ∃ t, exec .haltUnit s = .next t ∧ answered s t r rest .accepted 0x72 0 0 ∧ elsewhere s t ∧ reportedAs t k .halted
          ∧ (t.blocks.ctx k).flags.haltRequested = true ∧ (∀ e ∈ t.blocks.fetchQ, e.slot ≠ k) ∧ otherCtxs s t k)
      ∧ ((∀ e ∈ s.blocks.fetchQ, e.slot ≠ k) →
        ∃ t, exec .haltUnit s = .next t ∧ answered s t r rest .accepted 0x22 0 0 ∧ elsewhere s t
          ∧ t.blocks.ctx k = { s.blocks.ctx k with
              haltCause := some .requested, flags := { (s.blocks.ctx k).flags with haltRequested := true } }
          ∧ otherCtxs s t k ∧ t.blocks.lanes = s.blocks.lanes ∧ t.blocks.fetch = s.blocks.fetch))
    ∧ (∀ (s : State) (r : Request) (rest : List Request) (k : Slot), taken s r rest .haltUnit →
        s.blocks.lookup r.lane r.unit = some k → (s.blocks.ctx k).state = .ready → s.blocks.laneOf k = r.lane →
        ∃ t, exec .haltUnit s = .next t ∧ answered s t r rest .accepted 0x73 0 0 ∧ elsewhere s t ∧ reportedAs t k .halted
          ∧ (t.blocks.ctx k).flags.haltRequested = true ∧ k ∉ (t.blocks.lane r.lane).readyQ ∧ otherCtxs s t k
          ∧ otherLanes s t r.lane)
    ∧ (∀ (s : State) (r : Request) (rest : List Request) (k : Slot), taken s r rest .haltUnit →
        s.blocks.lookup r.lane r.unit = some k → (s.blocks.ctx k).state = .detached → s.blocks.laneOf k = r.lane →
        ∃ t, exec .haltUnit s = .next t ∧ answered s t r rest .accepted 0x65 0 0 ∧ elsewhere s t
          ∧ t.blocks.ctx k = { s.blocks.ctx k with
              state := .halting, haltCause := some .requested, awaiting := none, timer := none
              flags := { (s.blocks.ctx k).flags with haltRequested := true } }
          ∧ (t.blocks.lane r.lane).haltList = (s.blocks.lane r.lane).haltList ++ [k]
          ∧ otherCtxs s t k ∧ otherLanes s t r.lane)

/-- R25, R40, R73, R132, R138, R167, R168, R170, R173. HALT of a context whose lane waits for a permit: DESEL, REPORTED with
HALTED, the lane out of the permit queue, no record added. HALT of one whose lane waits for a link-command fetch: DESEL,
HALTED, and the claim on the fetcher withdrawn, whether its entry is queued, its read waits or is granted. HALT at the
lane's turn, in L_TRANSFER with the timer stopped or in L_LINK_FETCH after link-data, with no frame sent or received: ABORT
with cause HALT, the claim withdrawn, a staging write asked for kept, a staging read withdrawn or marked, every other staged
byte dropped. HALT in L_COMMANDING, in L_TRANSFER at the unit's turn, in L_ENDING awaiting END, and at the lane's turn while
a frame is sent or received: the halt notice is set and nothing is sent. HALT in L_ENDING or L_ABORTING with memory work
outstanding, and in L_ABORTING awaiting END: the notice is set and the ending runs on. (That the response names HALTING also
where the halt ends in the same event, that L_TRANSFER after the link-data delivery of an OUT command is the lane's turn
with no DOUT owed, and that a detach pending in L_LINK_FETCH gives way to the ABORT at once, are the model's readings, logs
35, 15 and 32.) -/
def Obligations.HaltOfAConnectedContext : Prop :=
  (∀ (s : State) (r : Request) (rest : List Request) (k : Slot), taken s r rest .haltUnit →
      s.blocks.lookup r.lane r.unit = some k → (s.blocks.ctx k).state = .connected → s.blocks.laneOf k = r.lane →
      serving s r.lane k → (s.blocks.lane r.lane).state = .permitWait →
      ∃ t, exec .haltUnit s = .next t ∧ answered s t r rest .accepted 0x64 0 0 ∧ reportedAs t k .halted
        ∧ sendsFirst s t r.lane (.desel (s.blocks.unitOf k)) ∧ r.lane ∉ t.blocks.window.permits
        ∧ t.blocks.window.ledger = s.blocks.window.ledger ∧ otherCtxs s t k ∧ otherLanes s t r.lane)
    ∧ (∀ (s : State) (r : Request) (rest : List Request) (k : Slot), taken s r rest .haltUnit →
        s.blocks.lookup r.lane r.unit = some k → (s.blocks.ctx k).state = .connected → s.blocks.laneOf k = r.lane →
        (s.blocks.lane r.lane).state = .commanding →
        ∃ t, exec .haltUnit s = .next t ∧ answered s t r rest .accepted 0x64 0 0 ∧ elsewhere s t
          ∧ t.blocks.lane r.lane = { s.blocks.lane r.lane with haltNotice := true }
          ∧ t.blocks.ctx k = { s.blocks.ctx k with
              state := .halting, haltCause := some .requested
              flags := { (s.blocks.ctx k).flags with haltRequested := true } }
          ∧ otherCtxs s t k ∧ otherLanes s t r.lane)
    ∧ (∀ (s : State) (r : Request) (rest : List Request) (k : Slot) (d : Descriptor), taken s r rest .haltUnit →
        s.blocks.lookup r.lane r.unit = some k → (s.blocks.ctx k).state = .connected → s.blocks.laneOf k = r.lane →
        serving s r.lane k → (s.blocks.lane r.lane).state = .linkFetch → (s.blocks.lane r.lane).desc = some d →
        d.flags.linkData = false →
        ∃ t, exec .haltUnit s = .next t ∧ answered s t r rest .accepted 0x64 0 0 ∧ elsewhere s t ∧ reportedAs t k .halted
          ∧ (t.blocks.ctx k).flags.haltRequested = true ∧ (t.blocks.ctx k).residual = (s.blocks.lane r.lane).residual
          ∧ sendsFirst s t r.lane (.desel (s.blocks.unitOf k)) ∧ claimWithdrawn s t k ∧ otherCtxs s t k
          ∧ otherLanes s t r.lane)
    ∧ (∀ (s : State) (r : Request) (rest : List Request) (k : Slot) (d : Descriptor), taken s r rest .haltUnit →
        s.blocks.lookup r.lane r.unit = some k → (s.blocks.ctx k).state = .connected → s.blocks.laneOf k = r.lane →
        serving s r.lane k → (s.blocks.lane r.lane).desc = some d → (s.blocks.lane r.lane).tx = none →
        (s.blocks.lane r.lane).rx.isAssembling = false →
        ((s.blocks.lane r.lane).state = .transfer ∧ (s.blocks.lane r.lane).timer = none) ∨
          ((s.blocks.lane r.lane).state = .linkFetch ∧ d.flags.linkData = true) →
        ∃ t, exec .haltUnit s = .next t ∧ answered s t r rest .accepted 0x64 0 0 ∧ aborts s t r.lane k .halt
          ∧ t.blocks.ctx k = haltingCtx (s.blocks.ctx k) ∧ otherCtxs s t k
          ∧ ((s.blocks.lane r.lane).memReq = none →
              claimWithdrawn s t k ∧ ∀ h, (t.blocks.lane r.lane).staging.get h = [])
          ∧ ∀ m, (s.blocks.lane r.lane).memReq = some m → m.discard = false →
              (m.write = true →
                (t.blocks.lane r.lane).memReq = some m
                  ∧ (t.blocks.lane r.lane).staging.get m.half = (s.blocks.lane r.lane).staging.get m.half
                  ∧ (t.blocks.lane r.lane).staging.get m.half.other = [])
              ∧ (m.write = false →
                (s.blocks.mem.laneReq r.lane = none →
                    (t.blocks.lane r.lane).memReq = some { m with discard := true })
                  ∧ (s.blocks.mem.laneReq r.lane ≠ none → s.blocks.mem.inflight ≠ none →
                    (t.blocks.lane r.lane).memReq = none)
                  ∧ ∀ h, (t.blocks.lane r.lane).staging.get h = []))
    ∧ (∀ (s : State) (r : Request) (rest : List Request) (k : Slot), taken s r rest .haltUnit →
        s.blocks.lookup r.lane r.unit = some k → (s.blocks.ctx k).state = .connected → s.blocks.laneOf k = r.lane →
        ((s.blocks.lane r.lane).state = .transfer ∧
            ((s.blocks.lane r.lane).timer ≠ none ∨ (s.blocks.lane r.lane).tx ≠ none ∨
              (s.blocks.lane r.lane).rx.isAssembling = true)) ∨
          ((s.blocks.lane r.lane).state = .linkFetch ∧
            (∀ d, (s.blocks.lane r.lane).desc = some d → d.flags.linkData = true) ∧ (s.blocks.lane r.lane).desc ≠ none ∧
            ((s.blocks.lane r.lane).tx ≠ none ∨ (s.blocks.lane r.lane).rx.isAssembling = true)) ∨
          ((s.blocks.lane r.lane).state = .ending ∧ (s.blocks.lane r.lane).closing = none) →
        ∃ t, exec .haltUnit s = .next t ∧ answered s t r rest .accepted 0x64 0 0 ∧ elsewhere s t
          ∧ (t.blocks.lane r.lane).haltNotice = true
          ∧ (t.blocks.lane r.lane).state = (s.blocks.lane r.lane).state
          ∧ (t.blocks.lane r.lane).closing = (s.blocks.lane r.lane).closing
          ∧ (t.blocks.lane r.lane).timer = (s.blocks.lane r.lane).timer
          ∧ (t.blocks.lane r.lane).tx = (s.blocks.lane r.lane).tx
          ∧ (t.blocks.lane r.lane).txQueue = (s.blocks.lane r.lane).txQueue
          ∧ t.blocks.fetch = s.blocks.fetch ∧ t.blocks.fetchQ = s.blocks.fetchQ
          ∧ t.blocks.ctx k = haltingCtx (s.blocks.ctx k) ∧ otherCtxs s t k ∧ otherLanes s t r.lane)
    ∧ (∀ (s : State) (r : Request) (rest : List Request) (k : Slot), taken s r rest .haltUnit →
        s.blocks.lookup r.lane r.unit = some k → (s.blocks.ctx k).state = .connected → s.blocks.laneOf k = r.lane →
        ((s.blocks.lane r.lane).state = .ending ∧ (s.blocks.lane r.lane).memReq ≠ none) ∨
          ((s.blocks.lane r.lane).state = .aborting ∧
            ((s.blocks.lane r.lane).abortPhase = .awaiting ∨ (s.blocks.lane r.lane).memReq ≠ none)) →
        ∃ t, exec .haltUnit s = .next t ∧ answered s t r rest .accepted 0x64 0 0 ∧ elsewhere s t
          ∧ t.blocks.lane r.lane = { s.blocks.lane r.lane with haltNotice := true }
          ∧ t.blocks.ctx k = haltingCtx (s.blocks.ctx k) ∧ otherCtxs s t k ∧ otherLanes s t r.lane)

/-- R42, R11. PROBE changes no block; it answers for a bound unit with its record and for an unbound one with the
deferred-attention mark. -/
def Obligations.ProbeReadsAndChangesNothing : Prop :=
  ∀ (s : State) (r : Request) (rest : List Request), taken s r rest .probeUnit →
    (s.blocks.lookup r.lane r.unit = none →
      ∃ t, exec .probeUnit s = .next t
        ∧ answered s t r rest .notOpen (if (s.blocks.lane r.lane).deferred.getLsbD r.unit.val then 1 else 0) 0 0
        ∧ t.blocks = s.blocks)
    ∧ ∀ k, s.blocks.lookup r.lane r.unit = some k → (s.blocks.ctx k).residual < 65536 →
      ∃ t d1, exec .probeUnit s = .next t ∧ t.blocks = s.blocks
        ∧ answered s t r rest .accepted d1
            (BitVec.ofNat 32 ((s.blocks.ctx k).residual + 65536 * ((s.blocks.ctx k).chainAddr.toNat / 2 ^ 32)))
            ((s.blocks.ctx k).chainAddr.setWidth 32)
        ∧ d1.toNat % 16 = (s.blocks.ctx k).state.code ∧ d1.toNat / 256 % 64 = k.val
        ∧ d1.toNat / 65536 % 4 = entryKindCode (s.blocks.entryOf k)
        ∧ d1.toNat / 2 ^ 24 = ((s.blocks.ctx k).lastStatus.getD 0).toNat
        ∧ (d1.getLsbD 18 = true ↔ (s.blocks.ctx k).lastStatus ≠ none)

/-- R10, R43, R163. COLLECT of the head's context removes the head: a FINAL entry returns the context to IDLE, a NOTE entry
clears the pending note. An unbound unit, an empty queue and another head refuse it. -/
def Obligations.CollectRemovesTheHead : Prop :=
  (∀ (s : State) (r : Request) (rest : List Request), taken s r rest .collectReport →
      s.blocks.lookup r.lane r.unit = none →
      ∃ t, exec .collectReport s = .next t ∧ answered s t r rest .notOpen 0 0 0 ∧ t.blocks = s.blocks)
    ∧ ∀ (s : State) (r : Request) (rest : List Request) (k : Slot), taken s r rest .collectReport →
    s.blocks.lookup r.lane r.unit = some k →
    (s.blocks.reports.queue = [] →
      ∃ t, exec .collectReport s = .next t ∧ answered s t r rest .nothingToCollect 0 0 0 ∧ t.blocks = s.blocks)
    ∧ ∀ e q, s.blocks.reports.queue = e :: q → q.length < 40 →
      (e.slot ≠ k →
        ∃ t, exec .collectReport s = .next t
          ∧ answered s t r rest .notHead (BitVec.ofNat 32 (e.slot.val + 256 * e.kind.code)) 0 0 ∧ t.blocks = s.blocks)
      ∧ (e.slot = k →
        ∃ t, exec .collectReport s = .next t
          ∧ answered s t r rest .accepted (BitVec.ofNat 32 (k.val + 256 * e.kind.code + 65536 * q.length)) 0 0
          ∧ t.blocks.reports.queue = q ∧ otherCtxs s t k ∧ t.blocks.lanes = s.blocks.lanes
          ∧ (e.kind = .note → t.blocks.ctx k = { s.blocks.ctx k with note := none })
          ∧ (e.kind = .final → t.blocks.ctx k = { s.blocks.ctx k with
              state := .idle, final := none, desc := none, haltCause := none, residual := 0, dataAddr := 0
              lengthCond := false, flags := .empty }))

/-- R44, R46, R95, R96. LANE: refused in L_FAULT; in L_DISABLED it stores the parameters, and an enable begins the BREAK in
L_IDLE; on an enabled lane an enable with unchanged parameters has no effect, any other is held back by running contexts,
and without them it stores the parameters, of a lane that is disabled too. -/
def Obligations.LaneActsByTheLaneState : Prop :=
  ∀ (s : State) (r : Request) (rest : List Request) (l : Lane) (same : Prop), taken s r rest .laneControl →
    l = s.blocks.lane r.lane → (same ↔ l.rate.val = r.w1.toNat / 16 % 16 ∧ l.limit = r.w2.toNat % 65536) →
    (l.state = .fault →
      ∃ t, exec .laneControl s = .next t ∧ answered s t r rest .laneUnavailable 0xAA 0 0 ∧ t.blocks = s.blocks)
    ∧ (l.state = .disabled → r.w1.getLsbD 0 = true →
      ∃ t, exec .laneControl s = .next t ∧ answered s t r rest .accepted 0x10 0 0 ∧ otherLanes s t r.lane
        ∧ (t.blocks.lane r.lane).state = .idle ∧ (t.blocks.lane r.lane).brk = some ⟨.space, 128⟩
        ∧ (t.blocks.lane r.lane).limit = r.w2.toNat % 65536 ∧ (t.blocks.lane r.lane).rate.val = r.w1.toNat / 16 % 16
        ∧ (t.blocks.lane r.lane).deferred = 0 ∧ (t.blocks.lane r.lane).emptyPolls = 0
        ∧ (t.blocks.lane r.lane).pollRun = 0 ∧ (t.blocks.lane r.lane).lineStuck = false
        ∧ (t.blocks.lane r.lane).strayFrame = l.strayFrame ∧ (t.blocks.lane r.lane).faultCause = l.faultCause)
    ∧ (l.state = .disabled → r.w1.getLsbD 0 = false →
      ∃ t, exec .laneControl s = .next t ∧ answered s t r rest .accepted 0x00 0 0 ∧ otherLanes s t r.lane
        ∧ t.blocks.lane r.lane = { l with
            rate := Fin.ofNat 4 (r.w1.toNat / 16 % 16), limit := r.w2.toNat % 65536 })
    ∧ (l.state ≠ .fault → l.state ≠ .disabled → r.w1.getLsbD 0 = true → same →
      ∃ t, exec .laneControl s = .next t ∧ answered s t r rest .accepted (BitVec.ofNat 32 (17 * l.state.code)) 0 0
        ∧ t.blocks = s.blocks)
    ∧ (l.state ≠ .fault → l.state ≠ .disabled → 0 < s.blocks.runningOn r.lane → r.w1.getLsbD 0 = false ∨ ¬same →
      ∃ t, exec .laneControl s = .next t
        ∧ answered s t r rest .busy (BitVec.ofNat 32 (s.blocks.runningOn r.lane)) 0 0 ∧ t.blocks = s.blocks)
    ∧ (l.state ≠ .fault → l.state ≠ .disabled → s.blocks.runningOn r.lane = 0 → r.w1.getLsbD 0 = false →
      ∃ t, exec .laneControl s = .next t ∧ answered s t r rest .accepted (BitVec.ofNat 32 l.state.code) 0 0
        ∧ (t.blocks.lane r.lane).state = .disabled ∧ outgoing t r.lane = []
        ∧ (t.blocks.lane r.lane).limit = r.w2.toNat % 65536 ∧ (t.blocks.lane r.lane).rate.val = r.w1.toNat / 16 % 16
        ∧ (t.blocks.lane r.lane).timer = none ∧ (t.blocks.lane r.lane).deferred = l.deferred ∧ otherLanes s t r.lane)
    ∧ (l.state ≠ .fault → l.state ≠ .disabled → s.blocks.runningOn r.lane = 0 → r.w1.getLsbD 0 = true →
      ∃ t, exec .laneControl s = .next t ∧ answered s t r rest .accepted (BitVec.ofNat 32 (17 * l.state.code)) 0 0
        ∧ t.blocks.lane r.lane = { l with
            rate := Fin.ofNat 4 (r.w1.toNat / 16 % 16), limit := r.w2.toNat % 65536 }
        ∧ otherLanes s t r.lane)

/-- R28, R47, R125, TABLE 61. RESET_LANE of an enabled lane ends its READY, CONNECTED, DETACHED and HALTING contexts with
LANE_RESET, leaves its other contexts and the other lanes as they were, puts the engine in L_IDLE with a BREAK, and answers
with the lane state found and the number of contexts finalised; in L_DISABLED it is refused and changes nothing. -/
def Obligations.ResetLaneFinalisesTheLanesContexts : Prop :=
  (∀ (s : State) (r : Request) (rest : List Request), taken s r rest .resetLane →
      (s.blocks.lane r.lane).state = .disabled →
      ∃ t, exec .resetLane s = .next t ∧ answered s t r rest .laneUnavailable 0 0 0 ∧ t.blocks = s.blocks)
    ∧ ∀ (s : State) (r : Request) (rest : List Request), taken s r rest .resetLane →
    (s.blocks.lane r.lane).state ≠ .disabled →
    (∀ k, serving s r.lane k → s.blocks.onLane k r.lane = true ∧ (s.blocks.ctx k).state.finalised = true) →
    ∃ t, exec .resetLane s = .next t
      ∧ answered s t r rest .accepted
          (BitVec.ofNat 32 ((s.blocks.lane r.lane).state.code + 256 *
            (List.finRange 40).countP fun k => s.blocks.onLane k r.lane && (s.blocks.ctx k).state.finalised)) 0 0
      ∧ (∀ k : Slot, s.blocks.onLane k r.lane = true → (s.blocks.ctx k).state.finalised = true →
          reportedAs t k .laneReset)
      ∧ (∀ k : Slot, s.blocks.onLane k r.lane = false ∨ (s.blocks.ctx k).state.finalised = false →
          t.blocks.ctx k = s.blocks.ctx k)
      ∧ (t.blocks.lane r.lane).state = .idle ∧ (t.blocks.lane r.lane).brk = some ⟨.space, 128⟩
      ∧ (t.blocks.lane r.lane).readyQ = [] ∧ (t.blocks.lane r.lane).haltList = []
      ∧ (t.blocks.lane r.lane).deferred = 0 ∧ (t.blocks.lane r.lane).served = none
      ∧ (t.blocks.lane r.lane).rate = (s.blocks.lane r.lane).rate
      ∧ (t.blocks.lane r.lane).limit = (s.blocks.lane r.lane).limit
      ∧ (t.blocks.lane r.lane).strayFrame = (s.blocks.lane r.lane).strayFrame
      ∧ otherLanes s t r.lane ∧ t.blocks.index = s.blocks.index ∧ t.blocks.laneFault = s.blocks.laneFault
      ∧ t.blocks.window.ledger = s.blocks.window.ledger ∧ r.lane ∉ t.blocks.window.permits

/-- R48, R49, R133. POLICY takes both values and answers with those in force before; with no lane waiting nothing else
changes. LANE_STATUS reports the lane, STRAY_FRAME and the deferred-attention set as they stand, clears STRAY_FRAME, and
changes nothing else. (That the decision of POLICY answers one that is owed is the model's choice, log 38.) -/
def Obligations.PolicyReplacesBothValuesAndLaneStatusClearsStrayFrame : Prop :=
  (∀ (s : State) (r : Request) (rest : List Request), taken s r rest .setPolicy →
      s.blocks.window.startLimit < 16 → s.blocks.window.windowUs < 65536 →
      ∃ t, exec .setPolicy s = .next t
        ∧ answered s t r rest .accepted
            (BitVec.ofNat 32 (s.blocks.window.startLimit + 65536 * s.blocks.window.windowUs)) 0 0
        ∧ t.blocks.window.startLimit = r.w1.toNat % 16 ∧ t.blocks.window.windowUs = r.w2.toNat % 65536
        ∧ (s.blocks.window.permits = [] →
            t.blocks = { s.blocks with
              window := { s.blocks.window with
                startLimit := r.w1.toNat % 16, windowUs := r.w2.toNat % 65536, asked := false } }))
    ∧ ∀ (s : State) (r : Request) (rest : List Request) (l : Lane), taken s r rest .laneStatus →
        l = s.blocks.lane r.lane → l.limit < 8192 → l.readyQ.length < 64 → l.haltList.length < 64 →
        ∃ t d1, exec .laneStatus s = .next t
          ∧ answered s t r rest .accepted d1 l.deferred (BitVec.ofNat 32 (l.readyQ.length + 256 * l.haltList.length))
          ∧ d1.toNat % 16 = l.state.code ∧ d1.toNat / 32 % 4 = l.rate.val ∧ d1.toNat / 65536 = l.limit
          ∧ (d1.getLsbD 4 = true ↔ l.state ≠ .disabled) ∧ (d1.getLsbD 7 = true ↔ l.faultCause ≠ none)
          ∧ d1.getLsbD 8 = l.lineStuck ∧ d1.getLsbD 9 = l.strayFrame
          ∧ t.blocks.lane r.lane = { l with strayFrame := false } ∧ otherLanes s t r.lane ∧ sameTables s t
          ∧ elsewhere s t

/-! ### Time -/

/-- R21, R54, R76, R81, R127, R128. A tick raises the count by one and every age by one up to 65535; it is an expiry event
exactly when some record's age reaches WINDOW_US at it; a running response timer counts up to its limit unless the receiver
is assembling a frame; a BREAK has one tick less to run; a detach timer above 0 falls by one millisecond at each 1000th
tick; nothing else changes. A grant decision that is owed is taken before the tick. (That an expiry event leaves a mark for
the expiry command, kept until that is taken, and that a decision may be owed, are the model's choices, logs 5 and 38.) -/
def Obligations.ATickAdvancesCountAgesAndTimers : Prop :=
  (∀ s u : State, s.blocks.window.asked = true → step { s with pending := [] } = .next u →
      ∃ t, exec .timebaseTick s = .next t ∧ exec .timebaseTick { u with pending := s.pending } = .next t)
    ∧ ∀ s : State, s.blocks.window.asked = false → ∃ t, exec .timebaseTick s = .next t ∧ t.port = s.port
    ∧ t.pending = s.pending
    ∧ t.blocks.timebase = ⟨s.blocks.timebase.count + 1, s.port.tbdiv⟩
    ∧ t.blocks.window = { s.blocks.window with
        ledger := s.blocks.window.ledger.map (fun x => { x with age := min 65535 (x.age + 1) })
        expiryDue := s.blocks.window.expiryDue
          || s.blocks.window.ledger.any (fun x => x.age + 1 == s.blocks.window.windowUs) }
    ∧ (∀ n, t.blocks.lane n = { s.blocks.lane n with
        brk := (s.blocks.lane n).brk.map (fun x => { x with left := x.left - 1 })
        timer := (s.blocks.lane n).timer.map (fun x =>
          if (s.blocks.lane n).rx.isAssembling = true ∨ x.limit ≤ x.count then x else ⟨x.count + 1, x.limit⟩) })
    ∧ (∀ k, t.blocks.ctx k = { s.blocks.ctx k with
        timer := (s.blocks.ctx k).timer.map (fun x =>
          if x.ms = 0 then x else if x.ticks < 999 then ⟨x.ms, x.ticks + 1⟩ else ⟨x.ms - 1, 0⟩) })
    ∧ t.blocks.index = s.blocks.index ∧ t.blocks.fetchQ = s.blocks.fetchQ ∧ t.blocks.fetch = s.blocks.fetch
    ∧ t.blocks.mem = s.blocks.mem ∧ t.blocks.reports = s.blocks.reports ∧ t.blocks.laneFault = s.blocks.laneFault

/-- R22. A detach timer at 0 moves its context from DETACHED to HALTING with cause TIMEOUT, at the tail of its lane's halt
list, and adds no flag. (That the expiry is a command of its own is the model's choice, log 5.) -/
def Obligations.DetachTimerExpiryBeginsATimeoutHalt : Prop :=
  ∀ (s : State) (k : Slot) (x : DetachTimer), (s.blocks.ctx k).state = .detached →
    (s.blocks.ctx k).timer = some x → x.ms = 0 →
    ∃ t, exec (.detachTimerExpiry k) s = .next t ∧ t.port = s.port ∧ elsewhere s t
      ∧ t.blocks.ctx k = { s.blocks.ctx k with
          state := .halting, haltCause := some .timeout, awaiting := none, timer := none }
      ∧ (t.blocks.lane (s.blocks.laneOf k)).haltList = (s.blocks.lane (s.blocks.laneOf k)).haltList ++ [k]
      ∧ otherCtxs s t k ∧ otherLanes s t (s.blocks.laneOf k)

/-- R104, R131. At an expiry event the head lane is granted when the young count is below START_LIMIT: it leaves the queue,
a record of age 0 joins the ledger, and the lane sends its CMD with both toggles 0. With the young count at the limit no CMD
is sent. The decision that a joining has left owed grants in the same way when the block takes it on an empty queue. (That the
expiry event is taken by a command of its own, and that a decision may be owed, are the model's choices, logs 5 and 38.) -/
def Obligations.AnExpiryEventGrantsTheHeadLane : Prop :=
  (∀ (s : State) (n : LaneId), s.blocks.window.expiryDue = true → s.blocks.window.permits = [n] →
    (s.blocks.window.youngCount < s.blocks.window.startLimit → ∀ d, (s.blocks.lane n).desc = some d →
        s.blocks.window.ledger.length < 8 →
      ∃ t, exec .ledgerRecordExpiry s = .next t ∧ t.port = s.port ∧ granted s t n d ∧ t.blocks.ctxs = s.blocks.ctxs)
    ∧ (s.blocks.window.startLimit ≤ s.blocks.window.youngCount →
      ∃ t, exec .ledgerRecordExpiry s = .next t ∧ t.blocks.lanes = s.blocks.lanes
        ∧ t.blocks.window = { s.blocks.window with expiryDue := false, asked := false }
        ∧ t.blocks.ctxs = s.blocks.ctxs))
    ∧ ∀ (s : State) (n : LaneId) (d : Descriptor), s.pending = [] → s.blocks.window.asked = true →
        s.blocks.window.permits = [n] → s.blocks.window.youngCount < s.blocks.window.startLimit →
        (s.blocks.lane n).desc = some d → s.blocks.window.ledger.length < 8 →
        ∃ t, step s = .next t ∧ t.port = s.port ∧ granted s t n d ∧ t.blocks.ctxs = s.blocks.ctxs

/-- R27, R93, R99, R102, R120, R169, R171. Expiry in L_POLLING is an empty poll: the third in a row sets LINE_STUCK and
returns the count to 0. Expiry in L_SELECTING is a failed attempt: the next SEL goes out while attempts remain; else a ready
selection ends with NO_UNIT, or LINK_ERROR after a mismatch, and a halt selection with ABORT_UNCONFIRMED and the class of
its halt cause, the lane not faulted. Expiry in L_COMMANDING is a link error: the lane sends ABORT and enters L_ABORTING
with cause LINK_ERROR, or with cause HALT where the halt notice stands. A HALT of the READY context being selected makes the
attempt in course a lost one; its expiry and an ECHO, answered with DESEL, end it and change no context. -/
def Obligations.ATimeoutIsAnEmptyPollAFailedAttemptOrALinkError : Prop :=
  (∀ (s : State) (n : LaneId) (x : ResponseTimer), (s.blocks.lane n).state = .polling →
      (s.blocks.lane n).timer = some x → x.limit ≤ x.count → (s.blocks.lane n).emptyPolls < 3 →
      ∃ t, exec (.responseTimeout n) s = .next t ∧ t.port = s.port ∧ elsewhere s t
        ∧ (t.blocks.lane n).emptyPolls = ((s.blocks.lane n).emptyPolls + 1) % 3
        ∧ ((t.blocks.lane n).lineStuck = true ↔
            (s.blocks.lane n).lineStuck = true ∨ (s.blocks.lane n).emptyPolls = 2)
        ∧ otherLanes s t n ∧ sameTables s t)
    ∧ (∀ (s : State) (n : LaneId) (k : Slot) (x : ResponseTimer), (s.blocks.lane n).state = .commanding →
        serving s n k → (s.blocks.lane n).timer = some x → x.limit ≤ x.count → (s.blocks.lane n).memReq = none →
        ∃ t, exec (.responseTimeout n) s = .next t ∧ t.port = s.port
          ∧ (t.blocks.lane n).state = .aborting ∧ sends s t n (.abort (s.blocks.unitOf k))
          ∧ (t.blocks.lane n).abortCause =
              some (if (s.blocks.lane n).haltNotice = true then AbortCause.halt else AbortCause.linkError)
          ∧ (t.blocks.lane n).timer = none ∧ t.blocks.ctxs = s.blocks.ctxs ∧ otherLanes s t n
          ∧ t.blocks.window.ledger = s.blocks.window.ledger)
    ∧ (∀ (s : State) (n : LaneId) (k : Slot) (kind : ServiceKind) (x : ResponseTimer),
        (s.blocks.lane n).state = .selecting → (s.blocks.lane n).served = some ⟨k, kind⟩ →
        (s.blocks.lane n).timer = some x → x.limit ≤ x.count → (s.blocks.lane n).attempts < 1 + s.blocks.retriesOf k →
        ∃ t, exec (.responseTimeout n) s = .next t ∧ t.port = s.port ∧ elsewhere s t ∧ sameTables s t
          ∧ otherLanes s t n ∧ (t.blocks.lane n).state = .selecting ∧ (t.blocks.lane n).served = some ⟨k, kind⟩
          ∧ (t.blocks.lane n).attempts = (s.blocks.lane n).attempts + 1 ∧ (t.blocks.lane n).timer = none
          ∧ sends s t n (.sel (s.blocks.unitOf k)))
    ∧ (∀ (s : State) (n : LaneId) (k : Slot) (kind : ServiceKind) (x : ResponseTimer),
        (s.blocks.lane n).state = .selecting → (s.blocks.lane n).served = some ⟨k, kind⟩ → kind ≠ .connection →
        (s.blocks.lane n).timer = some x → x.limit ≤ x.count → 1 + s.blocks.retriesOf k ≤ (s.blocks.lane n).attempts →
        (s.blocks.ctx k).state ≠ .free → s.blocks.laneOf k = n →
        ∃ t, exec (.responseTimeout n) s = .next t ∧ t.port = s.port ∧ elsewhere s t ∧ otherCtxs s t k
          ∧ otherLanes s t n ∧ k ∉ (t.blocks.lane n).readyQ ∧ k ∉ (t.blocks.lane n).haltList
          ∧ (t.blocks.lane n).state ≠ .fault
          ∧ (kind = .readySelection → reportedAs t k
              (if (s.blocks.lane n).mismatch = true then .linkError else .noUnit))
          ∧ (kind = .haltSelection → (t.blocks.ctx k).flags.abortUnconfirmed = true
              ∧ ((s.blocks.ctx k).haltCause = some .requested → reportedAs t k .halted)
              ∧ ((s.blocks.ctx k).haltCause = some .timeout → reportedAs t k .timeout)))
    ∧ (∀ (s : State) (r : Request) (rest : List Request) (k : Slot), taken s r rest .haltUnit →
        s.blocks.lookup r.lane r.unit = some k → (s.blocks.ctx k).state = .ready → s.blocks.laneOf k = r.lane →
        (s.blocks.lane r.lane).served = some ⟨k, .readySelection⟩ → (s.blocks.lane r.lane).selOwed = false →
        ∃ t, exec .haltUnit s = .next t ∧ reportedAs t k .halted
          ∧ (t.blocks.lane r.lane).state = (s.blocks.lane r.lane).state ∧ (t.blocks.lane r.lane).served = none
          ∧ (t.blocks.lane r.lane).lostAttempt = some (s.blocks.unitOf k)
          ∧ (t.blocks.lane r.lane).timer = (s.blocks.lane r.lane).timer
          ∧ (t.blocks.lane r.lane).tx = (s.blocks.lane r.lane).tx
          ∧ (t.blocks.lane r.lane).txQueue = (s.blocks.lane r.lane).txQueue)
    ∧ (∀ (s : State) (n : LaneId) (x : ResponseTimer), (s.blocks.lane n).state = .selecting →
        (s.blocks.lane n).served = none → (s.blocks.lane n).timer = some x → x.limit ≤ x.count →
        ∃ t, exec (.responseTimeout n) s = .next t ∧ t.port = s.port ∧ elsewhere s t ∧ sameTables s t
          ∧ otherLanes s t n ∧ (t.blocks.lane n).lostAttempt = none
          ∧ ((s.blocks.lane n).atn = false → (s.blocks.lane n).readyQ = [] → (s.blocks.lane n).haltList = [] →
              (t.blocks.lane n).state = .idle ∧ (t.blocks.lane n).timer = none ∧ outgoing t n = outgoing s n))
    ∧ ∀ (s : State) (n : LaneId) (addr : UnitAddr), receiving s n → (s.blocks.lane n).state = .selecting →
        (s.blocks.lane n).served = none →
        ∃ t, exec (.frameEcho n addr) s = .next t ∧ t.port = s.port ∧ elsewhere s t ∧ sameTables s t
          ∧ otherLanes s t n ∧ (t.blocks.lane n).lostAttempt = none ∧ sendsFirst s t n (.desel addr)

/-- R123, R50. Expiry in L_ABORTING with no memory request outstanding: the context ends with ABORT_UNCONFIRMED, the lane
enters L_FAULT with cause ABORT_TIMEOUT, and its LANE_FAULT cause is set. -/
def Obligations.AnUnconfirmedAbortFaultsTheLane : Prop :=
  ∀ (s : State) (n : LaneId) (k : Slot) (x : ResponseTimer), (s.blocks.lane n).state = .aborting →
    serving s n k → (s.blocks.lane n).abortPhase = .awaiting → (s.blocks.lane n).timer = some x → x.limit ≤ x.count →
    (s.blocks.lane n).memReq = none → s.blocks.laneOf k = n → (s.blocks.ctx k).state ≠ .free →
    ∃ t, exec (.responseTimeout n) s = .next t ∧ t.port = s.port
      ∧ (t.blocks.ctx k).state = .reported ∧ (t.blocks.ctx k).flags.abortUnconfirmed = true
      ∧ (t.blocks.lane n).state = .fault ∧ (t.blocks.lane n).faultCause = some .abortTimeout
      ∧ (t.blocks.lane n).served = none ∧ t.blocks.laneFault.get n = true
      ∧ outgoing t n = outgoing s n ∧ otherCtxs s t k ∧ otherLanes s t n

/-- R76, R94, R97. The space of a BREAK is followed by 500 ticks of recovery; when those have run the BREAK is over, and a
lane with nothing to do stays in L_IDLE. -/
def Obligations.BreakSpaceThenRecovery : Prop :=
  ∀ (s : State) (n : LaneId),
    ((s.blocks.lane n).brk = some ⟨.space, 0⟩ → (s.blocks.lane n).state ≠ .disabled →
      ∃ t, exec (.breakSpaceEnd n) s = .next t ∧ t.port = s.port ∧ elsewhere s t
        ∧ t.blocks.lane n = { s.blocks.lane n with brk := some ⟨.recovery, 500⟩ } ∧ otherLanes s t n ∧ sameTables s t)
    ∧ ((s.blocks.lane n).brk = some ⟨.recovery, 0⟩ → (s.blocks.lane n).state = .idle → (s.blocks.lane n).atn = false →
        (s.blocks.lane n).readyQ = [] → (s.blocks.lane n).haltList = [] →
      ∃ t, exec (.breakRecoveryEnd n) s = .next t ∧ t.port = s.port ∧ elsewhere s t
        ∧ t.blocks.lane n = { s.blocks.lane n with brk := none } ∧ otherLanes s t n ∧ sameTables s t)

/-! ### The lane wire -/

/-- R96, R97, R99, R124. In L_IDLE, out of a BREAK and with LINE_STUCK clear, an assertion brings a POLL while the poll run
is below 4. A deassertion clears LINE_STUCK and, but for L_FAULT, the empty polls; in L_IDLE, out of a BREAK, the clearing
of LINE_STUCK brings a service choice, which selects the head of the halt list, else of the ready queue. In L_DISABLED only
the level changes. -/
def Obligations.AttentionBringsAPollAndDeassertionClearsLineStuck : Prop :=
  (∀ (s : State) (n : LaneId), (s.blocks.lane n).state = .idle → (s.blocks.lane n).brk = none →
      (s.blocks.lane n).atn = false → (s.blocks.lane n).lineStuck = false → (s.blocks.lane n).pollRun < 4 →
      ∃ t, exec (.attentionLineChange n true) s = .next t ∧ t.port = s.port ∧ elsewhere s t
        ∧ (t.blocks.lane n).state = .polling ∧ sends s t n .poll ∧ (t.blocks.lane n).atn = true ∧ otherLanes s t n
        ∧ sameTables s t)
    ∧ (∀ (s : State) (n : LaneId) (asserted : Bool), (s.blocks.lane n).state = .disabled →
        ∃ t, exec (.attentionLineChange n asserted) s = .next t ∧ t.port = s.port ∧ elsewhere s t
          ∧ t.blocks.lane n = { s.blocks.lane n with atn := asserted } ∧ otherLanes s t n ∧ sameTables s t)
    ∧ ∀ (s : State) (n : LaneId) (l : Lane), (s.blocks.lane n).state ≠ .disabled → (s.blocks.lane n).atn = true →
        l = { s.blocks.lane n with
          atn := false, lineStuck := false
          emptyPolls := if (s.blocks.lane n).state = .fault then (s.blocks.lane n).emptyPolls else 0 } →
        ∃ t, exec (.attentionLineChange n false) s = .next t ∧ t.port = s.port ∧ elsewhere s t ∧ otherLanes s t n
          ∧ sameTables s t
          ∧ ((s.blocks.lane n).state ≠ .idle ∨ (s.blocks.lane n).brk ≠ none ∨ (s.blocks.lane n).lineStuck = false ∨
                (l.haltList = [] ∧ l.readyQ = []) →
              t.blocks.lane n = l)
          ∧ ((s.blocks.lane n).state = .idle → (s.blocks.lane n).brk = none → (s.blocks.lane n).lineStuck = true →
              ∀ k rest kind, (l.haltList = k :: rest ∧ kind = .haltSelection) ∨
                  (l.haltList = [] ∧ l.readyQ = k :: rest ∧ kind = .readySelection) →
                (t.blocks.lane n).state = .selecting ∧ (t.blocks.lane n).served = some ⟨k, kind⟩
                  ∧ sends s t n (.sel (s.blocks.unitOf k)) ∧ (t.blocks.lane n).lineStuck = false
                  ∧ (t.blocks.lane n).emptyPolls = 0 ∧ (t.blocks.lane n).attempts = 1)

/-- R74, R75, R80, R81. A receiver that listens begins assembling at the first start bit. In L_POLLING, L_SELECTING,
L_PERMIT_WAIT and L_COMMANDING a malformed frame changes nothing but the receiver, which loses its footing after a length
above 16 and after a failure of framing or completeness, and listens again after unbroken mark; a frame that waited for the
receiver goes out. In L_DISABLED, in a BREAK and while the lane sends, LnRXD is disregarded. (That the frame waited is the
model's reading, log 9.) -/
def Obligations.TheReceiverBeginsDiscardsAndResynchronises : Prop :=
  (∀ (s : State) (n : LaneId), (s.blocks.lane n).rx = .listening → (s.blocks.lane n).state ≠ .disabled →
      (s.blocks.lane n).brk = none → (s.blocks.lane n).tx = none →
      ∃ t, exec (.frameFirstStartBit n) s = .next t ∧ t.port = s.port ∧ elsewhere s t
        ∧ t.blocks.lane n = { s.blocks.lane n with rx := .assembling (s.blocks.lane n).rate }
        ∧ otherLanes s t n ∧ sameTables s t)
    ∧ (∀ (s : State) (n : LaneId), (s.blocks.lane n).rx = .lostFooting → (s.blocks.lane n).state ≠ .disabled →
        (s.blocks.lane n).brk = none → (s.blocks.lane n).tx = none →
        ∃ t, exec (.unbrokenMarkResync n) s = .next t ∧ t.port = s.port ∧ elsewhere s t
          ∧ t.blocks.lane n = { s.blocks.lane n with rx := .listening } ∧ otherLanes s t n ∧ sameTables s t)
    ∧ (∀ (s : State) (n : LaneId), (s.blocks.lane n).state = .disabled ∨ (s.blocks.lane n).brk ≠ none ∨
          (s.blocks.lane n).tx ≠ none →
        exec (.frameFirstStartBit n) s = .next s ∧ exec (.unbrokenMarkResync n) s = .next s)
    ∧ ∀ (s : State) (n : LaneId) (check : FrameCheck) (above16 : Bool) (rx : Receiver), receiving s n →
        (s.blocks.lane n).state = .polling ∨ (s.blocks.lane n).state = .selecting ∨
          (s.blocks.lane n).state = .permitWait ∨ (s.blocks.lane n).state = .commanding →
        rx = (if above16 = true ∨ check = .framing ∨ check = .completeness then .lostFooting else .listening) →
        ∃ t, exec (.frameMalformed n check above16) s = .next t ∧ t.port = s.port ∧ elsewhere s t
          ∧ otherLanes s t n ∧ sameTables s t ∧ outgoing t n = outgoing s n
          ∧ ((s.blocks.lane n).txQueue = [] ∨ (s.blocks.lane n).tx ≠ none →
              t.blocks.lane n = { s.blocks.lane n with rx := rx })
          ∧ ∀ f rest, (s.blocks.lane n).tx = none → (s.blocks.lane n).txQueue = f :: rest →
              t.blocks.lane n = { s.blocks.lane n with
                rx := rx, tx := some ⟨f, (s.blocks.lane n).rate⟩, txQueue := rest }

/-- R81, TABLE 26. The last stop bit of POLL, SEL, CMD or ABORT releases the pair and starts the response timer against the
lane's limit; that of DEFER starts none. -/
def Obligations.TheTimerStartsAtTheLastStopBit : Prop :=
  ∀ (s : State) (n : LaneId) (f : PartFrame) (rate : Fin 4), (s.blocks.lane n).tx = some ⟨f, rate⟩ →
    (s.blocks.lane n).txQueue = [] →
    ((f = .poll ∧ (s.blocks.lane n).state = .polling) ∨ (∃ u, f = .sel u ∧ (s.blocks.lane n).state = .selecting)
        ∨ (∃ u code dir count, f = .cmd u code dir count ∧ (s.blocks.lane n).state = .commanding)
        ∨ (∃ u, f = .abort u ∧ (s.blocks.lane n).state = .aborting ∧ (s.blocks.lane n).abortPhase = .awaiting) →
      ∃ t, exec (.frameSent n) s = .next t ∧ t.port = s.port ∧ elsewhere s t
        ∧ t.blocks.lane n = { s.blocks.lane n with tx := none, timer := some ⟨0, (s.blocks.lane n).limit⟩ }
        ∧ otherLanes s t n ∧ sameTables s t)
    ∧ ∀ u, f = .defer u →
      ∃ t, exec (.frameSent n) s = .next t ∧ t.port = s.port ∧ elsewhere s t
        ∧ t.blocks.lane n = { s.blocks.lane n with tx := none } ∧ otherLanes s t n ∧ sameTables s t

/-- R107, R108. The DOUT that brings the residual to 0 with DOUT still owed, on a descriptor without LINK_DATA and NOTE, is
followed by STOP; no flag is recorded. (That the bytes count at the last stop bit is the model's reading, log 11.) -/
def Obligations.ADoutAtResidualZeroWithDoutOwedIsFollowedByStop : Prop :=
  ∀ (s : State) (n : LaneId) (k : Slot) (u : UnitAddr) (bytes : List Byte) (rate : Fin 4) (d : Descriptor),
    (s.blocks.lane n).tx = some ⟨.dout u (s.blocks.lane n).outToggle bytes, rate⟩ → (s.blocks.lane n).txQueue = [] →
    (s.blocks.lane n).state = .transfer → serving s n k → (s.blocks.lane n).desc = some d → d.dir = .outbound →
    d.flags.linkData = false → d.flags.note = false → (s.blocks.lane n).haltNotice = false →
    (s.blocks.lane n).residual = bytes.length → 2 ≤ (s.blocks.lane n).doutOwed →
    ∃ t, exec (.frameSent n) s = .next t ∧ t.port = s.port ∧ elsewhere s t ∧ (t.blocks.lane n).state = .ending
      ∧ (t.blocks.lane n).closing = none ∧ outgoing t n = [.stop (s.blocks.unitOf k)]
      ∧ ((s.blocks.lane n).rx.isAssembling = false → onWire t n = some (.stop (s.blocks.unitOf k)))
      ∧ (t.blocks.lane n).residual = 0 ∧ (t.blocks.lane n).doutOwed = 0
      ∧ (t.blocks.lane n).dataAddr = (s.blocks.lane n).dataAddr + bytes.length
      ∧ (t.blocks.lane n).outToggle = !(s.blocks.lane n).outToggle
      ∧ t.blocks.ctxs = s.blocks.ctxs ∧ otherLanes s t n

/-! ### Frames taken -/

/-- R19, R20, R89, R100, R101, TABLE 35. ATTN in L_POLLING: an unbound unit is told DEFER and joins the deferred-attention set; an
IDLE context is sent DESEL and ends with UNIT_ATTENTION, the ATTN's status its last unit status; a LOADING, READY or
REPORTED one is told DEFER and takes DEFERRED_ATTENTION, its last unit status as it was; a RECONNECT for a context awaiting
RESUME makes it CONNECTED, loads the live fields from the record, sets both toggles to 0, sends RESUME and enters
L_TRANSFER; a FREE for one awaiting FREE makes it CONNECTED with its lane in L_PERMIT_WAIT, here with the start window at
its limit; either reason that does not match makes it CONNECTED and brings ABORT with cause LINK_ERROR; UNSOLICITED leaves a
DETACHED context DETACHED, its timer running, with DEFERRED_ATTENTION; a HALTING context leaves the halt list and its unit
is sent ABORT with cause HALT, whatever the reason. -/
def Obligations.AttnIsAnsweredByTheContextsState : Prop :=
  (∀ (s : State) (n : LaneId) (u : UnitAddr) (reason : AttnReason) (status : Byte), receiving s n →
      (s.blocks.lane n).state = .polling → status &&& 0xE0 = 0 →
      (s.blocks.lookup n u = none →
        ∃ t, exec (.frameAttn n u reason status) s = .next t ∧ t.port = s.port ∧ elsewhere s t
          ∧ sendsFirst s t n (.defer u)
          ∧ (t.blocks.lane n).deferred = (s.blocks.lane n).deferred ||| ((1 : Word) <<< u.val)
          ∧ t.blocks.ctxs = s.blocks.ctxs ∧ otherLanes s t n)
      ∧ ∀ k, s.blocks.lookup n u = some k → (s.blocks.ctx k).state = .idle →
        ∃ t, exec (.frameAttn n u reason status) s = .next t ∧ t.port = s.port ∧ elsewhere s t
          ∧ sendsFirst s t n (.desel u)
          ∧ reportedAs t k .unitAttention ∧ (t.blocks.ctx k).lastStatus = some status ∧ otherCtxs s t k)
    ∧ (∀ (s : State) (n : LaneId) (u : UnitAddr) (k : Slot) (status : Byte), receiving s n →
        (s.blocks.lane n).state = .polling → status &&& 0xE0 = 0 →
        s.blocks.lookup n u = some k → s.blocks.unitOf k = u → (s.blocks.ctx k).state = .detached →
        (s.blocks.ctx k).awaiting = some .resume →
        ∃ t, exec (.frameAttn n u .reconnect status) s = .next t ∧ t.port = s.port ∧ elsewhere s t
          ∧ sends s t n (.resume u) ∧ (t.blocks.lane n).state = .transfer ∧ serving t n k
          ∧ (t.blocks.lane n).desc = (s.blocks.ctx k).desc ∧ (t.blocks.lane n).residual = (s.blocks.ctx k).residual
          ∧ (t.blocks.lane n).rxResidual = (s.blocks.ctx k).residual
          ∧ (t.blocks.lane n).dataAddr = (s.blocks.ctx k).dataAddr
          ∧ (t.blocks.lane n).lengthCond = (s.blocks.ctx k).lengthCond
          ∧ (t.blocks.lane n).outToggle = false ∧ (t.blocks.lane n).inToggle = false
          ∧ (t.blocks.lane n).lastIn = none
          ∧ (t.blocks.ctx k).state = .connected ∧ (t.blocks.ctx k).awaiting = none ∧ (t.blocks.ctx k).timer = none
          ∧ (t.blocks.ctx k).lastStatus = some status ∧ otherCtxs s t k ∧ otherLanes s t n)
    ∧ (∀ (s : State) (n : LaneId) (u : UnitAddr) (k : Slot) (reason : AttnReason) (status : Byte), receiving s n →
        (s.blocks.lane n).state = .polling → status &&& 0xE0 = 0 → s.blocks.lookup n u = some k →
        ((s.blocks.ctx k).state = .loading ∨ (s.blocks.ctx k).state = .ready ∨ (s.blocks.ctx k).state = .reported →
          ∃ t, exec (.frameAttn n u reason status) s = .next t ∧ t.port = s.port ∧ elsewhere s t
            ∧ sendsFirst s t n (.defer u) ∧ t.blocks.ctx k = deferredCtx (s.blocks.ctx k) ∧ otherCtxs s t k
            ∧ otherLanes s t n ∧ (t.blocks.lane n).deferred = (s.blocks.lane n).deferred)
        ∧ ((s.blocks.ctx k).state = .detached → reason = .unsolicited →
          ∃ t, exec (.frameAttn n u reason status) s = .next t ∧ t.port = s.port ∧ elsewhere s t
            ∧ sendsFirst s t n (.defer u) ∧ t.blocks.ctx k = deferredCtx (recorded (s.blocks.ctx k) status)
            ∧ otherCtxs s t k ∧ otherLanes s t n)
        ∧ ((s.blocks.ctx k).state = .detached → s.blocks.unitOf k = u →
            (reason = .reconnect ∧ (s.blocks.ctx k).awaiting ≠ some .resume) ∨
              (reason = .free ∧ (s.blocks.ctx k).awaiting ≠ some .free) →
          ∃ t, exec (.frameAttn n u reason status) s = .next t ∧ t.port = s.port ∧ aborts s t n k .linkError
            ∧ t.blocks.ctx k = { recorded (s.blocks.ctx k) status with
                state := .connected, awaiting := none, timer := none }
            ∧ otherCtxs s t k)
        ∧ ((s.blocks.ctx k).state = .halting → s.blocks.unitOf k = u →
          ∃ t, exec (.frameAttn n u reason status) s = .next t ∧ t.port = s.port ∧ aborts s t n k .halt
            ∧ t.blocks.ctx k = recorded (s.blocks.ctx k) status ∧ otherCtxs s t k
            ∧ k ∉ (t.blocks.lane n).haltList))
    ∧ ∀ (s : State) (n : LaneId) (u : UnitAddr) (k : Slot) (status : Byte), receiving s n →
        (s.blocks.lane n).state = .polling → status &&& 0xE0 = 0 → s.blocks.lookup n u = some k →
        (s.blocks.ctx k).state = .detached → (s.blocks.ctx k).awaiting = some .free →
        s.blocks.window.startLimit ≤ s.blocks.window.youngCount →
        ∃ t, exec (.frameAttn n u .free status) s = .next t ∧ t.port = s.port
          ∧ (t.blocks.lane n).state = .permitWait ∧ serving t n k ∧ outgoing t n = outgoing s n
          ∧ (t.blocks.lane n).desc = (s.blocks.ctx k).desc ∧ (t.blocks.lane n).residual = (s.blocks.ctx k).residual
          ∧ t.blocks.window = { s.blocks.window with permits := s.blocks.window.permits ++ [n] }
          ∧ t.blocks.ctx k = { recorded (s.blocks.ctx k) status with
              state := .connected, awaiting := none, timer := none }
          ∧ otherCtxs s t k ∧ otherLanes s t n

/-- R15, R102, R103, R131, R132. The ECHO of the unit selected makes the READY context CONNECTED and takes it from the ready
queue; with the start window at its limit the lane waits in L_PERMIT_WAIT at the tail of the permit queue. With room and no
lane before it, the lane is granted in the event, or, where the next command that waits is an event that may withdraw the lane,
may be left in L_PERMIT_WAIT with the decision owed. An ECHO from another address fails the attempt and is answered with DESEL
to that address; when no attempt remains the ready selection fails with LINK_ERROR. (Which comes first is a free value of the
model, log 38.) -/
def Obligations.AnEchoConnectsOrIsDeselected : Prop :=
  (∀ (s : State) (n : LaneId) (k : Slot), receiving s n → (s.blocks.lane n).state = .selecting →
      (s.blocks.lane n).served = some ⟨k, .readySelection⟩ → (s.blocks.ctx k).state = .ready →
      s.blocks.window.startLimit ≤ s.blocks.window.youngCount →
      ∃ t, exec (.frameEcho n (s.blocks.unitOf k)) s = .next t ∧ t.port = s.port
        ∧ t.blocks.ctx k = { s.blocks.ctx k with state := .connected } ∧ (t.blocks.lane n).state = .permitWait
        ∧ serving t n k ∧ k ∉ (t.blocks.lane n).readyQ ∧ (t.blocks.lane n).timer = none
        ∧ (t.blocks.lane n).residual = (s.blocks.ctx k).residual
        ∧ t.blocks.window.permits = s.blocks.window.permits ++ [n]
        ∧ t.blocks.window.ledger = s.blocks.window.ledger ∧ otherCtxs s t k ∧ otherLanes s t n)
    ∧ (∀ (s : State) (n : LaneId) (k : Slot) (d : Descriptor), receiving s n → (s.blocks.lane n).state = .selecting →
        (s.blocks.lane n).served = some ⟨k, .readySelection⟩ → (s.blocks.ctx k).state = .ready →
        (s.blocks.ctx k).desc = some d → s.blocks.window.permits = [] → s.blocks.window.asked = false →
        s.blocks.window.youngCount < s.blocks.window.startLimit → s.blocks.window.ledger.length < 8 →
        ∃ t, exec (.frameEcho n (s.blocks.unitOf k)) s = .next t ∧ t.port = s.port
          ∧ t.blocks.ctx k = { s.blocks.ctx k with state := .connected } ∧ serving t n k ∧ otherCtxs s t k
          ∧ (granted s t n d ∨
              (withdrawalNext s n ∧ (t.blocks.lane n).state = .permitWait ∧ t.blocks.window.permits = [n]
                ∧ t.blocks.window.asked = true ∧ t.blocks.window.ledger = s.blocks.window.ledger
                ∧ outgoing t n = outgoing s n ∧ otherLanes s t n)))
    ∧ (∀ (s : State) (n : LaneId) (k : Slot) (addr : UnitAddr), receiving s n → (s.blocks.lane n).state = .selecting →
        (s.blocks.lane n).served = some ⟨k, .readySelection⟩ → addr ≠ s.blocks.unitOf k →
        (s.blocks.ctx k).state = .ready →
        ((s.blocks.lane n).attempts < 1 + s.blocks.retriesOf k →
          ∃ t, exec (.frameEcho n addr) s = .next t ∧ t.port = s.port ∧ elsewhere s t ∧ sends s t n (.desel addr)
            ∧ (t.blocks.lane n).state = .selecting ∧ (t.blocks.lane n).mismatch = true
            ∧ t.blocks.ctxs = s.blocks.ctxs ∧ otherLanes s t n)
        ∧ (1 + s.blocks.retriesOf k ≤ (s.blocks.lane n).attempts →
          ∃ t, exec (.frameEcho n addr) s = .next t ∧ t.port = s.port ∧ elsewhere s t ∧ sendsFirst s t n (.desel addr)
            ∧ reportedAs t k .linkError ∧ otherCtxs s t k))

/-- R105, TABLE 36. ACPT: BUSY alone detaches the context awaiting FREE and sends DESEL; CHECK ends it with UNIT_CHECK; a
clean ACPT of an OUT command enters L_TRANSFER with the timer started and asks for the first staging read. -/
def Obligations.AcceptanceOutcomes : Prop :=
  ∀ (s : State) (n : LaneId) (k : Slot) (status : Byte), receiving s n → (s.blocks.lane n).state = .commanding →
    serving s n k → (s.blocks.ctx k).state = .connected → (s.blocks.lane n).haltNotice = false →
    status &&& 0xE0 = 0 →
    (status.getLsbD 0 = false → status.getLsbD 1 = false → status.getLsbD 2 = true →
      ∃ t, exec (.frameAcpt n (s.blocks.unitOf k) status) s = .next t ∧ t.port = s.port ∧ elsewhere s t
        ∧ sendsFirst s t n (.desel (s.blocks.unitOf k)) ∧ (t.blocks.ctx k).state = .detached
        ∧ (t.blocks.ctx k).awaiting = some .free ∧ (t.blocks.ctx k).lastStatus = some status
        ∧ otherCtxs s t k ∧ otherLanes s t n)
    ∧ (status.getLsbD 0 = true →
      ∃ t, exec (.frameAcpt n (s.blocks.unitOf k) status) s = .next t ∧ t.port = s.port ∧ elsewhere s t
        ∧ sendsFirst s t n (.desel (s.blocks.unitOf k)) ∧ reportedAs t k .unitCheck
        ∧ (t.blocks.ctx k).lastStatus = some status ∧ otherCtxs s t k)
    ∧ (status.getLsbD 0 = false → status.getLsbD 1 = false → status.getLsbD 2 = false →
        ∀ d, (s.blocks.lane n).desc = some d → d.dir = .outbound → (s.blocks.lane n).memReq = none →
        (s.blocks.lane n).staging = .empty → (s.blocks.lane n).stagingAddr = d.addr → 0 < d.count →
        (s.blocks.lane n).doutOwed = 0 →
      ∃ t, exec (.frameAcpt n (s.blocks.unitOf k) status) s = .next t ∧ t.port = s.port ∧ elsewhere s t
        ∧ (t.blocks.lane n).state = .transfer ∧ (t.blocks.lane n).timer = some ⟨0, (s.blocks.lane n).limit⟩
        ∧ (t.blocks.lane n).memReq = some ⟨false, .h0, min 64 d.count, false⟩
        ∧ (t.blocks.lane n).stagingAddr = d.addr + min 64 d.count
        ∧ outgoing t n = outgoing s n ∧ (t.blocks.ctx k).state = .connected ∧ otherCtxs s t k ∧ otherLanes s t n)

/-- R63, R107, R112, R115. A NEED during an OUT command with a byte staged and nothing on the wire: DOUT owed becomes its
chunk count and a DOUT of at most 16 bytes of the oldest half goes out with the outbound toggle. A NEED during a command
without data is answered with STOP and records LENGTH_LONG and the length condition. In L_ENDING awaiting END a NEED is
answered with STOP again and nothing is added to the flags. -/
def Obligations.ANeedIsAnsweredWithDoutOrWithStop : Prop :=
  (∀ (s : State) (n : LaneId) (k : Slot) (chunks : Nat) (d : Descriptor), receiving s n →
      (s.blocks.lane n).state = .transfer → serving s n k → (s.blocks.lane n).desc = some d → d.dir = .outbound →
      (s.blocks.lane n).haltNotice = false → outgoing s n = [] → (s.blocks.lane n).doutOwed = 0 →
      (s.blocks.lane n).residual ≠ 0 → (s.blocks.lane n).staging.get (s.blocks.lane n).staging.drain ≠ [] →
      1 ≤ chunks → chunks ≤ 8 →
      ∃ t, exec (.frameNeed n (s.blocks.unitOf k) chunks) s = .next t ∧ t.port = s.port ∧ elsewhere s t
        ∧ (t.blocks.lane n).doutOwed = chunks ∧ (t.blocks.lane n).timer = none
        ∧ sends s t n (.dout (s.blocks.unitOf k) (s.blocks.lane n).outToggle
            (((s.blocks.lane n).staging.get (s.blocks.lane n).staging.drain).take 16))
        ∧ (t.blocks.lane n).residual = (s.blocks.lane n).residual ∧ t.blocks.ctxs = s.blocks.ctxs ∧ otherLanes s t n)
    ∧ (∀ (s : State) (n : LaneId) (k : Slot) (chunks : Nat) (d : Descriptor), receiving s n →
        (s.blocks.lane n).state = .transfer → serving s n k → (s.blocks.lane n).desc = some d → d.dir = .noData →
        (s.blocks.lane n).haltNotice = false → 1 ≤ chunks → chunks ≤ 8 →
        ∃ t, exec (.frameNeed n (s.blocks.unitOf k) chunks) s = .next t ∧ t.port = s.port ∧ elsewhere s t
          ∧ (t.blocks.lane n).state = .ending ∧ (t.blocks.lane n).closing = none
          ∧ sends s t n (.stop (s.blocks.unitOf k)) ∧ (t.blocks.lane n).lengthCond = true
          ∧ t.blocks.ctx k = { s.blocks.ctx k with flags := { (s.blocks.ctx k).flags with lengthLong := true } }
          ∧ otherCtxs s t k ∧ otherLanes s t n)
    ∧ ∀ (s : State) (n : LaneId) (k : Slot) (chunks : Nat), receiving s n →
        (s.blocks.lane n).state = .ending → (s.blocks.lane n).closing = none → serving s n k →
        (s.blocks.lane n).haltNotice = false → 1 ≤ chunks → chunks ≤ 8 →
        ∃ t, exec (.frameNeed n (s.blocks.unitOf k) chunks) s = .next t ∧ t.port = s.port ∧ elsewhere s t
          ∧ (t.blocks.lane n).state = .ending ∧ (t.blocks.lane n).closing = none
          ∧ sends s t n (.stop (s.blocks.unitOf k)) ∧ (t.blocks.lane n).lengthCond = (s.blocks.lane n).lengthCond
          ∧ t.blocks.ctxs = s.blocks.ctxs ∧ otherLanes s t n

/-- R88, R89, R110. A DIN with the expected toggle that fits the head chunk of credit, with credit left: the chunk is used,
the toggle changes, the receive residual falls by its bytes and the timer starts; under DISCARD the written residual falls
with it and nothing is staged. A repeat of the last chunk with the other toggle is discarded: the timer, the credit, the
toggle, the residuals and the bytes staged are as they were. -/
def Obligations.ADinUsesCreditAndADuplicateUsesNone : Prop :=
  ∀ (s : State) (n : LaneId) (k : Slot) (toggle : Bool) (bytes : List Byte) (d : Descriptor), receiving s n →
    (s.blocks.lane n).state = .transfer → serving s n k → (s.blocks.lane n).desc = some d → d.dir = .inbound →
    (s.blocks.lane n).haltNotice = false → 1 ≤ bytes.length → bytes.length ≤ 16 →
    (∀ c rest, (s.blocks.lane n).credit = c :: rest → rest ≠ [] → toggle = (s.blocks.lane n).inToggle →
        bytes.length ≤ c → bytes.length < (s.blocks.lane n).rxResidual →
      ∃ t, exec (.frameDin n (s.blocks.unitOf k) toggle bytes) s = .next t ∧ t.port = s.port ∧ elsewhere s t
        ∧ (t.blocks.lane n).credit = rest ∧ (t.blocks.lane n).inToggle = !toggle
        ∧ (t.blocks.lane n).lastIn = some bytes
        ∧ (t.blocks.lane n).rxResidual = (s.blocks.lane n).rxResidual - bytes.length
        ∧ (t.blocks.lane n).residual =
            (s.blocks.lane n).residual - (if d.flags.discard = true then bytes.length else 0)
        ∧ (d.flags.discard = true → (t.blocks.lane n).staging = (s.blocks.lane n).staging)
        ∧ (d.flags.discard = false → (t.blocks.lane n).staging = (s.blocks.lane n).staging.takeIn bytes)
        ∧ (t.blocks.lane n).timer = some ⟨0, (s.blocks.lane n).limit⟩ ∧ (t.blocks.lane n).state = .transfer
        ∧ t.blocks.ctxs = s.blocks.ctxs ∧ otherLanes s t n)
    ∧ (toggle ≠ (s.blocks.lane n).inToggle → (s.blocks.lane n).lastIn = some bytes →
      ∃ t, exec (.frameDin n (s.blocks.unitOf k) toggle bytes) s = .next t ∧ t.port = s.port ∧ elsewhere s t
        ∧ (t.blocks.lane n).state = .transfer ∧ (t.blocks.lane n).rx = .listening
        ∧ (t.blocks.lane n).timer = (s.blocks.lane n).timer
        ∧ ((s.blocks.lane n).credit ≠ [] → (t.blocks.lane n).credit = (s.blocks.lane n).credit)
        ∧ (t.blocks.lane n).inToggle = (s.blocks.lane n).inToggle ∧ (t.blocks.lane n).lastIn = (s.blocks.lane n).lastIn
        ∧ (t.blocks.lane n).rxResidual = (s.blocks.lane n).rxResidual
        ∧ (t.blocks.lane n).residual = (s.blocks.lane n).residual
        ∧ (t.blocks.lane n).dataAddr = (s.blocks.lane n).dataAddr
        ∧ (t.blocks.lane n).staging = (s.blocks.lane n).staging ∧ t.blocks.ctxs = s.blocks.ctxs ∧ otherLanes s t n)

/-- R116, R18. A WAIT of an OUT command with no memory request outstanding: the live fields are written back, DESEL is sent
and the context is DETACHED awaiting RESUME with its detach timer started at the limit. -/
def Obligations.AWaitDetachesTheContext : Prop :=
  ∀ (s : State) (n : LaneId) (k : Slot) (d : Descriptor) (x : Binding), receiving s n →
    (s.blocks.lane n).state = .transfer → serving s n k → (s.blocks.lane n).desc = some d → d.dir = .outbound →
    (s.blocks.ctx k).state = .connected → (s.blocks.ctx k).binding = some x → (s.blocks.lane n).memReq = none →
    ∃ t, exec (.frameWait n (s.blocks.unitOf k)) s = .next t ∧ t.port = s.port ∧ elsewhere s t
      ∧ sendsFirst s t n (.desel (s.blocks.unitOf k))
      ∧ t.blocks.ctx k = { s.blocks.ctx k with
          state := .detached, awaiting := some .resume
          timer := if x.detachLimit = 0 then none else some ⟨x.detachLimit, 0⟩
          desc := some d, residual := (s.blocks.lane n).residual, dataAddr := (s.blocks.lane n).dataAddr
          lengthCond := (s.blocks.lane n).lengthCond }
      ∧ otherCtxs s t k ∧ otherLanes s t n

/-- R62, R85, R118, R119. An END of an OUT command without a linking flag and with no memory request outstanding ends the
chain in the same event: UNIT_CHECK with CHECK, else LENGTH with a residual above 0 and the length check on, else COMPLETE;
LENGTH_SHORT stands with a residual above 0. -/
def Obligations.AnEndGivesTheFinalReport : Prop :=
  ∀ (s : State) (n : LaneId) (k : Slot) (status : Byte) (d : Descriptor), receiving s n →
    (s.blocks.lane n).state = .transfer → serving s n k → (s.blocks.lane n).desc = some d → d.dir = .outbound →
    d.flags = ⟨false, false, false, false, false⟩ → (s.blocks.ctx k).state = .connected →
    (s.blocks.lane n).lengthCond = false → (s.blocks.lane n).memReq = none →
    status &&& 0xE0 = 0 → status.getLsbD 1 = false →
    ∃ t, exec (.frameEnd n (s.blocks.unitOf k) status) s = .next t ∧ t.port = s.port ∧ elsewhere s t
      ∧ sendsFirst s t n (.desel (s.blocks.unitOf k))
      ∧ reportedAs t k
          (if status.getLsbD 0 = true then .unitCheck
            else if (s.blocks.lane n).residual ≠ 0 then .length else .complete)
      ∧ (t.blocks.ctx k).residual = (s.blocks.lane n).residual ∧ (t.blocks.ctx k).lastStatus = some status
      ∧ ((t.blocks.ctx k).flags.lengthShort = true ↔
          (s.blocks.ctx k).flags.lengthShort = true ∨ (s.blocks.lane n).residual ≠ 0)
      ∧ otherCtxs s t k

/-- R122, R173. An END from the served unit confirms an abort for a link error: DESEL, and with no memory request
outstanding the context ends with LINK_ERROR whatever the status carries. -/
def Obligations.AnEndConfirmsTheAbort : Prop :=
  ∀ (s : State) (n : LaneId) (k : Slot) (status : Byte), receiving s n → (s.blocks.lane n).state = .aborting →
    serving s n k → (s.blocks.lane n).abortPhase = .awaiting → (s.blocks.lane n).abortCause = some .linkError →
    (s.blocks.lane n).abortFault = none → (s.blocks.lane n).memReq = none → (s.blocks.ctx k).state ≠ .free →
    status &&& 0xE0 = 0 →
    ∃ t, exec (.frameEnd n (s.blocks.unitOf k) status) s = .next t ∧ t.port = s.port ∧ elsewhere s t
      ∧ sendsFirst s t n (.desel (s.blocks.unitOf k)) ∧ reportedAs t k .linkError
      ∧ (t.blocks.ctx k).lastStatus = some status ∧ otherCtxs s t k

/-- R17, R73, R80, R82, R120, R122, R124, R138, R169, TABLE 38. In L_IDLE, L_FAULT, L_POLLING but for ATTN and L_SELECTING
but for ECHO a frame is stray: it sets STRAY_FRAME and changes nothing else. In L_ABORTING every frame but the END that
confirms is discarded. In the other states of a connection a frame from another address, or one TABLE 38 does not give for
the state, is a link error: ABORT with cause LINK_ERROR, or HALT where the halt notice stands and the lane is not closing;
staged bytes are discarded. A malformed frame is none: state, timer and contexts are as they were. At a response timeout in
L_TRANSFER a waiting memory request is withdrawn, the staging address of a read falling back by its bytes; a granted read
loses its data, a granted write keeps its half; every other staged byte is discarded. (That the status of an ACPT or END
that is a link error is recorded, that a duplicate DIN in L_PERMIT_WAIT, in L_LINK_FETCH after link-command and in L_ENDING is
one, and that a waiting frame goes out when the reception ends, are the model's readings, logs 36, 37 and 9.) -/
def Obligations.FramesOutOfPlaceAreStrayOrLinkErrors : Prop :=
  (∀ (s : State) (n : LaneId) (f : UnitFrame), receiving s n → f.wf = true → strayIn (s.blocks.lane n).state f →
      ∃ t, exec (f.command n) s = .next t ∧ t.port = s.port ∧ elsewhere s t
        ∧ t.blocks.lane n = { heard (s.blocks.lane n) with strayFrame := true } ∧ otherLanes s t n ∧ sameTables s t)
    ∧ (∀ (s : State) (n : LaneId) (k : Slot) (f : UnitFrame), receiving s n → f.wf = true →
        (s.blocks.lane n).state = .aborting → serving s n k →
        (∀ status, f = .endFrame (s.blocks.unitOf k) status → (s.blocks.lane n).abortPhase ≠ .awaiting) →
        ∃ t, exec (f.command n) s = .next t ∧ t.port = s.port ∧ elsewhere s t
          ∧ t.blocks.lane n = heard (s.blocks.lane n) ∧ otherLanes s t n ∧ sameTables s t)
    ∧ (∀ (s : State) (n : LaneId) (k : Slot) (d : Descriptor) (f : UnitFrame) (l : Lane), receiving s n → f.wf = true →
        serving s n k → l = s.blocks.lane n → l.desc = some d →
        l.state = .permitWait ∨ l.state = .commanding ∨ l.state = .transfer ∨ l.state = .linkFetch ∨ l.state = .ending →
        ¬(frameAddr f = s.blocks.unitOf k ∧ expected l d f) →
        ∃ t, exec (f.command n) s = .next t ∧ t.port = s.port
          ∧ aborts s t n k
              (if l.haltNotice = true ∧ ¬(l.state = .ending ∧ l.closing ≠ none) then .halt else .linkError)
          ∧ t.blocks.ctx k = afterStatus (s.blocks.ctx k) (s.blocks.unitOf k) f ∧ otherCtxs s t k
          ∧ (l.memReq = none → ∀ h, (t.blocks.lane n).staging.get h = []))
    ∧ (∀ (s : State) (n : LaneId) (k : Slot) (check : FrameCheck) (above16 : Bool), receiving s n → serving s n k →
        (s.blocks.lane n).haltNotice = false →
        (s.blocks.lane n).state = .transfer ∨ (s.blocks.lane n).state = .linkFetch ∨
          ((s.blocks.lane n).state = .ending ∧ ((s.blocks.lane n).closing = none ∨ (s.blocks.lane n).memReq ≠ none)) ∨
          ((s.blocks.lane n).state = .aborting ∧ (s.blocks.lane n).abortPhase = .awaiting) →
        ∃ t, exec (.frameMalformed n check above16) s = .next t ∧ t.port = s.port ∧ elsewhere s t ∧ otherLanes s t n
          ∧ (t.blocks.lane n).state = (s.blocks.lane n).state ∧ (t.blocks.lane n).timer = (s.blocks.lane n).timer
          ∧ (t.blocks.lane n).abortCause = (s.blocks.lane n).abortCause ∧ serving t n k
          ∧ t.blocks.ctxs = s.blocks.ctxs)
    ∧ ∀ (s : State) (n : LaneId) (k : Slot) (x : ResponseTimer) (m : LaneMem), (s.blocks.lane n).state = .transfer →
        serving s n k → (s.blocks.lane n).timer = some x → x.limit ≤ x.count → (s.blocks.lane n).haltNotice = false →
        (s.blocks.lane n).memReq = some m → m.discard = false → (∀ f, s.blocks.fetch = some f → f.slot ≠ k) →
        ∃ t, exec (.responseTimeout n) s = .next t ∧ t.port = s.port ∧ (t.blocks.lane n).state = .aborting
          ∧ (t.blocks.lane n).abortCause = some .linkError ∧ sends s t n (.abort (s.blocks.unitOf k))
          ∧ (t.blocks.lane n).credit = [] ∧ t.blocks.ctxs = s.blocks.ctxs ∧ otherLanes s t n
          ∧ (s.blocks.mem.laneReq n ≠ none →
              t.blocks.mem = { s.blocks.mem with laneReqs := s.blocks.mem.laneReqs.set n.val none }
                ∧ (t.blocks.lane n).memReq = none
                ∧ (t.blocks.lane n).stagingAddr =
                    (s.blocks.lane n).stagingAddr - (if m.write = true then 0 else m.len)
                ∧ ∀ h, (t.blocks.lane n).staging.get h = [])
          ∧ (s.blocks.mem.laneReq n = none →
              t.blocks.mem = s.blocks.mem
                ∧ (m.write = false → (t.blocks.lane n).memReq = some { m with discard := true }
                    ∧ ∀ h, (t.blocks.lane n).staging.get h = [])
                ∧ (m.write = true → (t.blocks.lane n).memReq = some m
                    ∧ (t.blocks.lane n).staging.get m.half = (s.blocks.lane n).staging.get m.half
                    ∧ (t.blocks.lane n).staging.get m.half.other = []))

/-- R18, R25, R107, R110, R116, R118, R119, R168, R169, R170, R172, TABLE 54. With the halt notice set: a clean ACPT, a
NEED, and a DIN within credit, which is taken first, bring ABORT with cause HALT; an ACPT with BUSY alone and a WAIT bring
DESEL and the halt list; an ACPT with CHECK or EXCEPTION and an END end the context with the class they name, HALT_REQUESTED
kept and LINK_CMD not followed; a duplicate DIN at the unit's turn changes nothing it waits for; the expiry of the timer,
and the last stop bit of the DOUT on the wire, bring the ABORT. A closing that ends runs its course: its classes, COMPLETE
in place of link-command, the halt list in place of DETACHED; here it ends with a staging read whose data is dropped. (That
the bytes of the DOUT count at its last stop bit is the model's reading, log 11.) -/
def Obligations.TheHaltNoticeDecidesTheNextFrame : Prop :=
  (∀ (s : State) (n : LaneId) (k : Slot) (status : Byte), receiving s n → haltNoticed s n k →
      (s.blocks.lane n).state = .commanding → status &&& 0xE0 = 0 →
      (status &&& 7 = 0 →
        ∃ t, exec (.frameAcpt n (s.blocks.unitOf k) status) s = .next t ∧ t.port = s.port ∧ aborts s t n k .halt
          ∧ t.blocks.ctx k = recorded (s.blocks.ctx k) status ∧ otherCtxs s t k)
      ∧ (status &&& 7 = 4 →
        ∃ t, exec (.frameAcpt n (s.blocks.unitOf k) status) s = .next t ∧ t.port = s.port ∧ elsewhere s t
          ∧ sendsFirst s t n (.desel (s.blocks.unitOf k)) ∧ (t.blocks.ctx k).state = .halting
          ∧ (t.blocks.ctx k).lastStatus = some status
          ∧ (t.blocks.lane n).haltList = (s.blocks.lane n).haltList ++ [k] ∧ otherCtxs s t k ∧ otherLanes s t n)
      ∧ (status.getLsbD 0 = true ∨ status.getLsbD 1 = true →
        ∃ t, exec (.frameAcpt n (s.blocks.unitOf k) status) s = .next t ∧ t.port = s.port ∧ elsewhere s t
          ∧ sendsFirst s t n (.desel (s.blocks.unitOf k))
          ∧ reportedAs t k (if status.getLsbD 0 = true then .unitCheck else .unitException)
          ∧ (t.blocks.ctx k).flags.haltRequested = (s.blocks.ctx k).flags.haltRequested ∧ otherCtxs s t k))
    ∧ (∀ (s : State) (n : LaneId) (k : Slot) (chunks : Nat) (d : Descriptor) (l : Lane), receiving s n →
        haltNoticed s n k → l = s.blocks.lane n → l.desc = some d → 1 ≤ chunks → chunks ≤ 8 →
        expected l d (.need (s.blocks.unitOf k) chunks) →
        ∃ t, exec (.frameNeed n (s.blocks.unitOf k) chunks) s = .next t ∧ t.port = s.port ∧ aborts s t n k .halt
          ∧ t.blocks.ctxs = s.blocks.ctxs)
    ∧ (∀ (s : State) (n : LaneId) (k : Slot) (bytes : List Byte) (d : Descriptor) (l : Lane), receiving s n →
        haltNoticed s n k → l = s.blocks.lane n → l.state = .transfer → l.desc = some d → d.dir = .inbound →
        1 ≤ bytes.length → bytes.length ≤ 16 →
        (∀ c rest, l.credit = c :: rest → bytes.length ≤ c →
          ∃ t, exec (.frameDin n (s.blocks.unitOf k) l.inToggle bytes) s = .next t ∧ t.port = s.port
            ∧ aborts s t n k .halt ∧ (t.blocks.lane n).rxResidual = l.rxResidual - bytes.length
            ∧ (t.blocks.lane n).inToggle = !l.inToggle ∧ (t.blocks.lane n).lastIn = some bytes
            ∧ (t.blocks.lane n).residual = l.residual - (if d.flags.discard = true then bytes.length else 0)
            ∧ (l.memReq = none → (t.blocks.lane n).memReq = none)
            ∧ (d.flags.note = false ∨ d.flags.discard = false → t.blocks.ctxs = s.blocks.ctxs))
        ∧ (l.lastIn = some bytes → l.timer ≠ none →
          ∃ t, exec (.frameDin n (s.blocks.unitOf k) (!l.inToggle) bytes) s = .next t ∧ t.port = s.port
            ∧ elsewhere s t ∧ (t.blocks.lane n).state = .transfer ∧ (t.blocks.lane n).timer = l.timer
            ∧ outgoing t n = outgoing s n ∧ t.blocks.ctxs = s.blocks.ctxs ∧ otherLanes s t n))
    ∧ (∀ (s : State) (n : LaneId) (k : Slot) (d : Descriptor) (l : Lane), receiving s n → haltNoticed s n k →
        l = s.blocks.lane n → l.state = .transfer → l.desc = some d → d.dir = .outbound → l.memReq = none →
        (∃ t, exec (.frameWait n (s.blocks.unitOf k)) s = .next t ∧ t.port = s.port ∧ elsewhere s t
          ∧ sendsFirst s t n (.desel (s.blocks.unitOf k)) ∧ (t.blocks.ctx k).state = .halting
          ∧ (t.blocks.ctx k).residual = l.residual ∧ (t.blocks.lane n).haltList = l.haltList ++ [k]
          ∧ otherCtxs s t k ∧ otherLanes s t n)
        ∧ ∀ (status : Byte) (link : Bool), status &&& 0xE0 = 0 → d.flags = ⟨false, link, false, false, false⟩ →
            l.lengthCond = false →
          ∃ t, exec (.frameEnd n (s.blocks.unitOf k) status) s = .next t ∧ t.port = s.port ∧ elsewhere s t
            ∧ sendsFirst s t n (.desel (s.blocks.unitOf k))
            ∧ reportedAs t k
                (if status.getLsbD 0 = true then .unitCheck else if status.getLsbD 1 = true then .unitException
                  else if l.residual ≠ 0 then .length else .complete)
            ∧ (t.blocks.ctx k).flags.haltRequested = (s.blocks.ctx k).flags.haltRequested
            ∧ (t.blocks.ctx k).residual = l.residual ∧ otherCtxs s t k)
    ∧ (∀ (s : State) (n : LaneId) (k : Slot) (x : ResponseTimer) (l : Lane), haltNoticed s n k →
        l = s.blocks.lane n → l.state = .commanding ∨ l.state = .transfer ∨ (l.state = .ending ∧ l.closing = none) →
        l.timer = some x → x.limit ≤ x.count →
        ∃ t, exec (.responseTimeout n) s = .next t ∧ t.port = s.port ∧ aborts s t n k .halt
          ∧ t.blocks.ctxs = s.blocks.ctxs)
    ∧ (∀ (s : State) (n : LaneId) (k : Slot) (u : UnitAddr) (bytes : List Byte) (rate : Fin 4) (d : Descriptor)
          (l : Lane), haltNoticed s n k → l = s.blocks.lane n → l.state = .transfer → l.desc = some d →
        d.dir = .outbound → d.flags.note = false ∨ bytes.length < l.residual →
        l.tx = some ⟨.dout u l.outToggle bytes, rate⟩ → l.txQueue = [] →
        ∃ t, exec (.frameSent n) s = .next t ∧ t.port = s.port ∧ (t.blocks.lane n).state = .aborting
          ∧ (t.blocks.lane n).abortCause = some .halt ∧ outgoing t n = [.abort (s.blocks.unitOf k)]
          ∧ (t.blocks.lane n).residual = l.residual - bytes.length ∧ (t.blocks.lane n).doutOwed = 0
          ∧ t.blocks.ctxs = s.blocks.ctxs ∧ otherLanes s t n)
    ∧ ∀ (s : State) (x : Txn) (n : LaneId) (k : Slot) (m : LaneMem) (h : Half) (d : Descriptor) (cl : Closing)
          (resps : List BusResp) (bytes : List Byte) (l : Lane), lastBurst s x → x.requester = .lane n →
        x.req.kind = .dataRead h → answers x resps bytes → burstSucceeds resps → haltNoticed s n k →
        l = s.blocks.lane n → l.state = .ending → l.desc = some d → d.dir = .outbound → l.memReq = some m →
        m.write = false → m.discard = true → l.staging.held = 0 → l.closing = some cl →
        ∃ t, exec (.memoryBurstResponse resps bytes) s = .next t ∧ t.port = s.port ∧ elsewhere s t
          ∧ sendsFirst s t n (.desel (s.blocks.unitOf k)) ∧ (t.blocks.lane n).memReq = none ∧ otherCtxs s t k
          ∧ otherLanes s t n
          ∧ (∀ c, cl = .outcome [⟨c, none⟩] → reportedAs t k c)
          ∧ (cl = .outcome [] ∨ cl = .linkCommand → reportedAs t k .complete)
          ∧ (cl = .detach → (t.blocks.ctx k).state = .halting ∧ (t.blocks.lane n).haltList = l.haltList ++ [k])
          ∧ (t.blocks.ctx k).flags.haltRequested = (s.blocks.ctx k).flags.haltRequested
          ∧ (t.blocks.ctx k).residual = l.residual

/-! ### The memory port and the fetcher -/

/-- R139. At the completion of a transaction the port decides: with nothing waiting it is idle; the fetcher is granted when
no lane waits or the lane-grant counter is 4, which sets the counter to 0 and keeps the rotation pointer; otherwise the
first waiting lane from the rotation pointer on is granted, the pointer becomes the lane after it, and the counter rises
when the fetcher waits and is 0 when it does not. The completion taken is that of a discarded transaction of a lane in
L_IDLE. -/
def Obligations.ThePortGrantsTheLanesInRotationAndTheFetcherAfterFour : Prop :=
  ∀ (s : State) (x : Txn) (n : LaneId) (resps : List BusResp) (bytes : List Byte) (m : MemPort), m = s.blocks.mem →
    m.inflight = some x → x.requester = .lane n → x.discard = true → answers x resps bytes →
    (s.blocks.lane n).state = .idle →
    ∃ t, exec (.memoryBurstResponse resps bytes) s = .next t ∧ t.port = s.port ∧ elsewhere s t ∧ otherLanes s t n
      ∧ t.blocks.lane n = { s.blocks.lane n with memReq := none } ∧ t.blocks.ctxs = s.blocks.ctxs
      ∧ t.blocks.fetch = s.blocks.fetch ∧ t.blocks.reports = s.blocks.reports
      ∧ (m.fetchReq = none → (∀ j, m.laneReq j = none) → t.blocks.mem = { m with inflight := none })
      ∧ (∀ r, m.fetchReq = some r → r.kind = .descriptor → m.grants = 4 ∨ (∀ j, m.laneReq j = none) →
          t.blocks.mem = { m with
            fetchReq := none, grants := 0
            inflight := some ⟨.fetcher, r, [], ⟨r.addr, 2, 8, 16⟩, [], false, false⟩ })
      ∧ ∀ (i : LaneId) (q : MemReq), m.laneReq i = some q → m.fetchReq = none ∨ m.grants < 4 →
          (∀ j, m.laneReq j ≠ none → (i - m.rotation).val ≤ (j - m.rotation).val) → q.kind ≠ .descriptor → 1 ≤ q.len →
          ∃ y, t.blocks.mem = { m with
              laneReqs := m.laneReqs.set i.val none, rotation := i + 1
              grants := if m.fetchReq = none then 0 else m.grants + 1, inflight := some y }
            ∧ y.requester = .lane i ∧ y.req = q ∧ y.burst :: y.toIssue = q.bursts ∧ y.error = false ∧ y.discard = false
            ∧ ∀ h, q.kind = .dataWrite h → y.buffer = ((s.blocks.lane i).staging.get h).take q.len

/-- R111, R113, R121, R143. A burst that succeeds with bursts still to issue and no discard mark is followed by the next; an
error completes the transaction at once, and that of a lane in L_TRANSFER brings ABORT with DATA_FAULT and READ_ERROR. A
staging write that succeeds in L_TRANSFER empties its half, lowers the written residual and advances the data address by its
bytes, keeps the other half, and asks for the other half's write when that is due; when the written residual reaches 0 with
LINK_DATA the lane enters L_LINK_FETCH and the fetch after the chain address begins. One that fails empties the staging,
counts nothing, and brings ABORT with DATA_FAULT and WRITE_ERROR. (That the cause is DATA_FAULT also with the halt notice
set is the model's reading, log 27.) -/
def Obligations.DataBurstsAreFollowedCountedOrEndInAbort : Prop :=
  (∀ (s : State) (x : Txn) (b : Burst) (rest : List Burst) (half : Half) (resps : List BusResp) (bytes : List Byte),
    s.blocks.mem.inflight = some x → x.req.kind = .dataRead half → x.toIssue = b :: rest →
    resps.length = x.burst.beats → bytes.length = x.burst.bytes → x.error = false → x.discard = false →
    ((∀ p ∈ resps, p = .okay ∨ p = .exokay) →
      ∃ t, exec (.memoryBurstResponse resps bytes) s = .next t ∧ t.port = s.port ∧ elsewhere s t
        ∧ t.blocks.mem = { s.blocks.mem with
            inflight := some { x with burst := b, toIssue := rest, buffer := x.buffer ++ bytes } }
        ∧ t.blocks.lanes = s.blocks.lanes ∧ t.blocks.ctxs = s.blocks.ctxs)
    ∧ ∀ n m, (∃ p ∈ resps, p = .slverr ∨ p = .decerr) → x.requester = .lane n →
        (s.blocks.lane n).memReq = some m → m.write = false → (s.blocks.lane n).state = .transfer →
      ∃ t, exec (.memoryBurstResponse resps bytes) s = .next t ∧ (t.blocks.lane n).state = .aborting
        ∧ (t.blocks.lane n).abortCause = some (.dataFault .readError) ∧ (t.blocks.lane n).staging = .empty
        ∧ sends s t n (.abort (s.blocks.servedUnit n)) ∧ (t.blocks.lane n).memReq = none)
    ∧ ∀ (s : State) (x : Txn) (n : LaneId) (k : Slot) (h : Half) (m : LaneMem) (d : Descriptor) (resps : List BusResp),
    lastBurst s x → x.requester = .lane n → x.req.kind = .dataWrite h → answers x resps [] →
    (s.blocks.lane n).memReq = some m → m.write = true → m.half = h → (s.blocks.lane n).state = .transfer →
    serving s n k → (s.blocks.lane n).desc = some d → d.dir = .inbound → (s.blocks.lane n).closing = none →
    (burstSucceeds resps → d.flags.note = false ∨ (s.blocks.lane n).residual ≠ m.len →
        d.flags.linkData = false ∨ (s.blocks.lane n).residual ≠ m.len → m.len ≤ (s.blocks.lane n).residual →
      ∃ t, exec (.memoryBurstResponse resps []) s = .next t ∧ t.port = s.port ∧ elsewhere s t ∧ otherLanes s t n
        ∧ t.blocks.ctxs = s.blocks.ctxs ∧ (t.blocks.lane n).state = .transfer
        ∧ (t.blocks.lane n).residual = (s.blocks.lane n).residual - m.len
        ∧ (t.blocks.lane n).dataAddr = (s.blocks.lane n).dataAddr + m.len
        ∧ (t.blocks.lane n).rxResidual = (s.blocks.lane n).rxResidual
        ∧ (t.blocks.lane n).staging.get h = []
        ∧ (t.blocks.lane n).staging.get h.other = (s.blocks.lane n).staging.get h.other
        ∧ (t.blocks.lane n).memReq =
            (if (s.blocks.lane n).staging.get h.other ≠ [] ∧
                (64 ≤ ((s.blocks.lane n).staging.get h.other).length ∨ (s.blocks.lane n).rxResidual = 0) then
              some ⟨true, h.other, ((s.blocks.lane n).staging.get h.other).length, false⟩
            else none))
    ∧ (burstSucceeds resps → d.flags.note = false → d.flags.linkData = true → (s.blocks.lane n).residual = m.len →
        s.blocks.fetch = none → s.blocks.fetchQ = [] →
      ∃ t, exec (.memoryBurstResponse resps []) s = .next t ∧ t.port = s.port ∧ elsewhere s t ∧ otherLanes s t n
        ∧ t.blocks.ctxs = s.blocks.ctxs ∧ (t.blocks.lane n).state = .linkFetch ∧ (t.blocks.lane n).timer = none
        ∧ (t.blocks.lane n).residual = 0 ∧ (t.blocks.lane n).memReq = none ∧ outgoing t n = outgoing s n
        ∧ t.blocks.fetch = some ⟨k, .link, (s.blocks.ctx k).chainAddr + 16, 0, false⟩)
    ∧ (burstErrs resps →
      ∃ t, exec (.memoryBurstResponse resps []) s = .next t ∧ t.port = s.port ∧ otherLanes s t n
        ∧ t.blocks.ctxs = s.blocks.ctxs ∧ (t.blocks.lane n).state = .aborting
        ∧ (t.blocks.lane n).abortCause = some (.dataFault .writeError) ∧ sends s t n (.abort (s.blocks.unitOf k))
        ∧ (t.blocks.lane n).residual = (s.blocks.lane n).residual
        ∧ (t.blocks.lane n).dataAddr = (s.blocks.lane n).dataAddr ∧ (t.blocks.lane n).credit = []
        ∧ (t.blocks.lane n).memReq = none ∧ ∀ h, (t.blocks.lane n).staging.get h = [])

/-- R12, R56, R58, R69, R183, TABLE 19, TABLE 64, TABLE 65. A descriptor read that returns a valid TRANSFER for a LOADING
context, no other entry in the fetch queue: READY with the descriptor in effect, at the tail of the lane's ready queue. The
sixteen bytes of a TRANSFER that pass the checks are read as its direction, code, flags, count and address, those of a JUMP
as a JUMP to their address, and bytes that fail a check as no descriptor. A JUMP read with a jump run below 4 raises the
run, and the same fetch reads its target. -/
def Obligations.AFetchDeliversATransferAndFollowsAJump : Prop :=
  (∀ (s : State) (x : Txn) (f : Fetch) (d : Descriptor) (bytes : List Byte), s.blocks.mem.inflight = some x →
      x.requester = .fetcher → x.req.kind = .descriptor → x.toIssue = [] → x.buffer = [] → x.error = false →
      x.discard = false → x.burst.beats = 2 → x.burst.bytes = 16 → bytes.length = 16 → s.blocks.fetch = some f →
      f.discard = false → f.cls = .start → s.blocks.fetchQ = [] → readDescriptor f.addr bytes = some (.transfer d) →
      (s.blocks.ctx f.slot).state = .loading → (s.blocks.ctx f.slot).haltCause = none →
      ∃ t, exec (.memoryBurstResponse [.okay, .okay] bytes) s = .next t ∧ t.port = s.port ∧ elsewhere s t
        ∧ t.blocks.ctx f.slot = { s.blocks.ctx f.slot with
            state := .ready, desc := some d, residual := d.count, dataAddr := d.addr, chainAddr := f.addr
            lengthCond := false }
        ∧ (t.blocks.lane (s.blocks.laneOf f.slot)).readyQ =
            (s.blocks.lane (s.blocks.laneOf f.slot)).readyQ ++ [f.slot]
        ∧ otherCtxs s t f.slot ∧ otherLanes s t (s.blocks.laneOf f.slot) ∧ t.blocks.fetch = none)
    ∧ (∀ (at_ : Addr48) (kind dir code flags c0 c1 s0 s1 a0 a1 a2 a3 a4 a5 u0 u1 : Byte) (count addr : Nat)
          (bytes : List Byte), bytes = [kind, dir, code, flags, c0, c1, s0, s1, a0, a1, a2, a3, a4, a5, u0, u1] →
        count = c0.toNat + 256 * c1.toNat → addr = le6 a0 a1 a2 a3 a4 a5 →
        (kind = 1 → s0 = 0 → s1 = 0 → u0 = 0 → u1 = 0 → validTransfer at_ dir flags count addr →
          ∃ d, readDescriptor at_ bytes = some (.transfer d) ∧ (d.dir = .noData ↔ dir = 0) ∧ (d.dir = .outbound ↔ dir = 1)
            ∧ (d.dir = .inbound ↔ dir = 2) ∧ d.code = code ∧ d.flags.linkData = flags.getLsbD 0
            ∧ d.flags.linkCmd = flags.getLsbD 1 ∧ d.flags.note = flags.getLsbD 2
            ∧ d.flags.noLengthCheck = flags.getLsbD 3 ∧ d.flags.discard = flags.getLsbD 4 ∧ d.count = count
            ∧ d.addr = addr)
        ∧ ((kind ≠ 1 ∧ kind ≠ 2) ∨ s0 ≠ 0 ∨ s1 ≠ 0 ∨ u0 ≠ 0 ∨ u1 ≠ 0
              ∨ (kind = 1 ∧ ¬validTransfer at_ dir flags count addr)
              ∨ (kind = 2 ∧ ¬(dir = 0 ∧ code = 0 ∧ flags = 0 ∧ count = 0 ∧ addr % 16 = 0)) →
            readDescriptor at_ bytes = none))
    ∧ (∀ (at_ : Addr48) (a0 a1 a2 a3 a4 a5 : Byte), a0.toNat % 16 = 0 →
        ∃ target : Addr48, readDescriptor at_ [2, 0, 0, 0, 0, 0, 0, 0, a0, a1, a2, a3, a4, a5, 0, 0] = some (.jump target)
          ∧ target.toNat = le6 a0 a1 a2 a3 a4 a5)
    ∧ ∀ (s : State) (f : Fetch) (target : Addr48) (resps : List BusResp) (bytes : List Byte), descriptorRead s f →
        s.blocks.mem.fetchReq = none → (∀ j, s.blocks.mem.laneReq j = none) → resps.length = 2 → bytes.length = 16 →
        burstSucceeds resps → readDescriptor f.addr bytes = some (.jump target) → f.run < 4 →
        ∃ t, exec (.memoryBurstResponse resps bytes) s = .next t ∧ t.port = s.port ∧ elsewhere s t
          ∧ descriptorRead t { f with addr := target, run := f.run + 1 } ∧ t.blocks.ctxs = s.blocks.ctxs
          ∧ t.blocks.lanes = s.blocks.lanes

/-- R13, R60, R104, R113, R114, R116. In L_LINK_FETCH after link-data a TRANSFER of the same direction becomes the
descriptor in effect of record and lane, the toggles kept, and the lane is in L_TRANSFER: for OUT it asks for the first
staging read, for IN it sends GRANT. With a detach pending the context detaches with the new descriptor's whole count. After
link-command the lane joins the permit queue for a TRANSFER of any direction. (That the length condition is cleared is the
model's reading, log 16.) -/
def Obligations.ALinkDeliveryContinuesTheConnection : Prop :=
  ∀ (s : State) (n : LaneId) (k : Slot) (f : Fetch) (d e : Descriptor) (resps : List BusResp) (bytes : List Byte),
    linking s n k f d → resps.length = 2 → bytes.length = 16 → burstSucceeds resps →
    readDescriptor f.addr bytes = some (.transfer e) →
    (d.flags.linkData = true → e.dir = d.dir → (s.blocks.lane n).closing = none → (s.blocks.lane n).staging = .empty →
        (s.blocks.lane n).memReq = none →
      ∃ t, exec (.memoryBurstResponse resps bytes) s = .next t ∧ t.port = s.port ∧ elsewhere s t ∧ otherLanes s t n
        ∧ otherCtxs s t k ∧ t.blocks.fetch = none
        ∧ t.blocks.ctx k = { s.blocks.ctx k with
            desc := some e, residual := e.count, dataAddr := e.addr, chainAddr := f.addr, lengthCond := false }
        ∧ (t.blocks.lane n).state = .transfer ∧ (t.blocks.lane n).desc = some e
        ∧ (t.blocks.lane n).residual = e.count ∧ (t.blocks.lane n).rxResidual = e.count
        ∧ (t.blocks.lane n).dataAddr = e.addr ∧ (t.blocks.lane n).lengthCond = false
        ∧ (t.blocks.lane n).notePosted = false ∧ (t.blocks.lane n).outToggle = (s.blocks.lane n).outToggle
        ∧ (t.blocks.lane n).inToggle = (s.blocks.lane n).inToggle ∧ (t.blocks.lane n).lastIn = (s.blocks.lane n).lastIn
        ∧ (e.dir = .outbound → (t.blocks.lane n).memReq = some ⟨false, .h0, min 64 e.count, false⟩
            ∧ (t.blocks.lane n).stagingAddr = e.addr + min 64 e.count ∧ outgoing t n = outgoing s n)
        ∧ (e.dir = .inbound → (s.blocks.lane n).credit = [] → (s.blocks.lane n).tx = none →
            (s.blocks.lane n).rx.isAssembling = false → (s.blocks.lane n).haltNotice = false →
            ∀ chunks tail, chunks = min 8 ((e.count + 15) / 16) → tail = min 16 (e.count - 16 * (chunks - 1)) →
              sends s t n (.grant (s.blocks.unitOf k) chunks tail)
                ∧ (t.blocks.lane n).credit = List.replicate (chunks - 1) 16 ++ [tail]))
    ∧ (d.flags.linkData = true → e.dir = d.dir → d.dir ≠ .noData → (s.blocks.lane n).closing = some .detach →
        (s.blocks.lane n).staging = .empty → (s.blocks.lane n).memReq = none →
      ∃ t, exec (.memoryBurstResponse resps bytes) s = .next t ∧ t.port = s.port ∧ elsewhere s t ∧ otherLanes s t n
        ∧ otherCtxs s t k ∧ sendsFirst s t n (.desel (s.blocks.unitOf k)) ∧ (t.blocks.ctx k).state = .detached
        ∧ (t.blocks.ctx k).awaiting = some .resume ∧ (t.blocks.ctx k).desc = some e
        ∧ (t.blocks.ctx k).residual = e.count ∧ (t.blocks.ctx k).dataAddr = e.addr
        ∧ (t.blocks.ctx k).chainAddr = f.addr)
    ∧ (d.flags.linkData = false → (s.blocks.lane n).closing = none →
        s.blocks.window.startLimit ≤ s.blocks.window.youngCount →
      ∃ t, exec (.memoryBurstResponse resps bytes) s = .next t ∧ t.port = s.port ∧ otherLanes s t n ∧ otherCtxs s t k
        ∧ t.blocks.ctx k = { s.blocks.ctx k with
            desc := some e, residual := e.count, dataAddr := e.addr, chainAddr := f.addr, lengthCond := false }
        ∧ (t.blocks.lane n).state = .permitWait ∧ (t.blocks.lane n).desc = some e
        ∧ (t.blocks.lane n).residual = e.count
        ∧ t.blocks.window = { s.blocks.window with permits := s.blocks.window.permits ++ [n] })

/-- R14, R60, R69, R71, R114. A chain fault, by an error response, a descriptor that fails its checks, a JUMP at a jump run
of 4, or a change of direction after LINK_DATA, makes the address at fault the chain address. A LOADING context ends with
CHAIN_FAULT and the reason, or with HALTED where a halt was taken. After link-data, also with a detach pending, the lane
sends ABORT and enters L_ABORTING with the fault's reason, the record otherwise as it was; after link-command it sends DESEL
and the context ends with CHAIN_FAULT and the reason. -/
def Obligations.AChainFaultEndsTheFetchByTheContextsState : Prop :=
  (∀ (s : State) (f : Fetch) (reason : Reason) (resps : List BusResp) (bytes : List Byte), descriptorRead s f →
      resps.length = 2 → bytes.length = 16 → faults f none resps bytes reason → (s.blocks.ctx f.slot).state = .loading →
      ∃ t rep, exec (.memoryBurstResponse resps bytes) s = .next t ∧ t.port = s.port ∧ elsewhere s t
        ∧ t.blocks.fetch = none ∧ otherCtxs s t f.slot ∧ (t.blocks.ctx f.slot).chainAddr = f.addr
        ∧ (t.blocks.ctx f.slot).desc = (s.blocks.ctx f.slot).desc
        ∧ (t.blocks.ctx f.slot).final = some rep ∧ rep.descAddr = f.addr
        ∧ ((s.blocks.ctx f.slot).haltCause = none → reportedAs t f.slot .chainFault ∧ rep.reason = some reason)
        ∧ ((s.blocks.ctx f.slot).haltCause = some .requested → reportedAs t f.slot .halted ∧ rep.reason = none))
    ∧ ∀ (s : State) (n : LaneId) (k : Slot) (f : Fetch) (d : Descriptor) (reason : Reason) (resps : List BusResp)
        (bytes : List Byte), linking s n k f d → resps.length = 2 → bytes.length = 16 →
        faults f (some d) resps bytes reason →
        (d.flags.linkData = true →
          ∃ t, exec (.memoryBurstResponse resps bytes) s = .next t ∧ t.port = s.port ∧ otherLanes s t n ∧ otherCtxs s t k
            ∧ t.blocks.ctx k = { s.blocks.ctx k with chainAddr := f.addr } ∧ (t.blocks.lane n).state = .aborting
            ∧ (t.blocks.lane n).abortCause = some (.chainFault reason) ∧ sends s t n (.abort (s.blocks.unitOf k))
            ∧ t.blocks.fetch = none)
        ∧ (d.flags.linkData = false →
          ∃ t rep, exec (.memoryBurstResponse resps bytes) s = .next t ∧ t.port = s.port ∧ elsewhere s t ∧ otherLanes s t n
            ∧ otherCtxs s t k ∧ sendsFirst s t n (.desel (s.blocks.unitOf k)) ∧ reportedAs t k .chainFault
            ∧ (t.blocks.ctx k).final = some rep ∧ rep.reason = some reason ∧ rep.descAddr = f.addr
            ∧ rep.residual = (s.blocks.lane n).residual ∧ t.blocks.fetch = none)

/-- R141, R142. The bursts of a data read are one to four, in address order: the first begins at the range's first byte,
each begins where the one before ends, the last ends at the range's end; each is of 1-byte beats within an aligned word or
of 8-byte beats on aligned words, and none crosses a 4096-byte boundary. Those of a data write are one or two, of 8-byte
beats, over every aligned word the range touches, cut at a 4096-byte boundary and nowhere else; a beat strobes exactly the
byte lanes whose address lies within the range, each with its byte of the buffer. -/
def Obligations.BurstsMoveExactlyTheRange : Prop :=
  (∀ a n : Nat, 1 ≤ n → n ≤ 64 →
      1 ≤ (readBursts a n).length ∧ (readBursts a n).length ≤ 4
        ∧ (∃ first last, (readBursts a n).head? = some first ∧ first.addr = a
            ∧ (readBursts a n).getLast? = some last ∧ last.addr + last.beats * last.size = a + n)
        ∧ (∀ i b c, (readBursts a n)[i]? = some b → (readBursts a n)[i + 1]? = some c →
            c.addr = b.addr + b.beats * b.size)
        ∧ ∀ b ∈ readBursts a n, 1 ≤ b.beats ∧ b.bytes = b.beats * b.size
            ∧ b.addr / 4096 = (b.addr + b.beats * b.size - 1) / 4096
            ∧ ((b.size = 8 ∧ b.addr % 8 = 0) ∨ (b.size = 1 ∧ b.addr / 8 = (b.addr + b.beats - 1) / 8)))
    ∧ (∀ a n : Nat, 1 ≤ n → n ≤ 64 →
        1 ≤ (writeBursts a n).length ∧ (writeBursts a n).length ≤ 2
          ∧ (∃ first last, (writeBursts a n).head? = some first ∧ first.addr = a / 8 * 8
              ∧ (writeBursts a n).getLast? = some last ∧ last.addr + last.beats * 8 = (a + n + 7) / 8 * 8)
          ∧ (∀ i b c, (writeBursts a n)[i]? = some b → (writeBursts a n)[i + 1]? = some c →
              c.addr = b.addr + b.beats * 8 ∧ c.addr % 4096 = 0)
          ∧ ∀ b ∈ writeBursts a n, b.size = 8 ∧ 1 ≤ b.beats ∧ b.beats ≤ 9
              ∧ b.addr / 4096 = (b.addr + b.beats * 8 - 1) / 4096)
    ∧ (∀ (a w i : Nat) (buffer : List Byte), i < 8 →
        (writeBeat a buffer w)[i]? =
          some (if a ≤ w + i ∧ w + i < a + buffer.length then buffer[w + i - a]? else none))

/-! ### Reports -/

/-- R152. The class chosen is one the ending names, none that it names stands before it in the rule's list of eleven
classes, and it is COMPLETE when none is named. -/
def Obligations.TheClassChosenIsTheFirstOfThePrecedence : Prop :=
  chooseClass [] = ⟨.complete, none⟩
    ∧ ∀ (n : Named) (rest : List Named) (order : List ReportClass),
        order = [.laneReset, .timeout, .halted, .dataFault, .chainFault, .linkError, .noUnit, .unitCheck, .unitException,
          .length, .complete] →
        chooseClass (n :: rest) ∈ n :: rest
          ∧ ∀ m ∈ n :: rest, order.idxOf (chooseClass (n :: rest)).cls ≤ order.idxOf m.cls

/-- R7, R8, R156, R157, R158. A note posted at the last DOUT of a descriptor: the pending note is count 1 at the chain
address with a NOTE entry at the tail, or its count rises, holding at 255, its address follows, and the queue is as it was.
A final report posted at an END converts the slot's NOTE entry in its place and takes the note's count and address, or joins
at the tail with note count 0. RESET_LANE converts in place and appends the others in ascending order of slot. (That the
bytes of the DOUT count at its last stop bit is the model's reading, log 11.) -/
def Obligations.NotesMergeAndFinalReportsKeepTheirPlaces : Prop :=
  (∀ (s : State) (n : LaneId) (k : Slot) (u : UnitAddr) (bytes : List Byte) (rate : Fin 4) (d : Descriptor) (c : Context),
      (s.blocks.lane n).tx = some ⟨.dout u (s.blocks.lane n).outToggle bytes, rate⟩ →
      (s.blocks.lane n).state = .transfer → serving s n k → (s.blocks.lane n).desc = some d → d.flags.note = true →
      d.flags.linkData = false → (s.blocks.lane n).notePosted = false → (s.blocks.lane n).haltNotice = false →
      (s.blocks.lane n).heldNeed = none → (s.blocks.lane n).residual = bytes.length → (s.blocks.lane n).doutOwed = 1 →
      c = s.blocks.ctx k → c.state = .connected →
      ∃ t note, exec (.frameSent n) s = .next t ∧ t.port = s.port ∧ elsewhere s t ∧ otherLanes s t n ∧ otherCtxs s t k
        ∧ t.blocks.ctx k = { c with
            desc := some d, residual := 0, dataAddr := (s.blocks.lane n).dataAddr + bytes.length
            lengthCond := (s.blocks.lane n).lengthCond, note := some note }
        ∧ (t.blocks.lane n).notePosted = true ∧ note.addr = c.chainAddr
        ∧ (c.note = none → note.count = 1 ∧ t.blocks.reports.queue = s.blocks.reports.queue ++ [⟨k, .note⟩])
        ∧ ∀ old, c.note = some old →
            note.count = min 255 (old.count + 1) ∧ t.blocks.reports.queue = s.blocks.reports.queue)
    ∧ (∀ (s : State) (n : LaneId) (k : Slot) (status : Byte) (d : Descriptor), receiving s n →
        (s.blocks.lane n).state = .transfer → serving s n k → (s.blocks.lane n).desc = some d → d.dir = .outbound →
        d.flags = ⟨false, false, false, false, false⟩ → (s.blocks.ctx k).state = .connected →
        (s.blocks.lane n).memReq = none → status &&& 0xE0 = 0 →
        ∃ t rep, exec (.frameEnd n (s.blocks.unitOf k) status) s = .next t ∧ (t.blocks.ctx k).final = some rep
          ∧ (t.blocks.ctx k).note = none
          ∧ (∀ q0 q1, s.blocks.reports.queue = q0 ++ ⟨k, .note⟩ :: q1 → (∀ e ∈ q0 ++ q1, e.slot ≠ k) →
              t.blocks.reports.queue = q0 ++ ⟨k, .final⟩ :: q1)
          ∧ ((∀ e ∈ s.blocks.reports.queue, e.slot ≠ k) →
              t.blocks.reports.queue = s.blocks.reports.queue ++ [⟨k, .final⟩])
          ∧ (∀ note, (s.blocks.ctx k).note = some note → rep.noteCount = note.count ∧ rep.noteAddr = some note.addr)
          ∧ ((s.blocks.ctx k).note = none → rep.noteCount = 0 ∧ rep.noteAddr = none))
    ∧ ∀ (s : State) (r : Request) (rest : List Request) (ended : Slot → Bool), taken s r rest .resetLane →
        (s.blocks.lane r.lane).state ≠ .disabled →
        (∀ k, ended k = (s.blocks.onLane k r.lane && (s.blocks.ctx k).state.finalised)) →
        (∀ k, serving s r.lane k → ended k = true) →
        ∃ t, exec .resetLane s = .next t
          ∧ t.blocks.reports.queue =
              s.blocks.reports.queue.map (fun e => if ended e.slot = true then ⟨e.slot, .final⟩ else e)
                ++ ((List.finRange 40).filter (fun k =>
                      ended k && s.blocks.reports.queue.all (fun e => e.slot != k))).map (fun k => ⟨k, .final⟩)

/-- R155, R160, R182, TABLE 62, TABLE 63. ATW0 to ATW5 show the report of the queue's head, field by field at its bits: that
of a FINAL entry from the final report, that of a NOTE entry from the record and its pending note; for an empty queue the
update count alone. -/
def Obligations.TheAttentionWordsShowTheHeadReport : Prop :=
  ∀ (s : State) (up : Nat), s.port.pstat = .ready → up = s.blocks.reports.update.toNat →
    (s.blocks.reports.queue = [] →
      (s.readRegister 0x28).toNat = 2 ^ 24 * up ∧ s.readRegister 0x2C = 0 ∧ s.readRegister 0x30 = 0
        ∧ s.readRegister 0x34 = 0 ∧ s.readRegister 0x38 = 0 ∧ s.readRegister 0x3C = 0)
    ∧ (∀ k q x note, s.blocks.reports.queue = ⟨k, .note⟩ :: q → (s.blocks.ctx k).binding = some x →
        (s.blocks.ctx k).note = some note → note.count < 256 →
        (s.readRegister 0x28).toNat =
            k.val + 2 ^ 6 * x.lane.val + 2 ^ 8 * x.unit.val + 2 ^ 13 * 1 + 2 ^ 15 + 2 ^ 24 * up
          ∧ s.readRegister 0x2C = x.cookie ∧ (s.readRegister 0x30).toNat = 2 ^ 24 * note.count
          ∧ (s.readRegister 0x34).toNat = note.addr.toNat / 2 ^ 4 % 2 ^ 32
          ∧ (s.readRegister 0x38).toNat = note.addr.toNat / 2 ^ 36 + 2 ^ 18 * (note.addr.toNat / 2 ^ 36)
          ∧ (s.readRegister 0x3C).toNat = note.addr.toNat / 2 ^ 4 % 2 ^ 32)
    ∧ ∀ k q rep, s.blocks.reports.queue = ⟨k, .final⟩ :: q → (s.blocks.ctx k).final = some rep → rep.residual < 65536 →
        rep.noteCount < 256 →
        ∀ (cls reason : Nat) (noteAddr : Addr48),
          [.complete, .unitCheck, .unitException, .length, .halted, .timeout, .noUnit, .linkError, .chainFault, .dataFault,
            .laneReset, .unitAttention][cls - 1]? = some rep.cls → 1 ≤ cls →
          [none, some .badDescriptor, some .jumpLoop, some .fetchError, some .directionChange, some .readError,
            some .writeError][reason]? = some rep.reason →
          noteAddr = rep.noteAddr.getD 0 →
          (s.readRegister 0x28).toNat =
              rep.slot.val + 2 ^ 6 * rep.lane.val + 2 ^ 8 * rep.unit.val + 2 ^ 13 * 2 + 2 ^ 15 + 2 ^ 16 * cls
                + 2 ^ 20 * reason + 2 ^ 23 * (if rep.status = none then 0 else 1) + 2 ^ 24 * up
            ∧ s.readRegister 0x2C = rep.cookie
            ∧ (s.readRegister 0x30).toNat =
                rep.residual + 2 ^ 16 * (rep.status.getD 0).toNat + 2 ^ 24 * rep.noteCount
            ∧ (s.readRegister 0x34).toNat = rep.descAddr.toNat / 2 ^ 4 % 2 ^ 32
            ∧ (s.readRegister 0x38).toNat =
                rep.descAddr.toNat / 2 ^ 36 + 2 ^ 12 * rep.flags.deferredAttention.toNat
                  + 2 ^ 13 * rep.flags.haltRequested.toNat + 2 ^ 14 * rep.flags.lengthShort.toNat
                  + 2 ^ 15 * rep.flags.lengthLong.toNat + 2 ^ 16 * rep.flags.abortUnconfirmed.toNat
                  + 2 ^ 17 * rep.flags.unitMore.toNat + 2 ^ 18 * (noteAddr.toNat / 2 ^ 36)
            ∧ (s.readRegister 0x3C).toNat = noteAddr.toNat / 2 ^ 4 % 2 ^ 32

/-- R161. The update count rises by one at each event that changes what the attention slot shows, once however many entries
the event posts, and at no other event; the resets set it to 0. (That a change is told by comparing the content shown, and
that the soft reset's values are taken at the write to PRST, are the model's readings, logs 7 and 26.) -/
def Obligations.TheUpdateCountFollowsTheAttentionSlot : Prop :=
  (∀ (c : Instr) (s t : State), c ≠ .pinReset → c ≠ .softResetComplete → (∀ v st, c ≠ .prstWrite v st) →
      (∀ o v st, c = .registerWrite o v st → o.toNat / 4 ≠ 19) → exec c s = .next t →
      t.blocks.reports.update =
        if t.blocks.shown = s.blocks.shown then s.blocks.reports.update else s.blocks.reports.update + 1)
    ∧ (∀ s t : State, exec .pinReset s = .next t → t.blocks.reports.update = 0)
    ∧ ∀ (s t : State) (v : Word) (st : BitVec 4), writable s st → exec (.prstWrite v st) s = .next t →
        t.blocks.reports.update = 0

/-! ### Frames on the pair -/

/-- R74, R75, R76, TABLE 24. LnDE is asserted exactly while a frame or the space of a BREAK is sent. Around a frame of L
characters LnTXD is at mark for a bit time; each character is a start bit at space, eight data bits, least significant
first, and a stop bit at mark, one character after the other. In the space of a BREAK LnTXD is at space, at any other time
at mark, after the resets too. Ten such levels read back as the byte. The bit times are 1000, 500, 250 and 125 ns, and the
characters of a frame last 40 us for 4 bytes at code 0, and so for each row and rate. (The driven bit time of mark after a
BREAK's space is below the tick: log 25.) -/
def Obligations.TheDriverAndTheLevelsOfThePair : Prop :=
  (∀ l : Lane, l.driverEnable = true ↔ l.tx ≠ none ∨ ∃ left, l.brk = some ⟨.space, left⟩)
    ∧ (∀ (l : Lane) (k : Nat), l.tx = none →
        ((∃ left, l.brk = some ⟨.space, left⟩) → l.txd k = .space)
          ∧ ((∀ left, l.brk ≠ some ⟨.space, left⟩) → l.txd k = .mark))
    ∧ (∀ (l : Lane) (x : Tx), l.tx = some x →
        l.txd 0 = .mark ∧ l.txd (1 + 10 * x.frame.bytes.length) = .mark
          ∧ ∀ i b, x.frame.bytes[i]? = some b →
              l.txd (1 + 10 * i) = .space ∧ l.txd (1 + 10 * i + 9) = .mark
                ∧ ∀ j, j < 8 → l.txd (1 + 10 * i + 1 + j) = if b.getLsbD j = true then .mark else .space)
    ∧ (∀ b : Byte, charOf (charLevels b) = some b)
    ∧ (∀ (s t : State) (n : LaneId) (k : Nat),
        exec .pinReset s = .next t ∨ (∃ v st, writable s st ∧ exec (.prstWrite v st) s = .next t) →
        (t.blocks.lane n).driverEnable = false ∧ (t.blocks.lane n).txd k = .mark)
    ∧ [0, 1, 2, 3].map bitTimeNs = [1000, 500, 250, 125]
    ∧ [4, 5, 6, 8, 20].map (fun bytes => [0, 1, 2, 3].map (fun code => frameTimeNs code bytes)) =
        [[40000, 20000, 10000, 5000], [50000, 25000, 12500, 6250], [60000, 30000, 15000, 7500],
          [80000, 40000, 20000, 10000], [200000, 100000, 50000, 25000]]

/-- R80, 10.6. The two check values of the CRC, the SEL of unit 9, and the CRC of a whole frame. -/
def Obligations.CrcCheckValues : Prop :=
  crc8 [0x31, 0x32, 0x33, 0x34, 0x35, 0x36, 0x37, 0x38, 0x39] = 0xF4 ∧ crc8 [0x01] = 0x07
    ∧ (PartFrame.sel 9).bytes = [0x02, 0x09, 0x00, 0x6B]
    ∧ ∀ (kind addr : Byte) (payload : List Byte), crc8 (frameBytes kind addr payload) = 0

/-- R79, R80, R184. Every frame a unit can form, sent as bytes and received without error, is taken as that frame, with
every operand at every value its format admits. -/
def Obligations.EveryUnitFrameIsReceivedAsSent : Prop :=
  ∀ f : UnitFrame, f.wf = true → receiveChars (f.bytes.map some) = .taken f

/-! ### Invariants -/

/-- R33, R51, R54, R127. Every step keeps the bounds of the request port, no FIFO above 8 entries, no enable without a
cause, a divider of 1 to 255, and those of the start window, at most 8 records, no age above 65535, no age above that of an
older record. -/
def Obligations.EveryStepKeepsThePortAndWindowBounds : Prop :=
  ∀ s t : State, step s = .next t →
    (s.port.sound → t.port.sound) ∧ (s.blocks.window.sound → t.blocks.window.sound)

/-- R3. Every step keeps the unit index sound: an entry names a slot exactly when that slot is not FREE and its record names
the entry's lane and unit. -/
def Obligations.EveryStepKeepsTheUnitIndexSound : Prop :=
  ∀ s t : State, s.blocks.indexSound → step s = .next t → t.blocks.indexSound

/-- R8, R149. Every step keeps the report queue and the records in agreement: at most one entry per slot, a FINAL entry
exactly for a REPORTED context and exactly for one with a final report, a NOTE entry exactly for one with a pending note. -/
def Obligations.EveryStepKeepsTheReportsSound : Prop :=
  ∀ s t : State, s.blocks.reportsSound → step s = .next t → t.blocks.reportsSound

/-- R74. Every step keeps every lane half-duplex: no receiver assembles a frame while its lane is disabled, sends a frame or
is in a BREAK. -/
def Obligations.EveryStepKeepsTheLanesHalfDuplex : Prop :=
  ∀ s t : State, s.blocks.halfDuplex → step s = .next t → t.blocks.halfDuplex
end

