-- ==== Sys2Proof/Laws/State.lean ====
section
/-!
SUPPORT. One lemma per accessor per update, so that no proof unfolds a record update.
-/
namespace Sys2Proof.Machine

/-! ### Vectors -/

theorem vector_get_set_same {α : Type} {k : Nat} (v : Vector α k) (i : Fin k) (x : α) :
    (v.set i.val x i.isLt).get i = x := by
  show (v.set i.val x i.isLt)[i.val] = x
  simp

theorem vector_get_set_ne {α : Type} {k : Nat} (v : Vector α k) (i j : Fin k) (x : α) (h : j ≠ i) :
    (v.set i.val x i.isLt).get j = v.get j := by
  have h' : i.val ≠ j.val := fun e => h (Fin.ext e.symm)
  show (v.set i.val x i.isLt)[j.val] = v[j.val]
  exact Vector.getElem_set_ne _ _ h'

/-! ### Lanes -/

@[simp] theorem Blocks.setLane_lane_same (b : Blocks) (n : LaneId) (l : Lane) : (b.setLane n l).lane n = l :=
  vector_get_set_same _ n l

theorem Blocks.setLane_lane_ne (b : Blocks) (n m : LaneId) (l : Lane) (h : m ≠ n) :
    (b.setLane n l).lane m = b.lane m := vector_get_set_ne _ n m l h

@[simp] theorem Blocks.modLane_lane_same (b : Blocks) (n : LaneId) (f : Lane → Lane) :
    (b.modLane n f).lane n = f (b.lane n) := by simp [Blocks.modLane]

theorem Blocks.modLane_lane_ne (b : Blocks) (n m : LaneId) (f : Lane → Lane) (h : m ≠ n) :
    (b.modLane n f).lane m = b.lane m := by simp [Blocks.modLane, Blocks.setLane_lane_ne b n m _ h]

@[simp] theorem Blocks.setLane_ctx (b : Blocks) (n : LaneId) (l : Lane) (s : Slot) : (b.setLane n l).ctx s = b.ctx s := rfl
@[simp] theorem Blocks.setLane_ctxs (b : Blocks) (n : LaneId) (l : Lane) : (b.setLane n l).ctxs = b.ctxs := rfl
@[simp] theorem Blocks.setLane_index (b : Blocks) (n : LaneId) (l : Lane) : (b.setLane n l).index = b.index := rfl
@[simp] theorem Blocks.setLane_fetchQ (b : Blocks) (n : LaneId) (l : Lane) : (b.setLane n l).fetchQ = b.fetchQ := rfl
@[simp] theorem Blocks.setLane_fetch (b : Blocks) (n : LaneId) (l : Lane) : (b.setLane n l).fetch = b.fetch := rfl
@[simp] theorem Blocks.setLane_window (b : Blocks) (n : LaneId) (l : Lane) : (b.setLane n l).window = b.window := rfl
@[simp] theorem Blocks.setLane_mem (b : Blocks) (n : LaneId) (l : Lane) : (b.setLane n l).mem = b.mem := rfl
@[simp] theorem Blocks.setLane_reports (b : Blocks) (n : LaneId) (l : Lane) : (b.setLane n l).reports = b.reports := rfl
@[simp] theorem Blocks.setLane_timebase (b : Blocks) (n : LaneId) (l : Lane) : (b.setLane n l).timebase = b.timebase := rfl
@[simp] theorem Blocks.setLane_laneFault (b : Blocks) (n : LaneId) (l : Lane) :
    (b.setLane n l).laneFault = b.laneFault := rfl

@[simp] theorem Blocks.modLane_ctx (b : Blocks) (n : LaneId) (f : Lane → Lane) (s : Slot) :
    (b.modLane n f).ctx s = b.ctx s := rfl
@[simp] theorem Blocks.modLane_ctxs (b : Blocks) (n : LaneId) (f : Lane → Lane) : (b.modLane n f).ctxs = b.ctxs := rfl
@[simp] theorem Blocks.modLane_index (b : Blocks) (n : LaneId) (f : Lane → Lane) : (b.modLane n f).index = b.index := rfl
@[simp] theorem Blocks.modLane_fetchQ (b : Blocks) (n : LaneId) (f : Lane → Lane) :
    (b.modLane n f).fetchQ = b.fetchQ := rfl
@[simp] theorem Blocks.modLane_fetch (b : Blocks) (n : LaneId) (f : Lane → Lane) : (b.modLane n f).fetch = b.fetch := rfl
@[simp] theorem Blocks.modLane_window (b : Blocks) (n : LaneId) (f : Lane → Lane) :
    (b.modLane n f).window = b.window := rfl
@[simp] theorem Blocks.modLane_mem (b : Blocks) (n : LaneId) (f : Lane → Lane) : (b.modLane n f).mem = b.mem := rfl
@[simp] theorem Blocks.modLane_reports (b : Blocks) (n : LaneId) (f : Lane → Lane) :
    (b.modLane n f).reports = b.reports := rfl
@[simp] theorem Blocks.modLane_timebase (b : Blocks) (n : LaneId) (f : Lane → Lane) :
    (b.modLane n f).timebase = b.timebase := rfl
@[simp] theorem Blocks.modLane_laneFault (b : Blocks) (n : LaneId) (f : Lane → Lane) :
    (b.modLane n f).laneFault = b.laneFault := rfl
@[simp] theorem Blocks.modLane_choice (b : Blocks) (n : LaneId) (f : Lane → Lane) :
    (b.modLane n f).choice = b.choice := rfl

@[simp] theorem Blocks.setLane_choice (b : Blocks) (n : LaneId) (l : Lane) : (b.setLane n l).choice = b.choice := rfl

/-! ### The fields of bindings, which no lane update changes -/

@[simp] theorem Blocks.setLane_unitOf (b : Blocks) (n : LaneId) (l : Lane) (s : Slot) :
    (b.setLane n l).unitOf s = b.unitOf s := rfl
@[simp] theorem Blocks.setLane_laneOf (b : Blocks) (n : LaneId) (l : Lane) (s : Slot) :
    (b.setLane n l).laneOf s = b.laneOf s := rfl
@[simp] theorem Blocks.setLane_retriesOf (b : Blocks) (n : LaneId) (l : Lane) (s : Slot) :
    (b.setLane n l).retriesOf s = b.retriesOf s := rfl
@[simp] theorem Blocks.modLane_unitOf (b : Blocks) (n : LaneId) (f : Lane → Lane) (s : Slot) :
    (b.modLane n f).unitOf s = b.unitOf s := rfl
@[simp] theorem Blocks.modLane_laneOf (b : Blocks) (n : LaneId) (f : Lane → Lane) (s : Slot) :
    (b.modLane n f).laneOf s = b.laneOf s := rfl
@[simp] theorem Blocks.modLane_retriesOf (b : Blocks) (n : LaneId) (f : Lane → Lane) (s : Slot) :
    (b.modLane n f).retriesOf s = b.retriesOf s := rfl

/-! ### Contexts -/

@[simp] theorem Blocks.setCtx_ctx_same (b : Blocks) (s : Slot) (c : Context) : (b.setCtx s c).ctx s = c :=
  vector_get_set_same _ s c

theorem Blocks.setCtx_ctx_ne (b : Blocks) (s k : Slot) (c : Context) (h : k ≠ s) : (b.setCtx s c).ctx k = b.ctx k :=
  vector_get_set_ne _ s k c h

@[simp] theorem Blocks.modCtx_ctx_same (b : Blocks) (s : Slot) (f : Context → Context) :
    (b.modCtx s f).ctx s = f (b.ctx s) := by simp [Blocks.modCtx]

theorem Blocks.modCtx_ctx_ne (b : Blocks) (s k : Slot) (f : Context → Context) (h : k ≠ s) :
    (b.modCtx s f).ctx k = b.ctx k := by simp [Blocks.modCtx, Blocks.setCtx_ctx_ne b s k _ h]

@[simp] theorem Blocks.setCtx_lane (b : Blocks) (s : Slot) (c : Context) (n : LaneId) :
    (b.setCtx s c).lane n = b.lane n := rfl
@[simp] theorem Blocks.setCtx_lanes (b : Blocks) (s : Slot) (c : Context) : (b.setCtx s c).lanes = b.lanes := rfl
@[simp] theorem Blocks.setCtx_index (b : Blocks) (s : Slot) (c : Context) : (b.setCtx s c).index = b.index := rfl
@[simp] theorem Blocks.setCtx_fetchQ (b : Blocks) (s : Slot) (c : Context) : (b.setCtx s c).fetchQ = b.fetchQ := rfl
@[simp] theorem Blocks.setCtx_fetch (b : Blocks) (s : Slot) (c : Context) : (b.setCtx s c).fetch = b.fetch := rfl
@[simp] theorem Blocks.setCtx_window (b : Blocks) (s : Slot) (c : Context) : (b.setCtx s c).window = b.window := rfl
@[simp] theorem Blocks.setCtx_mem (b : Blocks) (s : Slot) (c : Context) : (b.setCtx s c).mem = b.mem := rfl
@[simp] theorem Blocks.setCtx_reports (b : Blocks) (s : Slot) (c : Context) : (b.setCtx s c).reports = b.reports := rfl
@[simp] theorem Blocks.setCtx_timebase (b : Blocks) (s : Slot) (c : Context) :
    (b.setCtx s c).timebase = b.timebase := rfl
@[simp] theorem Blocks.setCtx_laneFault (b : Blocks) (s : Slot) (c : Context) :
    (b.setCtx s c).laneFault = b.laneFault := rfl

@[simp] theorem Blocks.modCtx_lane (b : Blocks) (s : Slot) (f : Context → Context) (n : LaneId) :
    (b.modCtx s f).lane n = b.lane n := rfl
@[simp] theorem Blocks.modCtx_lanes (b : Blocks) (s : Slot) (f : Context → Context) : (b.modCtx s f).lanes = b.lanes := rfl
@[simp] theorem Blocks.modCtx_index (b : Blocks) (s : Slot) (f : Context → Context) : (b.modCtx s f).index = b.index := rfl
@[simp] theorem Blocks.modCtx_fetchQ (b : Blocks) (s : Slot) (f : Context → Context) :
    (b.modCtx s f).fetchQ = b.fetchQ := rfl
@[simp] theorem Blocks.modCtx_fetch (b : Blocks) (s : Slot) (f : Context → Context) :
    (b.modCtx s f).fetch = b.fetch := rfl
@[simp] theorem Blocks.modCtx_window (b : Blocks) (s : Slot) (f : Context → Context) :
    (b.modCtx s f).window = b.window := rfl
@[simp] theorem Blocks.modCtx_mem (b : Blocks) (s : Slot) (f : Context → Context) : (b.modCtx s f).mem = b.mem := rfl
@[simp] theorem Blocks.modCtx_reports (b : Blocks) (s : Slot) (f : Context → Context) :
    (b.modCtx s f).reports = b.reports := rfl
@[simp] theorem Blocks.modCtx_timebase (b : Blocks) (s : Slot) (f : Context → Context) :
    (b.modCtx s f).timebase = b.timebase := rfl
@[simp] theorem Blocks.modCtx_laneFault (b : Blocks) (s : Slot) (f : Context → Context) :
    (b.modCtx s f).laneFault = b.laneFault := rfl

@[simp] theorem Blocks.setCtx_choice (b : Blocks) (s : Slot) (c : Context) : (b.setCtx s c).choice = b.choice := rfl
@[simp] theorem Blocks.modCtx_choice (b : Blocks) (s : Slot) (f : Context → Context) :
    (b.modCtx s f).choice = b.choice := rfl

/-! ### The unit index -/

theorem indexEntry_injective {n m : LaneId} {u v : UnitAddr} (h : indexEntry n u = indexEntry m v) : n = m ∧ u = v := by
  simp only [indexEntry, Fin.mk.injEq] at h
  constructor <;> ext <;> omega

@[simp] theorem Blocks.setIndex_lookup_same (b : Blocks) (n : LaneId) (u : UnitAddr) (e : Option Slot) :
    (b.setIndex n u e).lookup n u = e := vector_get_set_same _ (indexEntry n u) e

theorem Blocks.setIndex_lookup_ne (b : Blocks) (n m : LaneId) (u v : UnitAddr) (e : Option Slot)
    (h : ¬(m = n ∧ v = u)) : (b.setIndex n u e).lookup m v = b.lookup m v :=
  vector_get_set_ne _ (indexEntry n u) (indexEntry m v) e fun he =>
    h (by have := indexEntry_injective he; exact ⟨this.1, this.2⟩)

@[simp] theorem Blocks.setIndex_ctx (b : Blocks) (n : LaneId) (u : UnitAddr) (e : Option Slot) (s : Slot) :
    (b.setIndex n u e).ctx s = b.ctx s := rfl
@[simp] theorem Blocks.setIndex_lane (b : Blocks) (n : LaneId) (u : UnitAddr) (e : Option Slot) (m : LaneId) :
    (b.setIndex n u e).lane m = b.lane m := rfl
@[simp] theorem Blocks.setIndex_reports (b : Blocks) (n : LaneId) (u : UnitAddr) (e : Option Slot) :
    (b.setIndex n u e).reports = b.reports := rfl
@[simp] theorem Blocks.setLane_lookup (b : Blocks) (k : LaneId) (l : Lane) (n : LaneId) (u : UnitAddr) :
    (b.setLane k l).lookup n u = b.lookup n u := rfl
@[simp] theorem Blocks.modLane_lookup (b : Blocks) (k : LaneId) (f : Lane → Lane) (n : LaneId) (u : UnitAddr) :
    (b.modLane k f).lookup n u = b.lookup n u := rfl
@[simp] theorem Blocks.setCtx_lookup (b : Blocks) (s : Slot) (c : Context) (n : LaneId) (u : UnitAddr) :
    (b.setCtx s c).lookup n u = b.lookup n u := rfl
@[simp] theorem Blocks.modCtx_lookup (b : Blocks) (s : Slot) (f : Context → Context) (n : LaneId) (u : UnitAddr) :
    (b.modCtx s f).lookup n u = b.lookup n u := rfl

/-! ### The update count and the lifts -/

@[simp] theorem Blocks.settled_ctx (b c : Blocks) (s : Slot) : (b.settled c).ctx s = c.ctx s := rfl
@[simp] theorem Blocks.settled_ctxs (b c : Blocks) : (b.settled c).ctxs = c.ctxs := rfl
@[simp] theorem Blocks.settled_lane (b c : Blocks) (n : LaneId) : (b.settled c).lane n = c.lane n := rfl
@[simp] theorem Blocks.settled_lanes (b c : Blocks) : (b.settled c).lanes = c.lanes := rfl
@[simp] theorem Blocks.settled_index (b c : Blocks) : (b.settled c).index = c.index := rfl
@[simp] theorem Blocks.settled_lookup (b c : Blocks) (n : LaneId) (u : UnitAddr) :
    (b.settled c).lookup n u = c.lookup n u := rfl
@[simp] theorem Blocks.settled_fetchQ (b c : Blocks) : (b.settled c).fetchQ = c.fetchQ := rfl
@[simp] theorem Blocks.settled_fetch (b c : Blocks) : (b.settled c).fetch = c.fetch := rfl
@[simp] theorem Blocks.settled_window (b c : Blocks) : (b.settled c).window = c.window := rfl
@[simp] theorem Blocks.settled_mem (b c : Blocks) : (b.settled c).mem = c.mem := rfl
@[simp] theorem Blocks.settled_queue (b c : Blocks) : (b.settled c).reports.queue = c.reports.queue := rfl
@[simp] theorem Blocks.settled_timebase (b c : Blocks) : (b.settled c).timebase = c.timebase := rfl
@[simp] theorem Blocks.settled_laneFault (b c : Blocks) : (b.settled c).laneFault = c.laneFault := rfl
@[simp] theorem Blocks.settled_choice (b c : Blocks) : (b.settled c).choice = c.choice := rfl
@[simp] theorem Blocks.settled_unitOf (b c : Blocks) (s : Slot) : (b.settled c).unitOf s = c.unitOf s := rfl
@[simp] theorem Blocks.settled_shown (b c : Blocks) : (b.settled c).shown = c.shown := rfl

@[simp] theorem State.onBlocks_port (s : State) (f : Blocks → Blocks) : (s.onBlocks f).port = s.port := rfl
@[simp] theorem State.onBlocks_pending (s : State) (f : Blocks → Blocks) : (s.onBlocks f).pending = s.pending := rfl
@[simp] theorem State.onBlocks_blocks (s : State) (f : Blocks → Blocks) :
    (s.onBlocks f).blocks = s.blocks.settled (f s.blocks) := rfl
@[simp] theorem State.onPort_port (s : State) (f : Port → Port) : (s.onPort f).port = f s.port := rfl
@[simp] theorem State.onPort_pending (s : State) (f : Port → Port) : (s.onPort f).pending = s.pending := rfl
@[simp] theorem State.onPort_blocks (s : State) (f : Port → Port) : (s.onPort f).blocks = s.blocks := rfl

/-! ### Asking for a permit and its answer (R131) -/

/-- With nothing asked the decision is none. -/
theorem Blocks.decideIfAsked_of_not (b : Blocks) (h : b.window.asked = false) : b.decideIfAsked = b := by
  simp [Blocks.decideIfAsked, h]

theorem Blocks.answerAsking_of_not (b : Blocks) (waits : Bool) (h : b.window.asked = false) : b.answerAsking waits = b := by
  simp [Blocks.answerAsking, h, b.decideIfAsked_of_not h]

/-- With no withdrawal waiting the decision is taken in the event. -/
@[simp] theorem Blocks.answerAsking_false (b : Blocks) : b.answerAsking false = b.decideIfAsked := by
  simp [Blocks.answerAsking]

/-- An event in which nothing is asked is one of the blocks alone. -/
theorem State.onBlocksAsking_of_same (s : State) (f : Blocks → Blocks)
    (h : (f s.blocks).window.asked = s.blocks.window.asked) : s.onBlocksAsking f = s.onBlocks f := by
  unfold State.onBlocksAsking State.onBlocks
  cases hs : s.blocks.window.asked with
  | true => simp [hs]
  | false => simp [hs, Blocks.answerAsking_of_not _ _ (h.trans hs)]

/-- Where a withdrawal waits and the free value has the grant wait, the decision is left owed. -/
theorem State.onBlocksAsking_of_waits (s : State) (f : Blocks → Blocks) (h : s.blocks.window.asked = false)
    (hf : (f s.blocks).window.asked = true) (hw : s.withdrawalWaits (f s.blocks).window = true)
    (hc : Config.grantWaits (f s.blocks).choice = true) :
    s.onBlocksAsking f = s.onBlocks fun b => { f b with choice := (f b).choice + 1 } := by
  simp [State.onBlocksAsking, State.onBlocks, Blocks.answerAsking, h, hf, hw, hc]

@[simp] theorem State.onBlocksAsking_port (s : State) (f : Blocks → Blocks) : (s.onBlocksAsking f).port = s.port := rfl
@[simp] theorem State.onBlocksAsking_pending (s : State) (f : Blocks → Blocks) :
    (s.onBlocksAsking f).pending = s.pending := rfl

/-- On an empty queue nothing happens unless a decision is owed. -/
theorem State.idle_of_not (s : State) (h : s.blocks.window.asked = false) : s.idle = s := by simp [State.idle, h]

/-- A run of grants changes lanes and the window, and leaves the policy and `asked`. -/
theorem Blocks.grantRun_spec (fuel : Nat) (b : Blocks) : ∃ lanes ledger permits,
    b.grantRun fuel =
      { b with lanes := lanes, window := { b.window with ledger := ledger, permits := permits } } := by
  induction fuel generalizing b with
  | zero => exact ⟨b.lanes, b.window.ledger, b.window.permits, rfl⟩
  | succ fuel ih =>
    unfold Blocks.grantRun
    split
    · obtain ⟨l, g, p, h⟩ := ih b.grantHead
      refine ⟨l, g, p, h.trans ?_⟩
      unfold Blocks.grantHead
      split <;> rfl
    · exact ⟨b.lanes, b.window.ledger, b.window.permits, rfl⟩

/-- A decision changes lanes, the ledger and the permit queue, and answers every asking. -/
theorem Blocks.grantDecision_spec (b : Blocks) : ∃ lanes ledger permits,
    b.grantDecision =
      { b with
        lanes := lanes, window := { b.window with ledger := ledger, permits := permits, asked := false } } := by
  obtain ⟨l, g, p, h⟩ :=
    Blocks.grantRun_spec b.window.permits.length { b with window := { b.window with asked := false } }
  exact ⟨l, g, p, h⟩

end Sys2Proof.Machine
end

