-- ==== Sys2Proof/Laws/Wire.lean ====
section
/-!
SUPPORT. What a lane's wire operations can do (R74, R75): sending and the end of a reception change the wire alone, and no
frame sent is lost or overtaken.
-/
namespace Sys2Proof.Machine

/-- A frame that waits goes out, or nothing changes. -/
theorem Lane.drive_spec (l : Lane) : l.drive = { l with tx := l.drive.tx, txQueue := l.drive.txQueue } := by
  unfold Lane.drive
  split
  · split <;> rfl
  · rfl

/-- Sending leaves every item of the lane but the wire's own. -/
theorem Lane.send_spec (l : Lane) (f : PartFrame) :
    l.send f = { l with tx := (l.send f).tx, txQueue := (l.send f).txQueue } := by
  unfold Lane.send
  exact Lane.drive_spec _

/-- The end of a reception leaves every item of the lane but the wire's own. -/
theorem Lane.endReception_spec (l : Lane) (rx : Receiver) :
    l.endReception rx = { l with rx := rx, tx := (l.endReception rx).tx, txQueue := (l.endReception rx).txQueue } := by
  unfold Lane.endReception
  exact Lane.drive_spec _

@[simp] theorem Lane.send_state (l : Lane) (f : PartFrame) : (l.send f).state = l.state := by rw [Lane.send_spec]
@[simp] theorem Lane.send_rate (l : Lane) (f : PartFrame) : (l.send f).rate = l.rate := by rw [Lane.send_spec]
@[simp] theorem Lane.send_limit (l : Lane) (f : PartFrame) : (l.send f).limit = l.limit := by rw [Lane.send_spec]
@[simp] theorem Lane.send_readyQ (l : Lane) (f : PartFrame) : (l.send f).readyQ = l.readyQ := by rw [Lane.send_spec]
@[simp] theorem Lane.send_haltList (l : Lane) (f : PartFrame) : (l.send f).haltList = l.haltList := by rw [Lane.send_spec]
@[simp] theorem Lane.send_deferred (l : Lane) (f : PartFrame) : (l.send f).deferred = l.deferred := by rw [Lane.send_spec]
@[simp] theorem Lane.send_served (l : Lane) (f : PartFrame) : (l.send f).served = l.served := by rw [Lane.send_spec]
@[simp] theorem Lane.send_attempts (l : Lane) (f : PartFrame) : (l.send f).attempts = l.attempts := by rw [Lane.send_spec]
@[simp] theorem Lane.send_mismatch (l : Lane) (f : PartFrame) : (l.send f).mismatch = l.mismatch := by rw [Lane.send_spec]
@[simp] theorem Lane.send_selOwed (l : Lane) (f : PartFrame) : (l.send f).selOwed = l.selOwed := by rw [Lane.send_spec]
@[simp] theorem Lane.send_lostAttempt (l : Lane) (f : PartFrame) : (l.send f).lostAttempt = l.lostAttempt := by rw [Lane.send_spec]
@[simp] theorem Lane.send_abortCause (l : Lane) (f : PartFrame) : (l.send f).abortCause = l.abortCause := by rw [Lane.send_spec]
@[simp] theorem Lane.send_abortPhase (l : Lane) (f : PartFrame) : (l.send f).abortPhase = l.abortPhase := by rw [Lane.send_spec]
@[simp] theorem Lane.send_abortFault (l : Lane) (f : PartFrame) : (l.send f).abortFault = l.abortFault := by rw [Lane.send_spec]
@[simp] theorem Lane.send_haltNotice (l : Lane) (f : PartFrame) : (l.send f).haltNotice = l.haltNotice := by rw [Lane.send_spec]
@[simp] theorem Lane.send_timer (l : Lane) (f : PartFrame) : (l.send f).timer = l.timer := by rw [Lane.send_spec]
@[simp] theorem Lane.send_emptyPolls (l : Lane) (f : PartFrame) : (l.send f).emptyPolls = l.emptyPolls := by rw [Lane.send_spec]
@[simp] theorem Lane.send_lineStuck (l : Lane) (f : PartFrame) : (l.send f).lineStuck = l.lineStuck := by rw [Lane.send_spec]
@[simp] theorem Lane.send_pollRun (l : Lane) (f : PartFrame) : (l.send f).pollRun = l.pollRun := by rw [Lane.send_spec]
@[simp] theorem Lane.send_strayFrame (l : Lane) (f : PartFrame) : (l.send f).strayFrame = l.strayFrame := by rw [Lane.send_spec]
@[simp] theorem Lane.send_faultCause (l : Lane) (f : PartFrame) : (l.send f).faultCause = l.faultCause := by rw [Lane.send_spec]
@[simp] theorem Lane.send_desc (l : Lane) (f : PartFrame) : (l.send f).desc = l.desc := by rw [Lane.send_spec]
@[simp] theorem Lane.send_residual (l : Lane) (f : PartFrame) : (l.send f).residual = l.residual := by rw [Lane.send_spec]
@[simp] theorem Lane.send_dataAddr (l : Lane) (f : PartFrame) : (l.send f).dataAddr = l.dataAddr := by rw [Lane.send_spec]
@[simp] theorem Lane.send_rxResidual (l : Lane) (f : PartFrame) : (l.send f).rxResidual = l.rxResidual := by rw [Lane.send_spec]
@[simp] theorem Lane.send_stagingAddr (l : Lane) (f : PartFrame) : (l.send f).stagingAddr = l.stagingAddr := by rw [Lane.send_spec]
@[simp] theorem Lane.send_notePosted (l : Lane) (f : PartFrame) : (l.send f).notePosted = l.notePosted := by rw [Lane.send_spec]
@[simp] theorem Lane.send_doutOwed (l : Lane) (f : PartFrame) : (l.send f).doutOwed = l.doutOwed := by rw [Lane.send_spec]
@[simp] theorem Lane.send_heldNeed (l : Lane) (f : PartFrame) : (l.send f).heldNeed = l.heldNeed := by rw [Lane.send_spec]
@[simp] theorem Lane.send_lengthCond (l : Lane) (f : PartFrame) : (l.send f).lengthCond = l.lengthCond := by rw [Lane.send_spec]
@[simp] theorem Lane.send_staging (l : Lane) (f : PartFrame) : (l.send f).staging = l.staging := by rw [Lane.send_spec]
@[simp] theorem Lane.send_credit (l : Lane) (f : PartFrame) : (l.send f).credit = l.credit := by rw [Lane.send_spec]
@[simp] theorem Lane.send_outToggle (l : Lane) (f : PartFrame) : (l.send f).outToggle = l.outToggle := by rw [Lane.send_spec]
@[simp] theorem Lane.send_inToggle (l : Lane) (f : PartFrame) : (l.send f).inToggle = l.inToggle := by rw [Lane.send_spec]
@[simp] theorem Lane.send_lastIn (l : Lane) (f : PartFrame) : (l.send f).lastIn = l.lastIn := by rw [Lane.send_spec]
@[simp] theorem Lane.send_memReq (l : Lane) (f : PartFrame) : (l.send f).memReq = l.memReq := by rw [Lane.send_spec]
@[simp] theorem Lane.send_brk (l : Lane) (f : PartFrame) : (l.send f).brk = l.brk := by rw [Lane.send_spec]
@[simp] theorem Lane.send_closing (l : Lane) (f : PartFrame) : (l.send f).closing = l.closing := by rw [Lane.send_spec]
@[simp] theorem Lane.send_atn (l : Lane) (f : PartFrame) : (l.send f).atn = l.atn := by rw [Lane.send_spec]
@[simp] theorem Lane.send_rx (l : Lane) (f : PartFrame) : (l.send f).rx = l.rx := by rw [Lane.send_spec]
@[simp] theorem Lane.endReception_state (l : Lane) (rx : Receiver) : (l.endReception rx).state = l.state := by
  rw [Lane.endReception_spec]
@[simp] theorem Lane.endReception_rate (l : Lane) (rx : Receiver) : (l.endReception rx).rate = l.rate := by
  rw [Lane.endReception_spec]
@[simp] theorem Lane.endReception_limit (l : Lane) (rx : Receiver) : (l.endReception rx).limit = l.limit := by
  rw [Lane.endReception_spec]
@[simp] theorem Lane.endReception_readyQ (l : Lane) (rx : Receiver) : (l.endReception rx).readyQ = l.readyQ := by
  rw [Lane.endReception_spec]
@[simp] theorem Lane.endReception_haltList (l : Lane) (rx : Receiver) : (l.endReception rx).haltList = l.haltList := by
  rw [Lane.endReception_spec]
@[simp] theorem Lane.endReception_deferred (l : Lane) (rx : Receiver) : (l.endReception rx).deferred = l.deferred := by
  rw [Lane.endReception_spec]
@[simp] theorem Lane.endReception_served (l : Lane) (rx : Receiver) : (l.endReception rx).served = l.served := by
  rw [Lane.endReception_spec]
@[simp] theorem Lane.endReception_attempts (l : Lane) (rx : Receiver) : (l.endReception rx).attempts = l.attempts := by
  rw [Lane.endReception_spec]
@[simp] theorem Lane.endReception_mismatch (l : Lane) (rx : Receiver) : (l.endReception rx).mismatch = l.mismatch := by
  rw [Lane.endReception_spec]
@[simp] theorem Lane.endReception_selOwed (l : Lane) (rx : Receiver) : (l.endReception rx).selOwed = l.selOwed := by
  rw [Lane.endReception_spec]
@[simp] theorem Lane.endReception_lostAttempt (l : Lane) (rx : Receiver) : (l.endReception rx).lostAttempt = l.lostAttempt := by
  rw [Lane.endReception_spec]
@[simp] theorem Lane.endReception_abortCause (l : Lane) (rx : Receiver) : (l.endReception rx).abortCause = l.abortCause := by
  rw [Lane.endReception_spec]
@[simp] theorem Lane.endReception_abortPhase (l : Lane) (rx : Receiver) : (l.endReception rx).abortPhase = l.abortPhase := by
  rw [Lane.endReception_spec]
@[simp] theorem Lane.endReception_abortFault (l : Lane) (rx : Receiver) : (l.endReception rx).abortFault = l.abortFault := by
  rw [Lane.endReception_spec]
@[simp] theorem Lane.endReception_haltNotice (l : Lane) (rx : Receiver) : (l.endReception rx).haltNotice = l.haltNotice := by
  rw [Lane.endReception_spec]
@[simp] theorem Lane.endReception_timer (l : Lane) (rx : Receiver) : (l.endReception rx).timer = l.timer := by
  rw [Lane.endReception_spec]
@[simp] theorem Lane.endReception_emptyPolls (l : Lane) (rx : Receiver) : (l.endReception rx).emptyPolls = l.emptyPolls := by
  rw [Lane.endReception_spec]
@[simp] theorem Lane.endReception_lineStuck (l : Lane) (rx : Receiver) : (l.endReception rx).lineStuck = l.lineStuck := by
  rw [Lane.endReception_spec]
@[simp] theorem Lane.endReception_pollRun (l : Lane) (rx : Receiver) : (l.endReception rx).pollRun = l.pollRun := by
  rw [Lane.endReception_spec]
@[simp] theorem Lane.endReception_strayFrame (l : Lane) (rx : Receiver) : (l.endReception rx).strayFrame = l.strayFrame := by
  rw [Lane.endReception_spec]
@[simp] theorem Lane.endReception_faultCause (l : Lane) (rx : Receiver) : (l.endReception rx).faultCause = l.faultCause := by
  rw [Lane.endReception_spec]
@[simp] theorem Lane.endReception_desc (l : Lane) (rx : Receiver) : (l.endReception rx).desc = l.desc := by
  rw [Lane.endReception_spec]
@[simp] theorem Lane.endReception_residual (l : Lane) (rx : Receiver) : (l.endReception rx).residual = l.residual := by
  rw [Lane.endReception_spec]
@[simp] theorem Lane.endReception_dataAddr (l : Lane) (rx : Receiver) : (l.endReception rx).dataAddr = l.dataAddr := by
  rw [Lane.endReception_spec]
@[simp] theorem Lane.endReception_rxResidual (l : Lane) (rx : Receiver) : (l.endReception rx).rxResidual = l.rxResidual := by
  rw [Lane.endReception_spec]
@[simp] theorem Lane.endReception_stagingAddr (l : Lane) (rx : Receiver) : (l.endReception rx).stagingAddr = l.stagingAddr := by
  rw [Lane.endReception_spec]
@[simp] theorem Lane.endReception_notePosted (l : Lane) (rx : Receiver) : (l.endReception rx).notePosted = l.notePosted := by
  rw [Lane.endReception_spec]
@[simp] theorem Lane.endReception_doutOwed (l : Lane) (rx : Receiver) : (l.endReception rx).doutOwed = l.doutOwed := by
  rw [Lane.endReception_spec]
@[simp] theorem Lane.endReception_heldNeed (l : Lane) (rx : Receiver) : (l.endReception rx).heldNeed = l.heldNeed := by
  rw [Lane.endReception_spec]
@[simp] theorem Lane.endReception_lengthCond (l : Lane) (rx : Receiver) : (l.endReception rx).lengthCond = l.lengthCond := by
  rw [Lane.endReception_spec]
@[simp] theorem Lane.endReception_staging (l : Lane) (rx : Receiver) : (l.endReception rx).staging = l.staging := by
  rw [Lane.endReception_spec]
@[simp] theorem Lane.endReception_credit (l : Lane) (rx : Receiver) : (l.endReception rx).credit = l.credit := by
  rw [Lane.endReception_spec]
@[simp] theorem Lane.endReception_outToggle (l : Lane) (rx : Receiver) : (l.endReception rx).outToggle = l.outToggle := by
  rw [Lane.endReception_spec]
@[simp] theorem Lane.endReception_inToggle (l : Lane) (rx : Receiver) : (l.endReception rx).inToggle = l.inToggle := by
  rw [Lane.endReception_spec]
@[simp] theorem Lane.endReception_lastIn (l : Lane) (rx : Receiver) : (l.endReception rx).lastIn = l.lastIn := by
  rw [Lane.endReception_spec]
@[simp] theorem Lane.endReception_memReq (l : Lane) (rx : Receiver) : (l.endReception rx).memReq = l.memReq := by
  rw [Lane.endReception_spec]
@[simp] theorem Lane.endReception_brk (l : Lane) (rx : Receiver) : (l.endReception rx).brk = l.brk := by
  rw [Lane.endReception_spec]
@[simp] theorem Lane.endReception_closing (l : Lane) (rx : Receiver) : (l.endReception rx).closing = l.closing := by
  rw [Lane.endReception_spec]
@[simp] theorem Lane.endReception_atn (l : Lane) (rx : Receiver) : (l.endReception rx).atn = l.atn := by
  rw [Lane.endReception_spec]
@[simp] theorem Lane.endReception_rx (l : Lane) (rx : Receiver) : (l.endReception rx).rx = rx := by
  rw [Lane.endReception_spec]

/-! ### The order of the frames sent -/

@[simp] theorem Lane.drive_outgoing (l : Lane) : l.drive.outgoing = l.outgoing := by
  unfold Lane.drive
  split
  · rename_i h
    have ht : l.tx = none := by simpa using (Bool.and_eq_true_iff.mp h).1
    split
    · rfl
    · rename_i hq; simp [Lane.outgoing, ht, hq]
  · rfl

/-- A frame sent stands behind every frame sent before it (log 8). -/
@[simp] theorem Lane.send_outgoing (l : Lane) (f : PartFrame) : (l.send f).outgoing = l.outgoing ++ [f] := by
  rw [Lane.send, Lane.drive_outgoing]
  simp [Lane.outgoing]

/-- No frame is lost by the end of a reception (log 9). -/
@[simp] theorem Lane.endReception_outgoing (l : Lane) (rx : Receiver) : (l.endReception rx).outgoing = l.outgoing := by
  rw [Lane.endReception, Lane.drive_outgoing]
  rfl

/-- At its last stop bit the frame on the wire leaves, and the others follow in order. -/
theorem Lane.nextFrame_outgoing (l : Lane) (t : Tx) (h : l.tx = some t) :
    l.outgoing = t.frame :: l.nextFrame.outgoing := by
  rw [Lane.nextFrame, Lane.drive_outgoing]
  simp [Lane.outgoing, h]

/-- With nothing sent before it and no frame being received, a frame goes out at once, at the lane's present rate. -/
theorem Lane.send_quiet (l : Lane) (f : PartFrame) (h : l.outgoing = []) (hr : l.rx.isAssembling = false) :
    l.send f = { l with tx := some ⟨f, l.rate⟩ } := by
  have ht : l.tx = none := by cases hx : l.tx <;> simp_all [Lane.outgoing]
  have hq : l.txQueue = [] := by simp_all [Lane.outgoing]
  simp [Lane.send, Lane.drive, ht, hr, hq]

/-- While a frame is on the wire or being received, a frame sent waits (logs 8 and 9). -/
theorem Lane.send_waits (l : Lane) (f : PartFrame) (h : l.tx ≠ none ∨ l.rx.isAssembling = true) :
    l.send f = { l with txQueue := l.txQueue ++ [f] } := by
  unfold Lane.send Lane.drive
  rcases h with h | h
  · simp [h]
  · simp [h]

/-- With no frame waiting, the end of a reception changes the receiver alone. -/
theorem Lane.endReception_quiet (l : Lane) (rx : Receiver) (h : l.txQueue = []) :
    l.endReception rx = { l with rx := rx } := by
  simp only [Lane.endReception, Lane.drive, h]
  split <;> rfl

end Sys2Proof.Machine
end

