-- ==== Sys2Proof/Laws/Frame.lean ====
section
/-!
SUPPORT. What each shared operation can do, said once: the frame of the memory port, of the fetcher and of a lane's own
choices, field by field.
-/
namespace Sys2Proof.Machine

/-! ### The memory port: only `mem` changes -/

/-- A grant decision changes the memory port only. -/
theorem Blocks.portDecision_spec (b : Blocks) : ∃ m, b.portDecision = { b with mem := m } := by
  unfold Blocks.portDecision
  split
  · exact ⟨_, rfl⟩
  · split
    · exact ⟨_, rfl⟩
    · exact ⟨_, rfl⟩
    · split
      · exact ⟨_, rfl⟩
      · split <;> exact ⟨_, rfl⟩
    · split <;> exact ⟨_, rfl⟩

@[simp] theorem Blocks.portDecision_ctxs (b : Blocks) : (b.portDecision).ctxs = b.ctxs := by
  obtain ⟨m, h⟩ := b.portDecision_spec; rw [h]
@[simp] theorem Blocks.portDecision_index (b : Blocks) : (b.portDecision).index = b.index := by
  obtain ⟨m, h⟩ := b.portDecision_spec; rw [h]
@[simp] theorem Blocks.portDecision_fetchQ (b : Blocks) : (b.portDecision).fetchQ = b.fetchQ := by
  obtain ⟨m, h⟩ := b.portDecision_spec; rw [h]
@[simp] theorem Blocks.portDecision_fetch (b : Blocks) : (b.portDecision).fetch = b.fetch := by
  obtain ⟨m, h⟩ := b.portDecision_spec; rw [h]
@[simp] theorem Blocks.portDecision_lanes (b : Blocks) : (b.portDecision).lanes = b.lanes := by
  obtain ⟨m, h⟩ := b.portDecision_spec; rw [h]
@[simp] theorem Blocks.portDecision_window (b : Blocks) : (b.portDecision).window = b.window := by
  obtain ⟨m, h⟩ := b.portDecision_spec; rw [h]
@[simp] theorem Blocks.portDecision_reports (b : Blocks) : (b.portDecision).reports = b.reports := by
  obtain ⟨m, h⟩ := b.portDecision_spec; rw [h]
@[simp] theorem Blocks.portDecision_timebase (b : Blocks) : (b.portDecision).timebase = b.timebase := by
  obtain ⟨m, h⟩ := b.portDecision_spec; rw [h]
@[simp] theorem Blocks.portDecision_laneFault (b : Blocks) : (b.portDecision).laneFault = b.laneFault := by
  obtain ⟨m, h⟩ := b.portDecision_spec; rw [h]
@[simp] theorem Blocks.portDecision_choice (b : Blocks) : (b.portDecision).choice = b.choice := by
  obtain ⟨m, h⟩ := b.portDecision_spec; rw [h]
@[simp] theorem Blocks.portDecision_ctx (b : Blocks) (k : Slot) : (b.portDecision).ctx k = b.ctx k := by
  simp [Blocks.ctx]
@[simp] theorem Blocks.portDecision_lane (b : Blocks) (m : LaneId) : (b.portDecision).lane m = b.lane m := by
  simp [Blocks.lane]
@[simp] theorem Blocks.portDecision_lookup (b : Blocks) (m : LaneId) (u : UnitAddr) :
    (b.portDecision).lookup m u = b.lookup m u := by
  simp [Blocks.lookup]
@[simp] theorem Blocks.portDecision_unitOf (b : Blocks) (k : Slot) : (b.portDecision).unitOf k = b.unitOf k := by
  simp [Blocks.unitOf]
@[simp] theorem Blocks.portDecision_laneOf (b : Blocks) (k : Slot) : (b.portDecision).laneOf k = b.laneOf k := by
  simp [Blocks.laneOf]
@[simp] theorem Blocks.portDecision_retriesOf (b : Blocks) (k : Slot) : (b.portDecision).retriesOf k = b.retriesOf k := by
  simp [Blocks.retriesOf]

/-- A grant decision with a transaction in flight decides nothing (R137). -/
theorem Blocks.portDecision_busy (b : Blocks) (h : b.mem.inflight ≠ none) : b.portDecision = b := by
  cases hm : b.mem.inflight with
  | none => exact absurd hm h
  | some t => simp [Blocks.portDecision, hm]

@[simp] theorem Blocks.portNext_ctxs (b : Blocks) : (b.portNext).ctxs = b.ctxs := by
  simp [Blocks.portNext]
@[simp] theorem Blocks.portNext_index (b : Blocks) : (b.portNext).index = b.index := by
  simp [Blocks.portNext]
@[simp] theorem Blocks.portNext_fetchQ (b : Blocks) : (b.portNext).fetchQ = b.fetchQ := by
  simp [Blocks.portNext]
@[simp] theorem Blocks.portNext_fetch (b : Blocks) : (b.portNext).fetch = b.fetch := by
  simp [Blocks.portNext]
@[simp] theorem Blocks.portNext_lanes (b : Blocks) : (b.portNext).lanes = b.lanes := by
  simp [Blocks.portNext]
@[simp] theorem Blocks.portNext_window (b : Blocks) : (b.portNext).window = b.window := by
  simp [Blocks.portNext]
@[simp] theorem Blocks.portNext_reports (b : Blocks) : (b.portNext).reports = b.reports := by
  simp [Blocks.portNext]
@[simp] theorem Blocks.portNext_timebase (b : Blocks) : (b.portNext).timebase = b.timebase := by
  simp [Blocks.portNext]
@[simp] theorem Blocks.portNext_laneFault (b : Blocks) : (b.portNext).laneFault = b.laneFault := by
  simp [Blocks.portNext]
@[simp] theorem Blocks.portNext_choice (b : Blocks) : (b.portNext).choice = b.choice := by
  simp [Blocks.portNext]
@[simp] theorem Blocks.portNext_ctx (b : Blocks) (k : Slot) : (b.portNext).ctx k = b.ctx k := by
  simp [Blocks.ctx]
@[simp] theorem Blocks.portNext_lane (b : Blocks) (m : LaneId) : (b.portNext).lane m = b.lane m := by
  simp [Blocks.lane]
@[simp] theorem Blocks.portNext_lookup (b : Blocks) (m : LaneId) (u : UnitAddr) :
    (b.portNext).lookup m u = b.lookup m u := by
  simp [Blocks.lookup]
@[simp] theorem Blocks.portNext_unitOf (b : Blocks) (k : Slot) : (b.portNext).unitOf k = b.unitOf k := by
  simp [Blocks.unitOf]
@[simp] theorem Blocks.portNext_laneOf (b : Blocks) (k : Slot) : (b.portNext).laneOf k = b.laneOf k := by
  simp [Blocks.laneOf]
@[simp] theorem Blocks.portNext_retriesOf (b : Blocks) (k : Slot) : (b.portNext).retriesOf k = b.retriesOf k := by
  simp [Blocks.retriesOf]
@[simp] theorem Blocks.askFetcher_ctxs (b : Blocks) (a : Addr48) : (b.askFetcher a).ctxs = b.ctxs := by
  simp [Blocks.askFetcher]
@[simp] theorem Blocks.askFetcher_index (b : Blocks) (a : Addr48) : (b.askFetcher a).index = b.index := by
  simp [Blocks.askFetcher]
@[simp] theorem Blocks.askFetcher_fetchQ (b : Blocks) (a : Addr48) : (b.askFetcher a).fetchQ = b.fetchQ := by
  simp [Blocks.askFetcher]
@[simp] theorem Blocks.askFetcher_fetch (b : Blocks) (a : Addr48) : (b.askFetcher a).fetch = b.fetch := by
  simp [Blocks.askFetcher]
@[simp] theorem Blocks.askFetcher_lanes (b : Blocks) (a : Addr48) : (b.askFetcher a).lanes = b.lanes := by
  simp [Blocks.askFetcher]
@[simp] theorem Blocks.askFetcher_window (b : Blocks) (a : Addr48) : (b.askFetcher a).window = b.window := by
  simp [Blocks.askFetcher]
@[simp] theorem Blocks.askFetcher_reports (b : Blocks) (a : Addr48) : (b.askFetcher a).reports = b.reports := by
  simp [Blocks.askFetcher]
@[simp] theorem Blocks.askFetcher_timebase (b : Blocks) (a : Addr48) : (b.askFetcher a).timebase = b.timebase := by
  simp [Blocks.askFetcher]
@[simp] theorem Blocks.askFetcher_laneFault (b : Blocks) (a : Addr48) : (b.askFetcher a).laneFault = b.laneFault := by
  simp [Blocks.askFetcher]
@[simp] theorem Blocks.askFetcher_choice (b : Blocks) (a : Addr48) : (b.askFetcher a).choice = b.choice := by
  simp [Blocks.askFetcher]
@[simp] theorem Blocks.askFetcher_ctx (b : Blocks) (a : Addr48) (k : Slot) : (b.askFetcher a).ctx k = b.ctx k := by
  simp [Blocks.ctx]
@[simp] theorem Blocks.askFetcher_lane (b : Blocks) (a : Addr48) (m : LaneId) : (b.askFetcher a).lane m = b.lane m := by
  simp [Blocks.lane]
@[simp] theorem Blocks.askFetcher_lookup (b : Blocks) (a : Addr48) (m : LaneId) (u : UnitAddr) :
    (b.askFetcher a).lookup m u = b.lookup m u := by
  simp [Blocks.lookup]
@[simp] theorem Blocks.askFetcher_unitOf (b : Blocks) (a : Addr48) (k : Slot) : (b.askFetcher a).unitOf k = b.unitOf k := by
  simp [Blocks.unitOf]
@[simp] theorem Blocks.askFetcher_laneOf (b : Blocks) (a : Addr48) (k : Slot) : (b.askFetcher a).laneOf k = b.laneOf k := by
  simp [Blocks.laneOf]
@[simp] theorem Blocks.askFetcher_retriesOf (b : Blocks) (a : Addr48) (k : Slot) : (b.askFetcher a).retriesOf k = b.retriesOf k := by
  simp [Blocks.retriesOf]
@[simp] theorem Blocks.askLane_ctxs (b : Blocks) (n : LaneId) (r : MemReq) : (b.askLane n r).ctxs = b.ctxs := by
  simp [Blocks.askLane]
@[simp] theorem Blocks.askLane_index (b : Blocks) (n : LaneId) (r : MemReq) : (b.askLane n r).index = b.index := by
  simp [Blocks.askLane]
@[simp] theorem Blocks.askLane_fetchQ (b : Blocks) (n : LaneId) (r : MemReq) : (b.askLane n r).fetchQ = b.fetchQ := by
  simp [Blocks.askLane]
@[simp] theorem Blocks.askLane_fetch (b : Blocks) (n : LaneId) (r : MemReq) : (b.askLane n r).fetch = b.fetch := by
  simp [Blocks.askLane]
@[simp] theorem Blocks.askLane_lanes (b : Blocks) (n : LaneId) (r : MemReq) : (b.askLane n r).lanes = b.lanes := by
  simp [Blocks.askLane]
@[simp] theorem Blocks.askLane_window (b : Blocks) (n : LaneId) (r : MemReq) : (b.askLane n r).window = b.window := by
  simp [Blocks.askLane]
@[simp] theorem Blocks.askLane_reports (b : Blocks) (n : LaneId) (r : MemReq) : (b.askLane n r).reports = b.reports := by
  simp [Blocks.askLane]
@[simp] theorem Blocks.askLane_timebase (b : Blocks) (n : LaneId) (r : MemReq) : (b.askLane n r).timebase = b.timebase := by
  simp [Blocks.askLane]
@[simp] theorem Blocks.askLane_laneFault (b : Blocks) (n : LaneId) (r : MemReq) : (b.askLane n r).laneFault = b.laneFault := by
  simp [Blocks.askLane]
@[simp] theorem Blocks.askLane_choice (b : Blocks) (n : LaneId) (r : MemReq) : (b.askLane n r).choice = b.choice := by
  simp [Blocks.askLane]
@[simp] theorem Blocks.askLane_ctx (b : Blocks) (n : LaneId) (r : MemReq) (k : Slot) : (b.askLane n r).ctx k = b.ctx k := by
  simp [Blocks.ctx]
@[simp] theorem Blocks.askLane_lane (b : Blocks) (n : LaneId) (r : MemReq) (m : LaneId) : (b.askLane n r).lane m = b.lane m := by
  simp [Blocks.lane]
@[simp] theorem Blocks.askLane_lookup (b : Blocks) (n : LaneId) (r : MemReq) (m : LaneId) (u : UnitAddr) :
    (b.askLane n r).lookup m u = b.lookup m u := by
  simp [Blocks.lookup]
@[simp] theorem Blocks.askLane_unitOf (b : Blocks) (n : LaneId) (r : MemReq) (k : Slot) : (b.askLane n r).unitOf k = b.unitOf k := by
  simp [Blocks.unitOf]
@[simp] theorem Blocks.askLane_laneOf (b : Blocks) (n : LaneId) (r : MemReq) (k : Slot) : (b.askLane n r).laneOf k = b.laneOf k := by
  simp [Blocks.laneOf]
@[simp] theorem Blocks.askLane_retriesOf (b : Blocks) (n : LaneId) (r : MemReq) (k : Slot) : (b.askLane n r).retriesOf k = b.retriesOf k := by
  simp [Blocks.retriesOf]

/-! ### The fetcher: only the fetch queue, the fetch in progress and the memory port change -/

/-- The fetcher's beginning of a fetch. -/
theorem Blocks.fetchBegin_spec (b : Blocks) :
    ∃ q f m, b.fetchBegin = { b with fetchQ := q, fetch := f, mem := m } := by
  unfold Blocks.fetchBegin
  split
  · obtain ⟨m, h⟩ := Blocks.portDecision_spec
      { b with
        fetchQ := _, fetch := _
        mem := { b.mem with fetchReq := _ } }
    exact ⟨_, _, m, h⟩
  · exact ⟨_, _, _, rfl⟩

@[simp] theorem Blocks.fetchBegin_ctxs (b : Blocks) : (b.fetchBegin).ctxs = b.ctxs := by
  obtain ⟨q, f, m, h⟩ := b.fetchBegin_spec; rw [h]
@[simp] theorem Blocks.fetchBegin_index (b : Blocks) : (b.fetchBegin).index = b.index := by
  obtain ⟨q, f, m, h⟩ := b.fetchBegin_spec; rw [h]
@[simp] theorem Blocks.fetchBegin_lanes (b : Blocks) : (b.fetchBegin).lanes = b.lanes := by
  obtain ⟨q, f, m, h⟩ := b.fetchBegin_spec; rw [h]
@[simp] theorem Blocks.fetchBegin_window (b : Blocks) : (b.fetchBegin).window = b.window := by
  obtain ⟨q, f, m, h⟩ := b.fetchBegin_spec; rw [h]
@[simp] theorem Blocks.fetchBegin_reports (b : Blocks) : (b.fetchBegin).reports = b.reports := by
  obtain ⟨q, f, m, h⟩ := b.fetchBegin_spec; rw [h]
@[simp] theorem Blocks.fetchBegin_timebase (b : Blocks) : (b.fetchBegin).timebase = b.timebase := by
  obtain ⟨q, f, m, h⟩ := b.fetchBegin_spec; rw [h]
@[simp] theorem Blocks.fetchBegin_laneFault (b : Blocks) : (b.fetchBegin).laneFault = b.laneFault := by
  obtain ⟨q, f, m, h⟩ := b.fetchBegin_spec; rw [h]
@[simp] theorem Blocks.fetchBegin_choice (b : Blocks) : (b.fetchBegin).choice = b.choice := by
  obtain ⟨q, f, m, h⟩ := b.fetchBegin_spec; rw [h]
@[simp] theorem Blocks.fetchBegin_ctx (b : Blocks) (k : Slot) : (b.fetchBegin).ctx k = b.ctx k := by
  simp [Blocks.ctx]
@[simp] theorem Blocks.fetchBegin_lane (b : Blocks) (m : LaneId) : (b.fetchBegin).lane m = b.lane m := by
  simp [Blocks.lane]
@[simp] theorem Blocks.fetchBegin_lookup (b : Blocks) (m : LaneId) (u : UnitAddr) :
    (b.fetchBegin).lookup m u = b.lookup m u := by
  simp [Blocks.lookup]
@[simp] theorem Blocks.fetchBegin_unitOf (b : Blocks) (k : Slot) : (b.fetchBegin).unitOf k = b.unitOf k := by
  simp [Blocks.unitOf]
@[simp] theorem Blocks.fetchBegin_laneOf (b : Blocks) (k : Slot) : (b.fetchBegin).laneOf k = b.laneOf k := by
  simp [Blocks.laneOf]
@[simp] theorem Blocks.fetchBegin_retriesOf (b : Blocks) (k : Slot) : (b.fetchBegin).retriesOf k = b.retriesOf k := by
  simp [Blocks.retriesOf]

/-- A fetcher that is busy begins nothing. -/
theorem Blocks.fetchBegin_busy (b : Blocks) (h : b.fetch ≠ none) : b.fetchBegin = b := by
  unfold Blocks.fetchBegin
  split
  · rename_i hf _; exact absurd hf h
  · rfl

/-- With nothing queued nothing begins. -/
theorem Blocks.fetchBegin_empty (b : Blocks) (h : b.fetchQ = []) : b.fetchBegin = b := by
  unfold Blocks.fetchBegin
  split
  · rename_i hq; simp [h] at hq
  · rfl

@[simp] theorem Blocks.appendStart_ctxs (b : Blocks) (s : Slot) : (b.appendStart s).ctxs = b.ctxs := by
  simp [Blocks.appendStart]
@[simp] theorem Blocks.appendStart_index (b : Blocks) (s : Slot) : (b.appendStart s).index = b.index := by
  simp [Blocks.appendStart]
@[simp] theorem Blocks.appendStart_lanes (b : Blocks) (s : Slot) : (b.appendStart s).lanes = b.lanes := by
  simp [Blocks.appendStart]
@[simp] theorem Blocks.appendStart_window (b : Blocks) (s : Slot) : (b.appendStart s).window = b.window := by
  simp [Blocks.appendStart]
@[simp] theorem Blocks.appendStart_reports (b : Blocks) (s : Slot) : (b.appendStart s).reports = b.reports := by
  simp [Blocks.appendStart]
@[simp] theorem Blocks.appendStart_timebase (b : Blocks) (s : Slot) : (b.appendStart s).timebase = b.timebase := by
  simp [Blocks.appendStart]
@[simp] theorem Blocks.appendStart_laneFault (b : Blocks) (s : Slot) : (b.appendStart s).laneFault = b.laneFault := by
  simp [Blocks.appendStart]
@[simp] theorem Blocks.appendStart_choice (b : Blocks) (s : Slot) : (b.appendStart s).choice = b.choice := by
  simp [Blocks.appendStart]
@[simp] theorem Blocks.appendStart_ctx (b : Blocks) (s : Slot) (k : Slot) : (b.appendStart s).ctx k = b.ctx k := by
  simp [Blocks.ctx]
@[simp] theorem Blocks.appendStart_lane (b : Blocks) (s : Slot) (m : LaneId) : (b.appendStart s).lane m = b.lane m := by
  simp [Blocks.lane]
@[simp] theorem Blocks.appendStart_lookup (b : Blocks) (s : Slot) (m : LaneId) (u : UnitAddr) :
    (b.appendStart s).lookup m u = b.lookup m u := by
  simp [Blocks.lookup]
@[simp] theorem Blocks.appendStart_unitOf (b : Blocks) (s : Slot) (k : Slot) : (b.appendStart s).unitOf k = b.unitOf k := by
  simp [Blocks.unitOf]
@[simp] theorem Blocks.appendStart_laneOf (b : Blocks) (s : Slot) (k : Slot) : (b.appendStart s).laneOf k = b.laneOf k := by
  simp [Blocks.laneOf]
@[simp] theorem Blocks.appendStart_retriesOf (b : Blocks) (s : Slot) (k : Slot) : (b.appendStart s).retriesOf k = b.retriesOf k := by
  simp [Blocks.retriesOf]
@[simp] theorem Blocks.appendLink_ctxs (b : Blocks) (s : Slot) : (b.appendLink s).ctxs = b.ctxs := by
  simp [Blocks.appendLink]
@[simp] theorem Blocks.appendLink_index (b : Blocks) (s : Slot) : (b.appendLink s).index = b.index := by
  simp [Blocks.appendLink]
@[simp] theorem Blocks.appendLink_lanes (b : Blocks) (s : Slot) : (b.appendLink s).lanes = b.lanes := by
  simp [Blocks.appendLink]
@[simp] theorem Blocks.appendLink_window (b : Blocks) (s : Slot) : (b.appendLink s).window = b.window := by
  simp [Blocks.appendLink]
@[simp] theorem Blocks.appendLink_reports (b : Blocks) (s : Slot) : (b.appendLink s).reports = b.reports := by
  simp [Blocks.appendLink]
@[simp] theorem Blocks.appendLink_timebase (b : Blocks) (s : Slot) : (b.appendLink s).timebase = b.timebase := by
  simp [Blocks.appendLink]
@[simp] theorem Blocks.appendLink_laneFault (b : Blocks) (s : Slot) : (b.appendLink s).laneFault = b.laneFault := by
  simp [Blocks.appendLink]
@[simp] theorem Blocks.appendLink_choice (b : Blocks) (s : Slot) : (b.appendLink s).choice = b.choice := by
  simp [Blocks.appendLink]
@[simp] theorem Blocks.appendLink_ctx (b : Blocks) (s : Slot) (k : Slot) : (b.appendLink s).ctx k = b.ctx k := by
  simp [Blocks.ctx]
@[simp] theorem Blocks.appendLink_lane (b : Blocks) (s : Slot) (m : LaneId) : (b.appendLink s).lane m = b.lane m := by
  simp [Blocks.lane]
@[simp] theorem Blocks.appendLink_lookup (b : Blocks) (s : Slot) (m : LaneId) (u : UnitAddr) :
    (b.appendLink s).lookup m u = b.lookup m u := by
  simp [Blocks.lookup]
@[simp] theorem Blocks.appendLink_unitOf (b : Blocks) (s : Slot) (k : Slot) : (b.appendLink s).unitOf k = b.unitOf k := by
  simp [Blocks.unitOf]
@[simp] theorem Blocks.appendLink_laneOf (b : Blocks) (s : Slot) (k : Slot) : (b.appendLink s).laneOf k = b.laneOf k := by
  simp [Blocks.laneOf]
@[simp] theorem Blocks.appendLink_retriesOf (b : Blocks) (s : Slot) (k : Slot) : (b.appendLink s).retriesOf k = b.retriesOf k := by
  simp [Blocks.retriesOf]

/-- A slot's claim on the fetcher given up. -/
theorem Blocks.withdrawFetch_spec (b : Blocks) (s : Slot) :
    ∃ q f m, b.withdrawFetch s = { b with fetchQ := q, fetch := f, mem := m } := by
  unfold Blocks.withdrawFetch
  simp only
  split
  · exact ⟨_, _, _, rfl⟩
  · split
    · split
      · obtain ⟨q, f, m, h⟩ := Blocks.fetchBegin_spec
          { (b.dropFetchEntry s).withdrawFetcher with fetch := none }
        exact ⟨q, f, m, h⟩
      · exact ⟨_, _, _, rfl⟩
    · exact ⟨_, _, _, rfl⟩

@[simp] theorem Blocks.withdrawFetch_ctxs (b : Blocks) (s : Slot) : (b.withdrawFetch s).ctxs = b.ctxs := by
  obtain ⟨q, f, m, h⟩ := b.withdrawFetch_spec s; rw [h]
@[simp] theorem Blocks.withdrawFetch_index (b : Blocks) (s : Slot) : (b.withdrawFetch s).index = b.index := by
  obtain ⟨q, f, m, h⟩ := b.withdrawFetch_spec s; rw [h]
@[simp] theorem Blocks.withdrawFetch_lanes (b : Blocks) (s : Slot) : (b.withdrawFetch s).lanes = b.lanes := by
  obtain ⟨q, f, m, h⟩ := b.withdrawFetch_spec s; rw [h]
@[simp] theorem Blocks.withdrawFetch_window (b : Blocks) (s : Slot) : (b.withdrawFetch s).window = b.window := by
  obtain ⟨q, f, m, h⟩ := b.withdrawFetch_spec s; rw [h]
@[simp] theorem Blocks.withdrawFetch_reports (b : Blocks) (s : Slot) : (b.withdrawFetch s).reports = b.reports := by
  obtain ⟨q, f, m, h⟩ := b.withdrawFetch_spec s; rw [h]
@[simp] theorem Blocks.withdrawFetch_timebase (b : Blocks) (s : Slot) : (b.withdrawFetch s).timebase = b.timebase := by
  obtain ⟨q, f, m, h⟩ := b.withdrawFetch_spec s; rw [h]
@[simp] theorem Blocks.withdrawFetch_laneFault (b : Blocks) (s : Slot) : (b.withdrawFetch s).laneFault = b.laneFault := by
  obtain ⟨q, f, m, h⟩ := b.withdrawFetch_spec s; rw [h]
@[simp] theorem Blocks.withdrawFetch_choice (b : Blocks) (s : Slot) : (b.withdrawFetch s).choice = b.choice := by
  obtain ⟨q, f, m, h⟩ := b.withdrawFetch_spec s; rw [h]
@[simp] theorem Blocks.withdrawFetch_ctx (b : Blocks) (s : Slot) (k : Slot) : (b.withdrawFetch s).ctx k = b.ctx k := by
  simp [Blocks.ctx]
@[simp] theorem Blocks.withdrawFetch_lane (b : Blocks) (s : Slot) (m : LaneId) : (b.withdrawFetch s).lane m = b.lane m := by
  simp [Blocks.lane]
@[simp] theorem Blocks.withdrawFetch_lookup (b : Blocks) (s : Slot) (m : LaneId) (u : UnitAddr) :
    (b.withdrawFetch s).lookup m u = b.lookup m u := by
  simp [Blocks.lookup]
@[simp] theorem Blocks.withdrawFetch_unitOf (b : Blocks) (s : Slot) (k : Slot) : (b.withdrawFetch s).unitOf k = b.unitOf k := by
  simp [Blocks.unitOf]
@[simp] theorem Blocks.withdrawFetch_laneOf (b : Blocks) (s : Slot) (k : Slot) : (b.withdrawFetch s).laneOf k = b.laneOf k := by
  simp [Blocks.laneOf]
@[simp] theorem Blocks.withdrawFetch_retriesOf (b : Blocks) (s : Slot) (k : Slot) : (b.withdrawFetch s).retriesOf k = b.retriesOf k := by
  simp [Blocks.retriesOf]

/-- A slot with no claim on the fetcher gives up nothing. -/
theorem Blocks.withdrawFetch_none (b : Blocks) (s : Slot) (hq : ∀ e ∈ b.fetchQ, e.slot ≠ s)
    (hf : ∀ f, b.fetch = some f → f.slot ≠ s) : b.withdrawFetch s = b := by
  have hd : b.dropFetchEntry s = b := by
    have : b.fetchQ.filter (fun e => e.slot != s) = b.fetchQ := List.filter_eq_self.mpr (by simpa using hq)
    simp [Blocks.dropFetchEntry, this]
  unfold Blocks.withdrawFetch
  simp only [hd]
  split
  · rfl
  · rename_i f hfe; simp [hf f hfe]


/-! ### A lane's own choices: only that lane changes -/

/-- A service choice changes its lane only: it polls, selects the head of the halt list or of the ready queue, or makes no
choice (R97). -/
theorem Blocks.serviceChoice_spec (b : Blocks) (n : LaneId) : ∃ l, b.serviceChoice n = b.setLane n l := by
  have hself : b = b.setLane n (b.lane n) := by
    unfold Blocks.setLane Blocks.lane
    show b = { b with lanes := b.lanes.set n.val b.lanes[n.val] n.isLt }
    simp
  unfold Blocks.serviceChoice
  simp only
  split
  · split
    · exact ⟨_, rfl⟩
    · split
      · exact ⟨_, rfl⟩
      · exact ⟨_, rfl⟩
      · exact ⟨_, hself⟩
  · exact ⟨_, hself⟩

@[simp] theorem Blocks.serviceChoice_ctxs (b : Blocks) (n : LaneId) : (b.serviceChoice n).ctxs = b.ctxs := by
  obtain ⟨l, h⟩ := b.serviceChoice_spec n; rw [h]; rfl
@[simp] theorem Blocks.serviceChoice_index (b : Blocks) (n : LaneId) : (b.serviceChoice n).index = b.index := by
  obtain ⟨l, h⟩ := b.serviceChoice_spec n; rw [h]; rfl
@[simp] theorem Blocks.serviceChoice_fetchQ (b : Blocks) (n : LaneId) : (b.serviceChoice n).fetchQ = b.fetchQ := by
  obtain ⟨l, h⟩ := b.serviceChoice_spec n; rw [h]; rfl
@[simp] theorem Blocks.serviceChoice_fetch (b : Blocks) (n : LaneId) : (b.serviceChoice n).fetch = b.fetch := by
  obtain ⟨l, h⟩ := b.serviceChoice_spec n; rw [h]; rfl
@[simp] theorem Blocks.serviceChoice_window (b : Blocks) (n : LaneId) : (b.serviceChoice n).window = b.window := by
  obtain ⟨l, h⟩ := b.serviceChoice_spec n; rw [h]; rfl
@[simp] theorem Blocks.serviceChoice_mem (b : Blocks) (n : LaneId) : (b.serviceChoice n).mem = b.mem := by
  obtain ⟨l, h⟩ := b.serviceChoice_spec n; rw [h]; rfl
@[simp] theorem Blocks.serviceChoice_reports (b : Blocks) (n : LaneId) : (b.serviceChoice n).reports = b.reports := by
  obtain ⟨l, h⟩ := b.serviceChoice_spec n; rw [h]; rfl
@[simp] theorem Blocks.serviceChoice_timebase (b : Blocks) (n : LaneId) : (b.serviceChoice n).timebase = b.timebase := by
  obtain ⟨l, h⟩ := b.serviceChoice_spec n; rw [h]; rfl
@[simp] theorem Blocks.serviceChoice_laneFault (b : Blocks) (n : LaneId) : (b.serviceChoice n).laneFault = b.laneFault := by
  obtain ⟨l, h⟩ := b.serviceChoice_spec n; rw [h]; rfl
@[simp] theorem Blocks.serviceChoice_choice (b : Blocks) (n : LaneId) : (b.serviceChoice n).choice = b.choice := by
  obtain ⟨l, h⟩ := b.serviceChoice_spec n; rw [h]; rfl
@[simp] theorem Blocks.serviceChoice_ctx (b : Blocks) (n : LaneId) (k : Slot) : (b.serviceChoice n).ctx k = b.ctx k := by
  simp [Blocks.ctx]
@[simp] theorem Blocks.serviceChoice_lookup (b : Blocks) (n : LaneId) (m : LaneId) (u : UnitAddr) :
    (b.serviceChoice n).lookup m u = b.lookup m u := by
  simp [Blocks.lookup]
@[simp] theorem Blocks.serviceChoice_unitOf (b : Blocks) (n : LaneId) (k : Slot) : (b.serviceChoice n).unitOf k = b.unitOf k := by
  simp [Blocks.unitOf]
@[simp] theorem Blocks.serviceChoice_laneOf (b : Blocks) (n : LaneId) (k : Slot) : (b.serviceChoice n).laneOf k = b.laneOf k := by
  simp [Blocks.laneOf]
@[simp] theorem Blocks.serviceChoice_retriesOf (b : Blocks) (n : LaneId) (k : Slot) : (b.serviceChoice n).retriesOf k = b.retriesOf k := by
  simp [Blocks.retriesOf]
theorem Blocks.serviceChoice_lane_ne (b : Blocks) (n : LaneId) (m : LaneId) (hm : m ≠ n) : (b.serviceChoice n).lane m = b.lane m := by
  obtain ⟨l, h⟩ := b.serviceChoice_spec n; rw [h, Blocks.setLane_lane_ne _ _ _ _ hm]

/-- The three things a service choice makes of its lane (R97). -/
theorem Blocks.serviceChoice_lane_same (b : Blocks) (n : LaneId) :
    (b.serviceChoice n).lane n = b.lane n ∨ (b.serviceChoice n).lane n = (b.lane n).startPoll ∨
      ∃ s kind, (b.serviceChoice n).lane n = (b.lane n).startSelection s kind (b.unitOf s) := by
  unfold Blocks.serviceChoice
  simp only
  split
  · split
    · exact Or.inr (Or.inl (by simp))
    · split
      · exact Or.inr (Or.inr ⟨_, _, by simp; rfl⟩)
      · exact Or.inr (Or.inr ⟨_, _, by simp; rfl⟩)
      · exact Or.inl rfl
  · exact Or.inl rfl

@[simp] theorem Blocks.serviceChoice_readyQ (b : Blocks) (n m : LaneId) :
    ((b.serviceChoice n).lane m).readyQ = (b.lane m).readyQ := by
  by_cases h : m = n
  · subst h
    rcases b.serviceChoice_lane_same m with h | h | ⟨s, k, h⟩ <;> rw [h] <;> simp [Lane.startPoll, Lane.startSelection]
  · rw [Blocks.serviceChoice_lane_ne _ _ _ h]

@[simp] theorem Blocks.serviceChoice_haltList (b : Blocks) (n m : LaneId) :
    ((b.serviceChoice n).lane m).haltList = (b.lane m).haltList := by
  by_cases h : m = n
  · subst h
    rcases b.serviceChoice_lane_same m with h | h | ⟨s, k, h⟩ <;> rw [h] <;> simp [Lane.startPoll, Lane.startSelection]
  · rw [Blocks.serviceChoice_lane_ne _ _ _ h]

/-- A service choice adds at most frames of its own behind those the lane has sent. -/
theorem Blocks.serviceChoice_outgoing (b : Blocks) (n : LaneId) :
    ∃ more, ((b.serviceChoice n).lane n).outgoing = (b.lane n).outgoing ++ more := by
  rcases b.serviceChoice_lane_same n with e | e | ⟨s, k, e⟩ <;> rw [e]
  · exact ⟨[], by simp⟩
  · exact ⟨[.poll], Lane.send_outgoing _ _⟩
  · exact ⟨[.sel (b.unitOf s)], Lane.send_outgoing _ _⟩

/-- A lane out of L_IDLE, or held out of service by a BREAK, makes no choice. -/
theorem Blocks.serviceChoice_held (b : Blocks) (n : LaneId) (h : (b.lane n).state ≠ .idle ∨ (b.lane n).brk ≠ none) :
    b.serviceChoice n = b := by
  unfold Blocks.serviceChoice
  rcases h with h | h
  · simp [h]
  · simp [Option.isNone_iff_eq_none, h]


/-- Entering L_IDLE adds at most the frame of a service choice behind those the lane has sent. -/
theorem Blocks.enterIdle_outgoing (b : Blocks) (n : LaneId) :
    ∃ more, ((b.enterIdle n).lane n).outgoing = (b.lane n).outgoing ++ more := by
  obtain ⟨more, h⟩ := (b.modLane n fun l => { l with state := .idle, timer := none }).serviceChoice_outgoing n
  exact ⟨more, by unfold Blocks.enterIdle; rw [h]; simp [Lane.outgoing]⟩

@[simp] theorem Blocks.enterIdle_ctxs (b : Blocks) (n : LaneId) : (b.enterIdle n).ctxs = b.ctxs := by
  simp [Blocks.enterIdle]
@[simp] theorem Blocks.enterIdle_index (b : Blocks) (n : LaneId) : (b.enterIdle n).index = b.index := by
  simp [Blocks.enterIdle]
@[simp] theorem Blocks.enterIdle_fetchQ (b : Blocks) (n : LaneId) : (b.enterIdle n).fetchQ = b.fetchQ := by
  simp [Blocks.enterIdle]
@[simp] theorem Blocks.enterIdle_fetch (b : Blocks) (n : LaneId) : (b.enterIdle n).fetch = b.fetch := by
  simp [Blocks.enterIdle]
@[simp] theorem Blocks.enterIdle_window (b : Blocks) (n : LaneId) : (b.enterIdle n).window = b.window := by
  simp [Blocks.enterIdle]
@[simp] theorem Blocks.enterIdle_mem (b : Blocks) (n : LaneId) : (b.enterIdle n).mem = b.mem := by
  simp [Blocks.enterIdle]
@[simp] theorem Blocks.enterIdle_reports (b : Blocks) (n : LaneId) : (b.enterIdle n).reports = b.reports := by
  simp [Blocks.enterIdle]
@[simp] theorem Blocks.enterIdle_timebase (b : Blocks) (n : LaneId) : (b.enterIdle n).timebase = b.timebase := by
  simp [Blocks.enterIdle]
@[simp] theorem Blocks.enterIdle_laneFault (b : Blocks) (n : LaneId) : (b.enterIdle n).laneFault = b.laneFault := by
  simp [Blocks.enterIdle]
@[simp] theorem Blocks.enterIdle_choice (b : Blocks) (n : LaneId) : (b.enterIdle n).choice = b.choice := by
  simp [Blocks.enterIdle]
@[simp] theorem Blocks.enterIdle_ctx (b : Blocks) (n : LaneId) (k : Slot) : (b.enterIdle n).ctx k = b.ctx k := by
  simp [Blocks.ctx]
@[simp] theorem Blocks.enterIdle_lookup (b : Blocks) (n : LaneId) (m : LaneId) (u : UnitAddr) :
    (b.enterIdle n).lookup m u = b.lookup m u := by
  simp [Blocks.lookup]
@[simp] theorem Blocks.enterIdle_unitOf (b : Blocks) (n : LaneId) (k : Slot) : (b.enterIdle n).unitOf k = b.unitOf k := by
  simp [Blocks.unitOf]
@[simp] theorem Blocks.enterIdle_laneOf (b : Blocks) (n : LaneId) (k : Slot) : (b.enterIdle n).laneOf k = b.laneOf k := by
  simp [Blocks.laneOf]
@[simp] theorem Blocks.enterIdle_retriesOf (b : Blocks) (n : LaneId) (k : Slot) : (b.enterIdle n).retriesOf k = b.retriesOf k := by
  simp [Blocks.retriesOf]
theorem Blocks.enterIdle_lane_ne (b : Blocks) (n : LaneId) (m : LaneId) (hm : m ≠ n) : (b.enterIdle n).lane m = b.lane m := by
  simp [Blocks.enterIdle, Blocks.serviceChoice_lane_ne _ _ _ hm, Blocks.modLane_lane_ne _ _ _ _ hm]
@[simp] theorem Blocks.appendReady_ctxs (b : Blocks) (n : LaneId) (s : Slot) : (b.appendReady n s).ctxs = b.ctxs := by
  simp [Blocks.appendReady]
@[simp] theorem Blocks.appendReady_index (b : Blocks) (n : LaneId) (s : Slot) : (b.appendReady n s).index = b.index := by
  simp [Blocks.appendReady]
@[simp] theorem Blocks.appendReady_fetchQ (b : Blocks) (n : LaneId) (s : Slot) : (b.appendReady n s).fetchQ = b.fetchQ := by
  simp [Blocks.appendReady]
@[simp] theorem Blocks.appendReady_fetch (b : Blocks) (n : LaneId) (s : Slot) : (b.appendReady n s).fetch = b.fetch := by
  simp [Blocks.appendReady]
@[simp] theorem Blocks.appendReady_window (b : Blocks) (n : LaneId) (s : Slot) : (b.appendReady n s).window = b.window := by
  simp [Blocks.appendReady]
@[simp] theorem Blocks.appendReady_mem (b : Blocks) (n : LaneId) (s : Slot) : (b.appendReady n s).mem = b.mem := by
  simp [Blocks.appendReady]
@[simp] theorem Blocks.appendReady_reports (b : Blocks) (n : LaneId) (s : Slot) : (b.appendReady n s).reports = b.reports := by
  simp [Blocks.appendReady]
@[simp] theorem Blocks.appendReady_timebase (b : Blocks) (n : LaneId) (s : Slot) : (b.appendReady n s).timebase = b.timebase := by
  simp [Blocks.appendReady]
@[simp] theorem Blocks.appendReady_laneFault (b : Blocks) (n : LaneId) (s : Slot) : (b.appendReady n s).laneFault = b.laneFault := by
  simp [Blocks.appendReady]
@[simp] theorem Blocks.appendReady_choice (b : Blocks) (n : LaneId) (s : Slot) : (b.appendReady n s).choice = b.choice := by
  simp [Blocks.appendReady]
@[simp] theorem Blocks.appendReady_ctx (b : Blocks) (n : LaneId) (s : Slot) (k : Slot) : (b.appendReady n s).ctx k = b.ctx k := by
  simp [Blocks.ctx]
@[simp] theorem Blocks.appendReady_lookup (b : Blocks) (n : LaneId) (s : Slot) (m : LaneId) (u : UnitAddr) :
    (b.appendReady n s).lookup m u = b.lookup m u := by
  simp [Blocks.lookup]
@[simp] theorem Blocks.appendReady_unitOf (b : Blocks) (n : LaneId) (s : Slot) (k : Slot) : (b.appendReady n s).unitOf k = b.unitOf k := by
  simp [Blocks.unitOf]
@[simp] theorem Blocks.appendReady_laneOf (b : Blocks) (n : LaneId) (s : Slot) (k : Slot) : (b.appendReady n s).laneOf k = b.laneOf k := by
  simp [Blocks.laneOf]
@[simp] theorem Blocks.appendReady_retriesOf (b : Blocks) (n : LaneId) (s : Slot) (k : Slot) : (b.appendReady n s).retriesOf k = b.retriesOf k := by
  simp [Blocks.retriesOf]
theorem Blocks.appendReady_lane_ne (b : Blocks) (n : LaneId) (s : Slot) (m : LaneId) (hm : m ≠ n) : (b.appendReady n s).lane m = b.lane m := by
  simp [Blocks.appendReady, Blocks.serviceChoice_lane_ne _ _ _ hm, Blocks.modLane_lane_ne _ _ _ _ hm]
@[simp] theorem Blocks.appendHalt_ctxs (b : Blocks) (n : LaneId) (s : Slot) : (b.appendHalt n s).ctxs = b.ctxs := by
  simp [Blocks.appendHalt]
@[simp] theorem Blocks.appendHalt_index (b : Blocks) (n : LaneId) (s : Slot) : (b.appendHalt n s).index = b.index := by
  simp [Blocks.appendHalt]
@[simp] theorem Blocks.appendHalt_fetchQ (b : Blocks) (n : LaneId) (s : Slot) : (b.appendHalt n s).fetchQ = b.fetchQ := by
  simp [Blocks.appendHalt]
@[simp] theorem Blocks.appendHalt_fetch (b : Blocks) (n : LaneId) (s : Slot) : (b.appendHalt n s).fetch = b.fetch := by
  simp [Blocks.appendHalt]
@[simp] theorem Blocks.appendHalt_window (b : Blocks) (n : LaneId) (s : Slot) : (b.appendHalt n s).window = b.window := by
  simp [Blocks.appendHalt]
@[simp] theorem Blocks.appendHalt_mem (b : Blocks) (n : LaneId) (s : Slot) : (b.appendHalt n s).mem = b.mem := by
  simp [Blocks.appendHalt]
@[simp] theorem Blocks.appendHalt_reports (b : Blocks) (n : LaneId) (s : Slot) : (b.appendHalt n s).reports = b.reports := by
  simp [Blocks.appendHalt]
@[simp] theorem Blocks.appendHalt_timebase (b : Blocks) (n : LaneId) (s : Slot) : (b.appendHalt n s).timebase = b.timebase := by
  simp [Blocks.appendHalt]
@[simp] theorem Blocks.appendHalt_laneFault (b : Blocks) (n : LaneId) (s : Slot) : (b.appendHalt n s).laneFault = b.laneFault := by
  simp [Blocks.appendHalt]
@[simp] theorem Blocks.appendHalt_choice (b : Blocks) (n : LaneId) (s : Slot) : (b.appendHalt n s).choice = b.choice := by
  simp [Blocks.appendHalt]
@[simp] theorem Blocks.appendHalt_ctx (b : Blocks) (n : LaneId) (s : Slot) (k : Slot) : (b.appendHalt n s).ctx k = b.ctx k := by
  simp [Blocks.ctx]
@[simp] theorem Blocks.appendHalt_lookup (b : Blocks) (n : LaneId) (s : Slot) (m : LaneId) (u : UnitAddr) :
    (b.appendHalt n s).lookup m u = b.lookup m u := by
  simp [Blocks.lookup]
@[simp] theorem Blocks.appendHalt_unitOf (b : Blocks) (n : LaneId) (s : Slot) (k : Slot) : (b.appendHalt n s).unitOf k = b.unitOf k := by
  simp [Blocks.unitOf]
@[simp] theorem Blocks.appendHalt_laneOf (b : Blocks) (n : LaneId) (s : Slot) (k : Slot) : (b.appendHalt n s).laneOf k = b.laneOf k := by
  simp [Blocks.laneOf]
@[simp] theorem Blocks.appendHalt_retriesOf (b : Blocks) (n : LaneId) (s : Slot) (k : Slot) : (b.appendHalt n s).retriesOf k = b.retriesOf k := by
  simp [Blocks.retriesOf]
theorem Blocks.appendHalt_lane_ne (b : Blocks) (n : LaneId) (s : Slot) (m : LaneId) (hm : m ≠ n) : (b.appendHalt n s).lane m = b.lane m := by
  simp [Blocks.appendHalt, Blocks.serviceChoice_lane_ne _ _ _ hm, Blocks.modLane_lane_ne _ _ _ _ hm]
@[simp] theorem Blocks.dropFromLists_ctxs (b : Blocks) (n : LaneId) (s : Slot) : (b.dropFromLists n s).ctxs = b.ctxs := by
  rfl
@[simp] theorem Blocks.dropFromLists_index (b : Blocks) (n : LaneId) (s : Slot) : (b.dropFromLists n s).index = b.index := by
  rfl
@[simp] theorem Blocks.dropFromLists_fetchQ (b : Blocks) (n : LaneId) (s : Slot) : (b.dropFromLists n s).fetchQ = b.fetchQ := by
  rfl
@[simp] theorem Blocks.dropFromLists_fetch (b : Blocks) (n : LaneId) (s : Slot) : (b.dropFromLists n s).fetch = b.fetch := by
  rfl
@[simp] theorem Blocks.dropFromLists_window (b : Blocks) (n : LaneId) (s : Slot) : (b.dropFromLists n s).window = b.window := by
  rfl
@[simp] theorem Blocks.dropFromLists_mem (b : Blocks) (n : LaneId) (s : Slot) : (b.dropFromLists n s).mem = b.mem := by
  rfl
@[simp] theorem Blocks.dropFromLists_reports (b : Blocks) (n : LaneId) (s : Slot) : (b.dropFromLists n s).reports = b.reports := by
  rfl
@[simp] theorem Blocks.dropFromLists_timebase (b : Blocks) (n : LaneId) (s : Slot) : (b.dropFromLists n s).timebase = b.timebase := by
  rfl
@[simp] theorem Blocks.dropFromLists_laneFault (b : Blocks) (n : LaneId) (s : Slot) : (b.dropFromLists n s).laneFault = b.laneFault := by
  rfl
@[simp] theorem Blocks.dropFromLists_choice (b : Blocks) (n : LaneId) (s : Slot) : (b.dropFromLists n s).choice = b.choice := by
  rfl
@[simp] theorem Blocks.dropFromLists_ctx (b : Blocks) (n : LaneId) (s : Slot) (k : Slot) : (b.dropFromLists n s).ctx k = b.ctx k := by
  simp [Blocks.ctx]
@[simp] theorem Blocks.dropFromLists_lookup (b : Blocks) (n : LaneId) (s : Slot) (m : LaneId) (u : UnitAddr) :
    (b.dropFromLists n s).lookup m u = b.lookup m u := by
  simp [Blocks.lookup]
@[simp] theorem Blocks.dropFromLists_unitOf (b : Blocks) (n : LaneId) (s : Slot) (k : Slot) : (b.dropFromLists n s).unitOf k = b.unitOf k := by
  simp [Blocks.unitOf]
@[simp] theorem Blocks.dropFromLists_laneOf (b : Blocks) (n : LaneId) (s : Slot) (k : Slot) : (b.dropFromLists n s).laneOf k = b.laneOf k := by
  simp [Blocks.laneOf]
@[simp] theorem Blocks.dropFromLists_retriesOf (b : Blocks) (n : LaneId) (s : Slot) (k : Slot) : (b.dropFromLists n s).retriesOf k = b.retriesOf k := by
  simp [Blocks.retriesOf]
theorem Blocks.dropFromLists_lane_ne (b : Blocks) (n : LaneId) (s : Slot) (m : LaneId) (hm : m ≠ n) : (b.dropFromLists n s).lane m = b.lane m := by
  exact Blocks.modLane_lane_ne _ _ _ _ hm
@[simp] theorem Blocks.send_ctxs (b : Blocks) (n : LaneId) (f : PartFrame) : (b.send n f).ctxs = b.ctxs := by
  rfl
@[simp] theorem Blocks.send_index (b : Blocks) (n : LaneId) (f : PartFrame) : (b.send n f).index = b.index := by
  rfl
@[simp] theorem Blocks.send_fetchQ (b : Blocks) (n : LaneId) (f : PartFrame) : (b.send n f).fetchQ = b.fetchQ := by
  rfl
@[simp] theorem Blocks.send_fetch (b : Blocks) (n : LaneId) (f : PartFrame) : (b.send n f).fetch = b.fetch := by
  rfl
@[simp] theorem Blocks.send_window (b : Blocks) (n : LaneId) (f : PartFrame) : (b.send n f).window = b.window := by
  rfl
@[simp] theorem Blocks.send_mem (b : Blocks) (n : LaneId) (f : PartFrame) : (b.send n f).mem = b.mem := by
  rfl
@[simp] theorem Blocks.send_reports (b : Blocks) (n : LaneId) (f : PartFrame) : (b.send n f).reports = b.reports := by
  rfl
@[simp] theorem Blocks.send_timebase (b : Blocks) (n : LaneId) (f : PartFrame) : (b.send n f).timebase = b.timebase := by
  rfl
@[simp] theorem Blocks.send_laneFault (b : Blocks) (n : LaneId) (f : PartFrame) : (b.send n f).laneFault = b.laneFault := by
  rfl
@[simp] theorem Blocks.send_choice (b : Blocks) (n : LaneId) (f : PartFrame) : (b.send n f).choice = b.choice := by
  rfl
@[simp] theorem Blocks.send_ctx (b : Blocks) (n : LaneId) (f : PartFrame) (k : Slot) : (b.send n f).ctx k = b.ctx k := by
  simp [Blocks.ctx]
@[simp] theorem Blocks.send_lookup (b : Blocks) (n : LaneId) (f : PartFrame) (m : LaneId) (u : UnitAddr) :
    (b.send n f).lookup m u = b.lookup m u := by
  simp [Blocks.lookup]
@[simp] theorem Blocks.send_unitOf (b : Blocks) (n : LaneId) (f : PartFrame) (k : Slot) : (b.send n f).unitOf k = b.unitOf k := by
  simp [Blocks.unitOf]
@[simp] theorem Blocks.send_laneOf (b : Blocks) (n : LaneId) (f : PartFrame) (k : Slot) : (b.send n f).laneOf k = b.laneOf k := by
  simp [Blocks.laneOf]
@[simp] theorem Blocks.send_retriesOf (b : Blocks) (n : LaneId) (f : PartFrame) (k : Slot) : (b.send n f).retriesOf k = b.retriesOf k := by
  simp [Blocks.retriesOf]
theorem Blocks.send_lane_ne (b : Blocks) (n : LaneId) (f : PartFrame) (m : LaneId) (hm : m ≠ n) : (b.send n f).lane m = b.lane m := by
  exact Blocks.modLane_lane_ne _ _ _ _ hm
@[simp] theorem Blocks.enterIdle_readyQ (b : Blocks) (n m : LaneId) :
    ((b.enterIdle n).lane m).readyQ = (b.lane m).readyQ := by
  by_cases h : m = n
  · subst h; simp [Blocks.enterIdle]
  · rw [Blocks.enterIdle_lane_ne _ _ _ h]
@[simp] theorem Blocks.enterIdle_haltList (b : Blocks) (n m : LaneId) :
    ((b.enterIdle n).lane m).haltList = (b.lane m).haltList := by
  by_cases h : m = n
  · subst h; simp [Blocks.enterIdle]
  · rw [Blocks.enterIdle_lane_ne _ _ _ h]
@[simp] theorem Blocks.appendHalt_haltList (b : Blocks) (n : LaneId) (s : Slot) :
    ((b.appendHalt n s).lane n).haltList = (b.lane n).haltList ++ [s] := by simp [Blocks.appendHalt]
@[simp] theorem Blocks.appendReady_readyQ (b : Blocks) (n : LaneId) (s : Slot) :
    ((b.appendReady n s).lane n).readyQ = (b.lane n).readyQ ++ [s] := by simp [Blocks.appendReady]
@[simp] theorem Blocks.send_lane_same (b : Blocks) (n : LaneId) (f : PartFrame) :
    (b.send n f).lane n = (b.lane n).send f := by simp [Blocks.send]

end Sys2Proof.Machine
end

