-- ==== Sys2Proof/Laws/Commands.lean ====
section
/-!
SUPPORT. What a register write, the request handler and the taking of a frame can do, said once for all their commands.
-/
namespace Sys2Proof.Machine

/-! ### Register writes -/

/-- A write with a strobe set is carried out while PSTAT shows READY. -/
theorem State.onWrite_taken (s : State) (st : BitVec 4) (f : State → State) (hp : s.port.pstat = .ready) (hs : st ≠ 0) :
    s.onWrite st f = f s := if_pos ⟨hp, hs⟩

/-- Any other write is ignored. -/
theorem State.onWrite_ignored (s : State) (st : BitVec 4) (f : State → State)
    (h : s.port.pstat = .resetting ∨ st = 0) : s.onWrite st f = s := by
  refine if_neg fun ⟨hp, hs⟩ => ?_
  rcases h with h | h
  · simp [h] at hp
  · exact hs h

/-- A write keeps the queue of commands when what it does keeps it. -/
theorem State.onWrite_pending (s : State) (st : BitVec 4) (f : State → State) (h : (f s).pending = s.pending) :
    (s.onWrite st f).pending = s.pending := by
  unfold State.onWrite
  split
  · exact h
  · rfl

theorem State.writeRegister_pending (s : State) (o : BitVec 7) (v : Word) (st : BitVec 4) :
    (s.writeRegister o v st).pending = s.pending := by
  unfold State.writeRegister
  split <;> rfl

/-! ### The update count -/

@[simp] theorem Blocks.settled_self (b : Blocks) : b.settled b = b := by simp [Blocks.settled]

/-- An event that leaves the report queue's head report as it was leaves the update count. -/
theorem Blocks.settled_of_shown (b c : Blocks) (h : c.shown = b.shown) (hu : c.reports.update = b.reports.update) :
    b.settled c = c := by simp [Blocks.settled, h, ← hu]

/-- What the attention slot shows depends on the report queue and the records alone. -/
theorem Blocks.shown_congr (b c : Blocks) (hq : c.reports.queue = b.reports.queue) (hc : c.ctxs = b.ctxs) :
    c.shown = b.shown := by simp [Blocks.shown, Blocks.ctx, hq, hc]

/-- An event that changes neither the records nor the report unit leaves the update count. -/
theorem Blocks.settled_of_same (b c : Blocks) (hr : c.reports = b.reports) (hc : c.ctxs = b.ctxs) : b.settled c = c :=
  b.settled_of_shown c (b.shown_congr c (by rw [hr]) hc) (by rw [hr])

/-! ### The request handler -/

/-- The state after a request is taken with this outcome. -/
def State.answeredWith (s : State) (r : Request) (rest : List Request) (out : Blocks × Answer) : State :=
  { s with
    port :=
      { s.port with
        reqs := rest, resps := s.port.resps ++ [⟨r.tag, out.2.result, out.2.d1, out.2.d2, out.2.d3⟩] }
    blocks := s.blocks.settled out.1 }

/-- A request that the handler may take and that passes its range checks is carried out and answered. -/
theorem State.handle_taken (s : State) (code : ReqCode) (act : Request → Blocks → Blocks × Answer) (r : Request)
    (rest : List Request) (hr : s.port.reqs = r :: rest) (hl : s.port.resps.length < 8) (hp : s.port.pstat = .ready)
    (hc : r.code = code) (hi : r.inRange = true) : s.handle code act = s.answeredWith r rest (act r s.blocks) := by
  simp [State.handle, State.answeredWith, Config.fifoCapacity, hr, hl, hp, hc, hi]

/-- One that fails a range check is answered with BAD_REQUEST and changes nothing (R35). -/
theorem State.handle_bad (s : State) (code : ReqCode) (act : Request → Blocks → Blocks × Answer) (r : Request)
    (rest : List Request) (hr : s.port.reqs = r :: rest) (hl : s.port.resps.length < 8) (hp : s.port.pstat = .ready)
    (hc : r.code = code) (hi : r.inRange = false) :
    s.handle code act = s.answeredWith r rest (s.blocks, bare .badRequest) := by
  simp [State.handle, State.answeredWith, Config.fifoCapacity, hr, hl, hp, hc, hi]

/-- Nothing is taken while one of the three conditions of R33 fails. -/
theorem State.handle_waits (s : State) (code : ReqCode) (act : Request → Blocks → Blocks × Answer)
    (h : s.port.reqs = [] ∨ 8 ≤ s.port.resps.length ∨ s.port.pstat = .resetting) : s.handle code act = s := by
  unfold State.handle
  split
  · rfl
  · rename_i hq
    refine if_neg fun ⟨hp, hl, _⟩ => ?_
    rcases h with h | h | h
    · simp [h] at hq
    · simp only [Config.fifoCapacity] at hl; omega
    · simp [h] at hp

theorem State.handle_pending (s : State) (code : ReqCode) (act : Request → Blocks → Blocks × Answer) :
    (s.handle code act).pending = s.pending := by
  unfold State.handle
  split
  · rfl
  · split <;> rfl

/-- The handler neither reads nor writes the staging words (R31). -/
theorem State.handle_rqw (s : State) (code : ReqCode) (act : Request → Blocks → Blocks × Answer)
    (words : Vector Word 4) :
    State.handle { s with port := { s.port with rqw := words } } code act =
      { s.handle code act with port := { (s.handle code act).port with rqw := words } } := by
  unfold State.handle
  simp only
  split
  · rfl
  · split <;> rfl

/-- A request on a bound unit acts on its slot (R36). -/
theorem Blocks.onBound_some (b : Blocks) (r : Request) (un : Blocks × Answer) (act : Slot → Blocks × Answer) (k : Slot)
    (h : b.lookup r.lane r.unit = some k) : b.onBound r un act = act k := by simp [Blocks.onBound, h]

/-- A request on an unbound unit is answered as R36 says. -/
theorem Blocks.onBound_none (b : Blocks) (r : Request) (un : Blocks × Answer) (act : Slot → Blocks × Answer)
    (h : b.lookup r.lane r.unit = none) : b.onBound r un act = un := by simp [Blocks.onBound, h]

/-- The slot OPEN binds: the lowest FREE one (R5). -/
theorem Blocks.lowestFree_eq_some (b : Blocks) (k : Slot) (h : (b.ctx k).state = .free)
    (hmin : ∀ j : Slot, j < k → (b.ctx j).state ≠ .free) : b.lowestFree = some k := by
  unfold Blocks.lowestFree allSlots
  rw [List.find?_eq_some_iff_append]
  refine ⟨by simp [h], (List.finRange 40).take k.val, (List.finRange 40).drop (k.val + 1), ?_, ?_⟩
  · have hk : k.val < (List.finRange 40).length := by simp
    have hget : (List.finRange 40)[k.val] = k := by simp
    conv_lhs => rw [← List.take_append_drop k.val (List.finRange 40)]
    rw [List.drop_eq_getElem_cons hk, hget]
  · intro j hj
    have hlt : j < k := by
      obtain ⟨i, hi, rfl⟩ := List.getElem_of_mem hj
      simp at hi ⊢
      exact hi
    simpa using hmin j hlt

/-- With no slot FREE there is none to bind. -/
theorem Blocks.lowestFree_eq_none (b : Blocks) (h : ∀ k : Slot, (b.ctx k).state ≠ .free) : b.lowestFree = none := by
  simp [Blocks.lowestFree, allSlots, h]

/-- LANE on an enabled lane that is not in L_FAULT (R44). -/
theorem Blocks.doLane_active (r : Request) (b : Blocks) (hf : (b.lane r.lane).state ≠ .fault)
    (hd : (b.lane r.lane).state ≠ .disabled) :
    Blocks.doLane r b =
      if r.enable && !(b.lane r.lane).paramsChange r then
        (b, laneAnswer .accepted (b.lane r.lane).state (b.lane r.lane).state)
      else if b.runningOn r.lane ≠ 0 then (b, withFields .busy [⟨0, 6, b.runningOn r.lane⟩])
      else
        (b.setLane r.lane ((b.lane r.lane).controlled r),
          laneAnswer .accepted (b.lane r.lane).state ((b.lane r.lane).controlled r).state) := by
  unfold Blocks.doLane
  simp only

/-- A lane whose engine is set to what it is has not changed. -/
theorem Blocks.setLane_self (b : Blocks) (n : LaneId) : b.setLane n (b.lane n) = b := by
  unfold Blocks.setLane Blocks.lane
  show { b with lanes := b.lanes.set n.val b.lanes[n.val] n.isLt } = b
  simp

/-! ### Taking a frame -/

/-- A valid frame that the receiver assembled is taken, the receiver listening again and a frame that waited on its way. -/
theorem Blocks.takeFrame_valid (b : Blocks) (n : LaneId) (lost : Bool) (f : Blocks → Blocks)
    (h : (b.lane n).rx.isAssembling = true) :
    b.takeFrame n true lost f = f (b.modLane n (·.endReception .listening)) := by simp [Blocks.takeFrame, h]

/-- A frame that no receiver assembled does nothing. -/
theorem Blocks.takeFrame_deaf (b : Blocks) (n : LaneId) (valid lost : Bool) (f : Blocks → Blocks)
    (h : (b.lane n).rx.isAssembling = false) : b.takeFrame n valid lost f = b := by simp [Blocks.takeFrame, h]

/-- In L_COMMANDING, L_TRANSFER, L_LINK_FETCH and L_ENDING a frame of the served unit is acted on. -/
theorem Blocks.inConnection_served (b : Blocks) (n : LaneId) (addr : UnitAddr) (act : Blocks → Blocks)
    (hs : (b.lane n).state = .commanding ∨ (b.lane n).state = .transfer ∨ (b.lane n).state = .linkFetch ∨
      (b.lane n).state = .ending) (ha : addr = b.servedUnit n) : b.inConnection n addr act = act b := by
  unfold Blocks.inConnection
  rcases hs with h | h | h | h <;> simp [h, ha]

end Sys2Proof.Machine
end

