-- ==== Sys2Proof/Laws/Endings.lean ====
section
/-!
SUPPORT. What ending a context, freeing its lane and detaching can do, said once for every command that does so.
-/
namespace Sys2Proof.Machine

/-! ### The ending of a context (R7) -/

/-! ### Posting the final report (R157) -/

/-- A context that is not FREE is REPORTED, and its entry is posted. -/
theorem Blocks.postFinal_eq (b : Blocks) (s : Slot) (named : List Named) (h : (b.ctx s).state ≠ .free) :
    b.postFinal s named =
      { b.modCtx s (·.toReported s named) with
        reports := { b.reports with queue := postFinalEntry b.reports.queue s } } := if_neg h

/-- Posting changes the records and the report queue alone. -/
theorem Blocks.postFinal_spec (b : Blocks) (s : Slot) (named : List Named) :
    ∃ c q, b.postFinal s named = { b with ctxs := c, reports := { b.reports with queue := q } } := by
  unfold Blocks.postFinal
  split
  · exact ⟨_, _, rfl⟩
  · exact ⟨_, _, rfl⟩

@[simp] theorem Blocks.postFinal_lane (b : Blocks) (s : Slot) (named : List Named) (m : LaneId) :
    (b.postFinal s named).lane m = b.lane m := by obtain ⟨c, q, h⟩ := b.postFinal_spec s named; rw [h]; rfl

theorem Blocks.endContext_ctx_same (b : Blocks) (s : Slot) (named : List Named) (h : (b.ctx s).state ≠ .free) :
    (b.endContext s named).ctx s = (b.ctx s).toReported s named := by
  rw [Blocks.endContext, Blocks.postFinal_eq _ _ _ (by simpa using h)]
  show (((b.dropFromLists (b.laneOf s) s).withdrawFetch s).modCtx s (·.toReported s named)).ctx s = _
  simp

theorem Blocks.endContext_ctx_ne (b : Blocks) (s k : Slot) (named : List Named) (h : k ≠ s) :
    (b.endContext s named).ctx k = b.ctx k := by
  unfold Blocks.endContext Blocks.postFinal
  split
  · simp
  · show (((b.dropFromLists (b.laneOf s) s).withdrawFetch s).modCtx s (·.toReported s named)).ctx k = _
    rw [Blocks.modCtx_ctx_ne _ _ _ _ h]
    simp

/-- The ending takes the slot out of the lists of its own lane. -/
theorem Blocks.endContext_lane (b : Blocks) (s : Slot) (named : List Named) (m : LaneId) :
    (b.endContext s named).lane m = (b.dropFromLists (b.laneOf s) s).lane m := by simp [Blocks.endContext]

theorem Blocks.endContext_lane_ne (b : Blocks) (s : Slot) (named : List Named) (m : LaneId) (h : m ≠ b.laneOf s) :
    (b.endContext s named).lane m = b.lane m := by
  rw [Blocks.endContext_lane, Blocks.dropFromLists_lane_ne _ _ _ _ h]

/-- Apart from the lists that hold the slot, the ending leaves every lane as it was. -/
theorem Blocks.endContext_lane_lists (b : Blocks) (s : Slot) (named : List Named) (m : LaneId) :
    (b.endContext s named).lane m =
      { b.lane m with
        readyQ := ((b.endContext s named).lane m).readyQ, haltList := ((b.endContext s named).lane m).haltList } := by
  rw [Blocks.endContext_lane]
  by_cases h : m = b.laneOf s
  · subst h; simp [Blocks.dropFromLists]
  · rw [Blocks.dropFromLists_lane_ne _ _ _ _ h]

@[simp] theorem Blocks.endContext_index (b : Blocks) (s : Slot) (named : List Named) :
    (b.endContext s named).index = b.index := by
  obtain ⟨c, q, h⟩ := ((b.dropFromLists (b.laneOf s) s).withdrawFetch s).postFinal_spec s named
  rw [Blocks.endContext, h]; simp
@[simp] theorem Blocks.endContext_window (b : Blocks) (s : Slot) (named : List Named) :
    (b.endContext s named).window = b.window := by
  obtain ⟨c, q, h⟩ := ((b.dropFromLists (b.laneOf s) s).withdrawFetch s).postFinal_spec s named
  rw [Blocks.endContext, h]; simp
@[simp] theorem Blocks.endContext_timebase (b : Blocks) (s : Slot) (named : List Named) :
    (b.endContext s named).timebase = b.timebase := by
  obtain ⟨c, q, h⟩ := ((b.dropFromLists (b.laneOf s) s).withdrawFetch s).postFinal_spec s named
  rw [Blocks.endContext, h]; simp
@[simp] theorem Blocks.endContext_laneFault (b : Blocks) (s : Slot) (named : List Named) :
    (b.endContext s named).laneFault = b.laneFault := by
  obtain ⟨c, q, h⟩ := ((b.dropFromLists (b.laneOf s) s).withdrawFetch s).postFinal_spec s named
  rw [Blocks.endContext, h]; simp
@[simp] theorem Blocks.endContext_choice (b : Blocks) (s : Slot) (named : List Named) :
    (b.endContext s named).choice = b.choice := by
  obtain ⟨c, q, h⟩ := ((b.dropFromLists (b.laneOf s) s).withdrawFetch s).postFinal_spec s named
  rw [Blocks.endContext, h]; simp
theorem Blocks.endContext_queue (b : Blocks) (s : Slot) (named : List Named) (h : (b.ctx s).state ≠ .free) :
    (b.endContext s named).reports.queue = postFinalEntry b.reports.queue s := by
  rw [Blocks.endContext, Blocks.postFinal_eq _ _ _ (by simpa using h)]
  show postFinalEntry ((b.dropFromLists (b.laneOf s) s).withdrawFetch s).reports.queue s = _
  simp

/-- The binding of an ended context stands. -/
@[simp] theorem Blocks.endContext_binding (b : Blocks) (s : Slot) (named : List Named) (k : Slot) :
    ((b.endContext s named).ctx k).binding = (b.ctx k).binding := by
  by_cases hk : k = s
  · subst hk
    by_cases h : (b.ctx k).state = .free
    · simp [Blocks.endContext, Blocks.postFinal, h]
    · rw [Blocks.endContext_ctx_same _ _ _ h]; rfl
  · rw [Blocks.endContext_ctx_ne _ _ _ _ hk]

@[simp] theorem Blocks.endContext_unitOf (b : Blocks) (s : Slot) (named : List Named) (k : Slot) :
    (b.endContext s named).unitOf k = b.unitOf k := by simp [Blocks.unitOf]
@[simp] theorem Blocks.endContext_laneOf (b : Blocks) (s : Slot) (named : List Named) (k : Slot) :
    (b.endContext s named).laneOf k = b.laneOf k := by simp [Blocks.laneOf]

/-- An ended context is REPORTED with the class chosen of those named (R152). -/
theorem Context.toReported_final (c : Context) (s : Slot) (named : List Named) :
    (c.toReported s named).state = .reported ∧
      ∃ f, (c.toReported s named).final = some f ∧ f.cls = (chooseClass named).cls := ⟨rfl, _, rfl, rfl⟩

end Sys2Proof.Machine
end

