-- ==== Sys2Proof/Laws/HalfDuplex.lean ====
section
/-!
SUPPORT. The shared operations keep every lane half-duplex (R74): one lemma for each, for whoever proves it of a step.
-/
namespace Sys2Proof.Machine

/-! ### One lane -/

/-- A lane whose enable, BREAK, wire and receiver are as they were is half-duplex as it was. -/
theorem Lane.halfDuplex_of_same (l k : Lane) (h : l.halfDuplex) (he : l.enable = true → k.enable = true)
    (hb : k.brk = l.brk) (ht : k.tx = l.tx) (hr : k.rx = l.rx) : k.halfDuplex := by
  intro ha
  have hl := h (hr ▸ ha)
  simp only [Lane.listens, Bool.and_eq_true] at hl ⊢
  exact ⟨⟨he hl.1.1, hb ▸ hl.1.2⟩, ht ▸ hl.2⟩

/-- A lane that receives nothing is half-duplex. -/
theorem Lane.halfDuplex_of_deaf (l : Lane) (h : l.rx.isAssembling = false) : l.halfDuplex := by
  intro ha
  simp [h] at ha

theorem Receiver.deafened_isAssembling (r : Receiver) : r.deafened.isAssembling = false := by cases r <;> rfl

/-- A frame goes out only while the receiver assembles none. -/
theorem Lane.drive_halfDuplex (l : Lane) (h : l.halfDuplex) : l.drive.halfDuplex := by
  unfold Lane.drive
  split
  · rename_i hc
    have hr : l.rx.isAssembling = false := by simpa using (Bool.and_eq_true_iff.mp hc).2
    split
    · exact h
    · exact Lane.halfDuplex_of_deaf _ hr
  · exact h

theorem Lane.send_halfDuplex (l : Lane) (f : PartFrame) (h : l.halfDuplex) : (l.send f).halfDuplex :=
  Lane.drive_halfDuplex _ (Lane.halfDuplex_of_same l _ h id rfl rfl rfl)

theorem Lane.endReception_halfDuplex (l : Lane) (rx : Receiver) (h : rx.isAssembling = false) :
    (l.endReception rx).halfDuplex := Lane.drive_halfDuplex _ (Lane.halfDuplex_of_deaf _ h)

theorem Lane.release_halfDuplex (l : Lane) (h : l.halfDuplex) : l.release.halfDuplex :=
  Lane.halfDuplex_of_same l _ h id rfl rfl rfl

theorem Lane.startPoll_halfDuplex (l : Lane) (h : l.halfDuplex) : l.startPoll.halfDuplex :=
  Lane.send_halfDuplex _ _ (Lane.halfDuplex_of_same l _ h (fun _ => rfl) rfl rfl rfl)

theorem Lane.startSelection_halfDuplex (l : Lane) (s : Slot) (k : ServiceKind) (u : UnitAddr) (h : l.halfDuplex) :
    (l.startSelection s k u).halfDuplex :=
  Lane.send_halfDuplex _ _ (Lane.halfDuplex_of_same l _ h (fun _ => rfl) rfl rfl rfl)

theorem Lane.command_halfDuplex (l : Lane) (u : UnitAddr) (h : l.halfDuplex) : (l.command u).halfDuplex := by
  unfold Lane.command
  simp only
  split
  · exact Lane.send_halfDuplex _ _ (Lane.halfDuplex_of_same l _ h (fun _ => rfl) rfl rfl rfl)
  · exact Lane.halfDuplex_of_same l _ h (fun _ => rfl) rfl rfl rfl

/-! ### The lanes of the part -/

/-- Only the lanes bear on it. -/
theorem Blocks.halfDuplex_of_lanes (b c : Blocks) (h : b.halfDuplex) (hl : ∀ n, c.lane n = b.lane n) :
    c.halfDuplex := fun n => hl n ▸ h n

theorem Blocks.setLane_halfDuplex (b : Blocks) (n : LaneId) (l : Lane) (h : b.halfDuplex) (hl : l.halfDuplex) :
    (b.setLane n l).halfDuplex := by
  intro m
  by_cases hm : m = n
  · subst hm; simpa using hl
  · rw [Blocks.setLane_lane_ne _ _ _ _ hm]; exact h m

theorem Blocks.modLane_halfDuplex (b : Blocks) (n : LaneId) (f : Lane → Lane) (h : b.halfDuplex)
    (hf : (b.lane n).halfDuplex → (f (b.lane n)).halfDuplex) : (b.modLane n f).halfDuplex :=
  b.setLane_halfDuplex n _ h (hf (h n))

/-- A change of a lane that touches neither its enable, its BREAK, its wire nor its receiver. -/
theorem Blocks.modLane_halfDuplex_of_same (b : Blocks) (n : LaneId) (f : Lane → Lane) (h : b.halfDuplex)
    (he : ∀ l : Lane, l.enable = true → (f l).enable = true) (hb : ∀ l, (f l).brk = l.brk)
    (ht : ∀ l, (f l).tx = l.tx) (hr : ∀ l, (f l).rx = l.rx) : (b.modLane n f).halfDuplex :=
  b.modLane_halfDuplex n f h fun hl => Lane.halfDuplex_of_same _ _ hl (he _) (hb _) (ht _) (hr _)

theorem Blocks.modCtx_halfDuplex (b : Blocks) (s : Slot) (f : Context → Context) (h : b.halfDuplex) :
    (b.modCtx s f).halfDuplex := b.halfDuplex_of_lanes _ h fun _ => rfl

theorem Blocks.setCtx_halfDuplex (b : Blocks) (s : Slot) (c : Context) (h : b.halfDuplex) :
    (b.setCtx s c).halfDuplex := b.halfDuplex_of_lanes _ h fun _ => rfl

theorem Blocks.send_halfDuplex (b : Blocks) (n : LaneId) (f : PartFrame) (h : b.halfDuplex) :
    (b.send n f).halfDuplex := b.modLane_halfDuplex n _ h (Lane.send_halfDuplex _ f)

theorem Blocks.withdrawFetch_halfDuplex (b : Blocks) (s : Slot) (h : b.halfDuplex) :
    (b.withdrawFetch s).halfDuplex := b.halfDuplex_of_lanes _ h fun _ => by simp

theorem Blocks.appendLink_halfDuplex (b : Blocks) (s : Slot) (h : b.halfDuplex) : (b.appendLink s).halfDuplex :=
  b.halfDuplex_of_lanes _ h fun _ => by simp

theorem Blocks.askLane_halfDuplex (b : Blocks) (n : LaneId) (r : MemReq) (h : b.halfDuplex) :
    (b.askLane n r).halfDuplex := b.halfDuplex_of_lanes _ h fun _ => by simp

theorem Blocks.serviceChoice_halfDuplex (b : Blocks) (n : LaneId) (h : b.halfDuplex) :
    (b.serviceChoice n).halfDuplex := by
  intro m
  by_cases hm : m = n
  · subst hm
    rcases b.serviceChoice_lane_same m with e | e | ⟨s, k, e⟩ <;> rw [e]
    · exact h m
    · exact Lane.startPoll_halfDuplex _ (h m)
    · exact Lane.startSelection_halfDuplex _ _ _ _ (h m)
  · rw [Blocks.serviceChoice_lane_ne _ _ _ hm]; exact h m

theorem Blocks.enterIdle_halfDuplex (b : Blocks) (n : LaneId) (h : b.halfDuplex) : (b.enterIdle n).halfDuplex :=
  Blocks.serviceChoice_halfDuplex _ n
    (b.modLane_halfDuplex_of_same n _ h (fun _ _ => rfl) (fun _ => rfl) (fun _ => rfl) (fun _ => rfl))

theorem Blocks.appendReady_halfDuplex (b : Blocks) (n : LaneId) (s : Slot) (h : b.halfDuplex) :
    (b.appendReady n s).halfDuplex :=
  Blocks.serviceChoice_halfDuplex _ n
    (b.modLane_halfDuplex_of_same n _ h (fun _ => id) (fun _ => rfl) (fun _ => rfl) (fun _ => rfl))

theorem Blocks.appendHalt_halfDuplex (b : Blocks) (n : LaneId) (s : Slot) (h : b.halfDuplex) :
    (b.appendHalt n s).halfDuplex :=
  Blocks.serviceChoice_halfDuplex _ n
    (b.modLane_halfDuplex_of_same n _ h (fun _ => id) (fun _ => rfl) (fun _ => rfl) (fun _ => rfl))

theorem Blocks.dropFromLists_halfDuplex (b : Blocks) (n : LaneId) (s : Slot) (h : b.halfDuplex) :
    (b.dropFromLists n s).halfDuplex :=
  b.modLane_halfDuplex_of_same n _ h (fun _ => id) (fun _ => rfl) (fun _ => rfl) (fun _ => rfl)

theorem Blocks.release_halfDuplex (b : Blocks) (n : LaneId) (h : b.halfDuplex) :
    (b.modLane n (·.release)).halfDuplex := b.modLane_halfDuplex n _ h (Lane.release_halfDuplex _)

theorem Blocks.writeBack_halfDuplex (b : Blocks) (n : LaneId) (h : b.halfDuplex) : (b.writeBack n).halfDuplex := by
  unfold Blocks.writeBack
  split
  · exact Blocks.modCtx_halfDuplex _ _ _ h
  all_goals exact h

theorem Blocks.endContext_halfDuplex (b : Blocks) (s : Slot) (named : List Named) (h : b.halfDuplex) :
    (b.endContext s named).halfDuplex :=
  Blocks.halfDuplex_of_lanes _ _ (b.dropFromLists_halfDuplex (b.laneOf s) s h) (b.endContext_lane s named)

theorem Blocks.endServed_halfDuplex (b : Blocks) (n : LaneId) (named : List Named) (h : b.halfDuplex) :
    (b.endServed n named).halfDuplex := by
  unfold Blocks.endServed
  split
  · exact Blocks.enterIdle_halfDuplex _ _ (Blocks.release_halfDuplex _ _ (Blocks.endContext_halfDuplex _ _ _ (b.writeBack_halfDuplex n h)))
  · exact h

theorem Blocks.detachContext_halfDuplex (b : Blocks) (n : LaneId) (aw : Awaiting) (h : b.halfDuplex) :
    (b.detachContext n aw).halfDuplex := by
  unfold Blocks.detachContext
  split
  · refine Blocks.enterIdle_halfDuplex _ _ (Blocks.modLane_halfDuplex _ _ _
      (Blocks.modCtx_halfDuplex _ _ _ (Blocks.send_halfDuplex _ _ _ (b.writeBack_halfDuplex n h))) fun hl => ?_)
    simp only
    split
    · exact Lane.halfDuplex_of_same _ _ (Lane.release_halfDuplex _ hl) id rfl rfl rfl
    · exact Lane.release_halfDuplex _ hl
  · exact h

theorem Blocks.postNoteEntry_halfDuplex (b : Blocks) (s : Slot) (h : b.halfDuplex) :
    (b.postNoteEntry s).halfDuplex := by
  unfold Blocks.postNoteEntry
  simp only
  split
  · exact b.halfDuplex_of_lanes _ h fun _ => rfl
  · exact h

theorem Blocks.postNote_halfDuplex (b : Blocks) (n : LaneId) (h : b.halfDuplex) : (b.postNote n).halfDuplex := by
  unfold Blocks.postNote
  simp only
  split
  · split
    · exact Blocks.modLane_halfDuplex_of_same _ n _
        (Blocks.postNoteEntry_halfDuplex _ _ (b.writeBack_halfDuplex n h))
        (fun _ => id) (fun _ => rfl) (fun _ => rfl) (fun _ => rfl)
    · exact h
  · exact h

theorem Blocks.takeStatus_halfDuplex (b : Blocks) (n : LaneId) (status : Byte) (h : b.halfDuplex) :
    (b.takeStatus n status).halfDuplex := by
  unfold Blocks.takeStatus
  split
  · exact Blocks.modCtx_halfDuplex _ _ _ h
  · exact h

theorem Blocks.frameStatus_halfDuplex (b : Blocks) (n : LaneId) (addr : UnitAddr) (status : Byte) (h : b.halfDuplex) :
    (b.frameStatus n addr status).halfDuplex := by
  unfold Blocks.frameStatus
  split
  · exact Blocks.takeStatus_halfDuplex _ _ _ h
  · exact h

theorem Blocks.addServedFlag_halfDuplex (b : Blocks) (n : LaneId) (f : CtxFlags → CtxFlags) (h : b.halfDuplex) :
    (b.addServedFlag n f).halfDuplex := by
  unfold Blocks.addServedFlag
  split
  · exact Blocks.modCtx_halfDuplex _ _ _ h
  · exact h

theorem Blocks.grantHead_halfDuplex (b : Blocks) (h : b.halfDuplex) : b.grantHead.halfDuplex := by
  unfold Blocks.grantHead
  split
  · exact h
  · exact Blocks.modLane_halfDuplex _ _ _ (Blocks.halfDuplex_of_lanes _ _ h fun _ => rfl)
      (Lane.command_halfDuplex _ _)

theorem Blocks.grantRun_halfDuplex (k : Nat) (b : Blocks) (h : b.halfDuplex) : (Blocks.grantRun k b).halfDuplex := by
  induction k generalizing b with
  | zero => exact h
  | succ k ih =>
    unfold Blocks.grantRun
    split
    · exact ih _ (b.grantHead_halfDuplex h)
    · exact h

theorem Blocks.grantDecision_halfDuplex (b : Blocks) (h : b.halfDuplex) : b.grantDecision.halfDuplex :=
  Blocks.grantRun_halfDuplex _ _ (Blocks.halfDuplex_of_lanes _ _ h fun _ => rfl)

theorem Blocks.decideIfAsked_halfDuplex (b : Blocks) (h : b.halfDuplex) : b.decideIfAsked.halfDuplex := by
  unfold Blocks.decideIfAsked
  split
  · exact b.grantDecision_halfDuplex h
  · exact h

theorem Blocks.answerAsking_halfDuplex (b : Blocks) (waits : Bool) (h : b.halfDuplex) :
    (b.answerAsking waits).halfDuplex := by
  unfold Blocks.answerAsking
  have h1 : ({ b with choice := b.choice + 1 } : Blocks).halfDuplex := Blocks.halfDuplex_of_lanes _ _ h fun _ => rfl
  simp only
  split
  · split
    · exact h1
    · exact Blocks.grantDecision_halfDuplex _ h1
  · exact b.decideIfAsked_halfDuplex h

theorem Blocks.joinPermit_halfDuplex (b : Blocks) (n : LaneId) (h : b.halfDuplex) : (b.joinPermit n).halfDuplex :=
  Blocks.halfDuplex_of_lanes _ _
    (b.modLane_halfDuplex_of_same n (fun l => { l with state := .permitWait, timer := none }) h (fun _ _ => rfl)
      (fun _ => rfl) (fun _ => rfl) (fun _ => rfl)) fun _ => rfl

theorem Blocks.dropRead_halfDuplex (b : Blocks) (n : LaneId) (h : b.halfDuplex) : (b.dropRead n).halfDuplex := by
  unfold Blocks.dropRead
  split
  · split
    · exact h
    · split
      · exact Blocks.modLane_halfDuplex_of_same _ n _ (Blocks.halfDuplex_of_lanes _ _ h fun _ => rfl)
          (fun _ => id) (fun _ => rfl) (fun _ => rfl) (fun _ => rfl)
      · exact b.modLane_halfDuplex_of_same n _ h (fun _ => id) (fun _ => rfl) (fun _ => rfl) (fun _ => rfl)
  · exact h

theorem Blocks.dropWrite_halfDuplex (b : Blocks) (n : LaneId) (h : b.halfDuplex) : (b.dropWrite n).halfDuplex := by
  unfold Blocks.dropWrite
  split
  · split
    · exact Blocks.modLane_halfDuplex_of_same _ n _ (Blocks.halfDuplex_of_lanes _ _ h fun _ => rfl)
        (fun _ => id) (fun _ => rfl) (fun _ => rfl) (fun _ => rfl)
    · exact h
  · exact h

theorem Lane.keepWriteOnly_halfDuplex (l : Lane) (h : l.halfDuplex) : l.keepWriteOnly.halfDuplex := by
  unfold Lane.keepWriteOnly
  split
  · split <;> exact Lane.halfDuplex_of_same l _ h id rfl rfl rfl
  · exact Lane.halfDuplex_of_same l _ h id rfl rfl rfl

theorem Blocks.enterAborting_halfDuplex (b : Blocks) (n : LaneId) (cause : AbortCause) (h : b.halfDuplex) :
    (b.enterAborting n cause).halfDuplex := by
  unfold Blocks.enterAborting
  simp only
  refine Blocks.send_halfDuplex _ _ _ (Blocks.modLane_halfDuplex _ _ _ ?_ fun hl =>
    Lane.halfDuplex_of_same _ _ (Lane.keepWriteOnly_halfDuplex _ hl) (fun _ => rfl) rfl rfl rfl)
  have h1 : (b.leavePermit n).halfDuplex := Blocks.halfDuplex_of_lanes _ _ h fun _ => rfl
  have h2 : (match ((b.leavePermit n).lane n).servedSlot with
      | some s => (b.leavePermit n).withdrawFetch s
      | none => b.leavePermit n).halfDuplex := by
    split
    · exact Blocks.withdrawFetch_halfDuplex _ _ h1
    · exact h1
  split
  · exact Blocks.dropWrite_halfDuplex _ _ (Blocks.dropRead_halfDuplex _ _ h2)
  · exact Blocks.dropRead_halfDuplex _ _ h2

theorem Blocks.linkError_halfDuplex (b : Blocks) (n : LaneId) (h : b.halfDuplex) : (b.linkError n).halfDuplex :=
  b.enterAborting_halfDuplex n _ h

theorem Blocks.sendStop_halfDuplex (b : Blocks) (n : LaneId) (h : b.halfDuplex) : (b.sendStop n).halfDuplex :=
  Blocks.send_halfDuplex _ _ _
    (b.modLane_halfDuplex_of_same n _ h (fun _ _ => rfl) (fun _ => rfl) (fun _ => rfl) (fun _ => rfl))

theorem Blocks.needBeyond_halfDuplex (b : Blocks) (n : LaneId) (h : b.halfDuplex) : (b.needBeyond n).halfDuplex :=
  Blocks.sendStop_halfDuplex _ _
    (Blocks.modLane_halfDuplex_of_same _ n _ (b.addServedFlag_halfDuplex n _ h) (fun _ => id) (fun _ => rfl)
      (fun _ => rfl) (fun _ => rfl))

theorem Blocks.sendDout_halfDuplex (b : Blocks) (n : LaneId) (h : b.halfDuplex) : (b.sendDout n).halfDuplex := by
  unfold Blocks.sendDout
  simp only
  split
  · exact b.send_halfDuplex _ _ h
  · exact h

theorem Blocks.askRead_halfDuplex (b : Blocks) (n : LaneId) (h : b.halfDuplex) : (b.askRead n).halfDuplex := by
  unfold Blocks.askRead
  simp only
  split
  · exact Blocks.askLane_halfDuplex _ _ _
      (b.modLane_halfDuplex_of_same n _ h (fun _ => id) (fun _ => rfl) (fun _ => rfl) (fun _ => rfl))
  · exact h

theorem Blocks.askWrite_halfDuplex (b : Blocks) (n : LaneId) (h : b.halfDuplex) : (b.askWrite n).halfDuplex := by
  unfold Blocks.askWrite
  simp only
  split
  · exact Blocks.askLane_halfDuplex _ _ _
      (b.modLane_halfDuplex_of_same n _ h (fun _ => id) (fun _ => rfl) (fun _ => rfl) (fun _ => rfl))
  · exact h

theorem Blocks.sendGrant_halfDuplex (b : Blocks) (n : LaneId) (h : b.halfDuplex) : (b.sendGrant n).halfDuplex := by
  unfold Blocks.sendGrant
  simp only
  split
  · exact Blocks.send_halfDuplex _ _ _
      (b.modLane_halfDuplex_of_same n _ h (fun _ => id) (fun _ => rfl) (fun _ => rfl) (fun _ => rfl))
  · exact h

theorem Blocks.enterLinkFetch_halfDuplex (b : Blocks) (n : LaneId) (h : b.halfDuplex) :
    (b.enterLinkFetch n).halfDuplex := by
  unfold Blocks.enterLinkFetch
  split
  · exact Blocks.appendLink_halfDuplex _ _
      (b.modLane_halfDuplex_of_same n _ h (fun _ _ => rfl) (fun _ => rfl) (fun _ => rfl) (fun _ => rfl))
  · exact h

theorem Blocks.closingEnd_halfDuplex (b : Blocks) (n : LaneId) (h : b.halfDuplex) : (b.closingEnd n).halfDuplex := by
  unfold Blocks.closingEnd
  simp only
  split
  · exact h
  · split
    · exact Blocks.enterLinkFetch_halfDuplex _ _ (b.writeBack_halfDuplex n h)
    · exact b.detachContext_halfDuplex n _ h
  · split
    · exact Blocks.endServed_halfDuplex _ _ _ (b.send_halfDuplex _ _ h)
    · exact Blocks.enterLinkFetch_halfDuplex _ _
        (Blocks.modLane_halfDuplex_of_same _ n _ (b.writeBack_halfDuplex n h) (fun _ => id) (fun _ => rfl) (fun _ => rfl)
          (fun _ => rfl))
  · exact Blocks.endServed_halfDuplex _ _ _ (b.send_halfDuplex _ _ h)

theorem Blocks.abortEnd_halfDuplex (b : Blocks) (n : LaneId) (h : b.halfDuplex) : (b.abortEnd n).halfDuplex := by
  unfold Blocks.abortEnd
  simp only
  split
  · exact b.endServed_halfDuplex n _ h
  · refine Blocks.halfDuplex_of_lanes _ _ (Blocks.modLane_halfDuplex _ n
      (fun l => { l.release with state := .fault, faultCause := some .abortTimeout })
      (Blocks.endContext_halfDuplex _ _ _ (Blocks.writeBack_halfDuplex _ n (b.addServedFlag_halfDuplex n _ h)))
      fun hl => ?_) fun _ => rfl
    exact Lane.halfDuplex_of_same _ _ (Lane.release_halfDuplex _ hl) (fun _ => rfl) rfl rfl rfl
  all_goals exact h

theorem Blocks.pump_halfDuplex (b : Blocks) (n : LaneId) (h : b.halfDuplex) : (b.pump n).halfDuplex := by
  unfold Blocks.pump
  simp only
  split
  · split
    · exact Blocks.askRead_halfDuplex _ _ (b.sendDout_halfDuplex n h)
    · exact Blocks.sendGrant_halfDuplex _ _ (b.askWrite_halfDuplex n h)
    · exact h
  · split
    · exact b.closingEnd_halfDuplex n h
    · exact b.askWrite_halfDuplex n h
  · split
    · exact b.abortEnd_halfDuplex n h
    · exact h
  all_goals exact h

theorem Blocks.haltIfTurn_halfDuplex (b : Blocks) (n : LaneId) (h : b.halfDuplex) : (b.haltIfTurn n).halfDuplex := by
  unfold Blocks.haltIfTurn
  simp only
  split
  · exact b.enterAborting_halfDuplex n _ h
  · exact b.pump_halfDuplex n h

theorem Blocks.beginClosing_halfDuplex (b : Blocks) (n : LaneId) (cl : Closing) (h : b.halfDuplex) :
    (b.beginClosing n cl).halfDuplex :=
  Blocks.pump_halfDuplex _ _
    (Blocks.modLane_halfDuplex_of_same _ n _ (b.dropRead_halfDuplex n h) (fun _ _ => rfl) (fun _ => rfl) (fun _ => rfl)
      (fun _ => rfl))

theorem Blocks.selectionFailed_halfDuplex (b : Blocks) (n : LaneId) (h : b.halfDuplex) :
    (b.selectionFailed n).halfDuplex := by
  unfold Blocks.selectionFailed
  split
  · exact Blocks.enterIdle_halfDuplex _ _ (Blocks.release_halfDuplex _ _
      (Blocks.endContext_halfDuplex _ _ _ (Blocks.modCtx_halfDuplex _ _ _ h)))
  · exact Blocks.enterIdle_halfDuplex _ _ (Blocks.release_halfDuplex _ _ (Blocks.endContext_halfDuplex _ _ _ h))
  all_goals exact h

theorem Blocks.nextAttempt_halfDuplex (b : Blocks) (n : LaneId) (h : b.halfDuplex) : (b.nextAttempt n).halfDuplex :=
  Blocks.send_halfDuplex _ _ _
    (b.modLane_halfDuplex_of_same n _ h (fun _ => id) (fun _ => rfl) (fun _ => rfl) (fun _ => rfl))

theorem Blocks.endLostAttempt_halfDuplex (b : Blocks) (n : LaneId) (h : b.halfDuplex) :
    (b.endLostAttempt n).halfDuplex :=
  Blocks.enterIdle_halfDuplex _ _
    (b.modLane_halfDuplex_of_same n _ h (fun _ => id) (fun _ => rfl) (fun _ => rfl) (fun _ => rfl))

theorem Blocks.connect_halfDuplex (b : Blocks) (n : LaneId) (s : Slot) (h : b.halfDuplex) :
    (b.connect n s).halfDuplex :=
  b.modLane_halfDuplex_of_same n _ h (fun _ => id) (fun _ => rfl) (fun _ => rfl) (fun _ => rfl)

theorem Blocks.dataFault_halfDuplex (b : Blocks) (n : LaneId) (r : Reason) (h : b.halfDuplex) :
    (b.dataFault n r).halfDuplex := by
  unfold Blocks.dataFault
  split
  · exact Blocks.pump_halfDuplex _ _
      (b.modLane_halfDuplex_of_same n _ h (fun _ => id) (fun _ => rfl) (fun _ => rfl) (fun _ => rfl))
  all_goals first | exact b.enterAborting_halfDuplex n _ h | exact h

/-! ### The events of the lane wire -/

theorem Blocks.discardFrame_halfDuplex (b : Blocks) (n : LaneId) (lost : Bool) (h : b.halfDuplex) :
    (b.discardFrame n lost).halfDuplex := by
  unfold Blocks.discardFrame
  split
  · refine Blocks.haltIfTurn_halfDuplex _ _ (b.modLane_halfDuplex n _ h fun _ => Lane.endReception_halfDuplex _ _ ?_)
    cases lost <;> rfl
  · exact h

/-- Taking a frame keeps the lanes half-duplex when what is made of it does. -/
theorem Blocks.takeFrame_halfDuplex (b : Blocks) (n : LaneId) (valid lost : Bool) (f : Blocks → Blocks)
    (h : b.halfDuplex) (hf : ∀ c : Blocks, c.halfDuplex → (f c).halfDuplex) :
    (b.takeFrame n valid lost f).halfDuplex := by
  unfold Blocks.takeFrame
  split
  · split
    · exact hf _ (b.modLane_halfDuplex n _ h fun _ => Lane.endReception_halfDuplex _ _ rfl)
    · exact b.discardFrame_halfDuplex n lost h
  · exact h

theorem Blocks.inConnection_halfDuplex (b : Blocks) (n : LaneId) (addr : UnitAddr) (act : Blocks → Blocks)
    (h : b.halfDuplex) (hact : ∀ c : Blocks, c.halfDuplex → (act c).halfDuplex) :
    (b.inConnection n addr act).halfDuplex := by
  unfold Blocks.inConnection
  split
  all_goals first
    | exact h
    | exact b.linkError_halfDuplex n h
    | exact b.modLane_halfDuplex_of_same n _ h (fun _ => id) (fun _ => rfl) (fun _ => rfl) (fun _ => rfl)
    | (split
       · exact hact b h
       · exact b.linkError_halfDuplex n h)

end Sys2Proof.Machine
end

