-- ==== Sys2Proof/Laws/Invariants.lean ====
section
/-!
SUPPORT. What an event may do to the unit index, the records, the report queue and the start ledger, said once: each is a
run of three moves, so a property that the moves keep is kept by every shared operation.
-/
namespace Sys2Proof.Machine

/-! ### The moves -/

/-- Neither FREE nor REPORTED. -/
def CtxState.live : CtxState → Bool
  | .free | .reported => false
  | .idle | .loading | .ready | .connected | .detached | .halting => true

/-- A state in which a pending note may stand: CONNECTED, DETACHED, HALTING. -/
def CtxState.bearsNote : CtxState → Bool
  | .connected | .detached | .halting => true
  | .free | .idle | .loading | .ready | .reported => false

/-- A record changes without its slot being bound, freed, reported or collected, and without a note. -/
def Context.moved (c d : Context) : Prop :=
  d.binding = c.binding ∧ d.note = c.note ∧ (d.final = none ↔ c.final = none)
    ∧ (d.state = c.state ∨
        (c.state.live = true ∧ d.state.live = true ∧ (c.state.bearsNote = true → d.state.bearsNote = true)))

theorem Context.moved_refl (c : Context) : c.moved c := ⟨rfl, rfl, Iff.rfl, Or.inl rfl⟩

/-- The ledger after the records of grants (R131). -/
inductive LedgerGrown : List LedgerRec → List LedgerRec → Prop where
  | same (l : List LedgerRec) : LedgerGrown l l
  | grant (l k : List LedgerRec) (count : BitVec 32) : LedgerGrown (appendRecord l ⟨count, 0⟩) k → LedgerGrown l k

theorem LedgerGrown.trans {a b c : List LedgerRec} (h : LedgerGrown a b) (k : LedgerGrown b c) : LedgerGrown a c := by
  induction h with
  | same => exact k
  | grant l m count _ ih => exact .grant l c count (ih k)

/-- The first move: records change as `Context.moved` says, and grants extend the ledger. -/
def Blocks.moved (b c : Blocks) : Prop :=
  c.index = b.index ∧ c.reports.queue = b.reports.queue ∧ (∀ k, (b.ctx k).moved (c.ctx k))
    ∧ LedgerGrown b.window.ledger c.window.ledger

/-- A property kept by the three moves: the first, the posting of a final report, the posting of a note. -/
structure Kept (P : Blocks → Prop) : Prop where
  moved : ∀ b c : Blocks, b.moved c → P b → P c
  final : ∀ (b : Blocks) (s : Slot) (named : List Named), P b → P (b.postFinal s named)
  note : ∀ (b : Blocks) (s : Slot), P b → P (b.postNoteEntry s)

variable {P : Blocks → Prop}

/-- An event that leaves the four as they are. -/
theorem Kept.same (hP : Kept P) {b c : Blocks} (h : P b) (hi : c.index = b.index)
    (hq : c.reports.queue = b.reports.queue) (hc : c.ctxs = b.ctxs) (hw : c.window.ledger = b.window.ledger) : P c :=
  hP.moved b c ⟨hi, hq, fun k => by simp [Blocks.ctx, hc, Context.moved_refl], hw ▸ .same _⟩ h

/-- A change of one record. -/
theorem Kept.modCtx (hP : Kept P) {b : Blocks} (s : Slot) (f : Context → Context) (h : P b)
    (hf : (b.ctx s).moved (f (b.ctx s))) : P (b.modCtx s f) := by
  refine hP.moved b _ ⟨rfl, rfl, fun k => ?_, .same _⟩ h
  by_cases hk : k = s
  · subst hk; simpa using hf
  · rw [Blocks.modCtx_ctx_ne _ _ _ _ hk]; exact Context.moved_refl _

theorem Kept.setCtx (hP : Kept P) {b : Blocks} (s : Slot) (c : Context) (h : P b) (hc : (b.ctx s).moved c) :
    P (b.setCtx s c) := hP.modCtx s (fun _ => c) h hc

/-- A record of which only other fields change. -/
theorem Context.moved_of_same (c d : Context) (hb : d.binding = c.binding) (hn : d.note = c.note)
    (hf : d.final = c.final) (hs : d.state = c.state) : c.moved d := ⟨hb, hn, by rw [hf], Or.inl hs⟩

/-! ### The shared operations -/

theorem Kept.modLane (hP : Kept P) {b : Blocks} (n : LaneId) (f : Lane → Lane) (h : P b) : P (b.modLane n f) :=
  hP.same h rfl rfl rfl rfl
theorem Kept.setLane (hP : Kept P) {b : Blocks} (n : LaneId) (l : Lane) (h : P b) : P (b.setLane n l) :=
  hP.same h rfl rfl rfl rfl
theorem Kept.send (hP : Kept P) {b : Blocks} (n : LaneId) (f : PartFrame) (h : P b) : P (b.send n f) :=
  hP.same h rfl rfl rfl rfl
theorem Kept.serviceChoice (hP : Kept P) {b : Blocks} (n : LaneId) (h : P b) : P (b.serviceChoice n) :=
  hP.same h (by simp) (by simp) (by simp) (by simp)
theorem Kept.enterIdle (hP : Kept P) {b : Blocks} (n : LaneId) (h : P b) : P (b.enterIdle n) :=
  hP.same h (by simp) (by simp) (by simp) (by simp)
theorem Kept.appendReady (hP : Kept P) {b : Blocks} (n : LaneId) (s : Slot) (h : P b) : P (b.appendReady n s) :=
  hP.same h (by simp) (by simp) (by simp) (by simp)
theorem Kept.appendHalt (hP : Kept P) {b : Blocks} (n : LaneId) (s : Slot) (h : P b) : P (b.appendHalt n s) :=
  hP.same h (by simp) (by simp) (by simp) (by simp)
theorem Kept.dropFromLists (hP : Kept P) {b : Blocks} (n : LaneId) (s : Slot) (h : P b) : P (b.dropFromLists n s) :=
  hP.same h rfl rfl rfl rfl
theorem Kept.askFetcher (hP : Kept P) {b : Blocks} (a : Addr48) (h : P b) : P (b.askFetcher a) :=
  hP.same h (by simp) (by simp) (by simp) (by simp)
theorem Kept.askLane (hP : Kept P) {b : Blocks} (n : LaneId) (r : MemReq) (h : P b) : P (b.askLane n r) :=
  hP.same h (by simp) (by simp) (by simp) (by simp)
theorem Kept.portDecision (hP : Kept P) {b : Blocks} (h : P b) : P b.portDecision :=
  hP.same h (by simp) (by simp) (by simp) (by simp)
theorem Kept.portNext (hP : Kept P) {b : Blocks} (h : P b) : P b.portNext :=
  hP.same h (by simp) (by simp) (by simp) (by simp)
theorem Kept.fetchBegin (hP : Kept P) {b : Blocks} (h : P b) : P b.fetchBegin :=
  hP.same h (by simp) (by simp) (by simp) (by simp)
theorem Kept.appendLink (hP : Kept P) {b : Blocks} (s : Slot) (h : P b) : P (b.appendLink s) :=
  hP.same h (by simp) (by simp) (by simp) (by simp)
theorem Kept.appendStart (hP : Kept P) {b : Blocks} (s : Slot) (h : P b) : P (b.appendStart s) :=
  hP.same h (by simp) (by simp) (by simp) (by simp)
theorem Kept.withdrawFetch (hP : Kept P) {b : Blocks} (s : Slot) (h : P b) : P (b.withdrawFetch s) :=
  hP.same h (by simp) (by simp) (by simp) (by simp)
theorem Kept.withdrawLane (hP : Kept P) {b : Blocks} (n : LaneId) (h : P b) : P (b.withdrawLane n) :=
  hP.same h rfl rfl rfl rfl
theorem Kept.leavePermit (hP : Kept P) {b : Blocks} (n : LaneId) (h : P b) : P (b.leavePermit n) :=
  hP.same h rfl rfl rfl rfl

theorem Kept.endContext (hP : Kept P) {b : Blocks} (s : Slot) (named : List Named) (h : P b) :
    P (b.endContext s named) := hP.final _ _ _ (hP.withdrawFetch _ (hP.dropFromLists _ _ h))

theorem Kept.writeBack (hP : Kept P) {b : Blocks} (n : LaneId) (h : P b) : P (b.writeBack n) := by
  unfold Blocks.writeBack
  split
  · exact hP.modCtx _ _ h (Context.moved_of_same _ _ rfl rfl rfl rfl)
  all_goals exact h

theorem Kept.takeStatus (hP : Kept P) {b : Blocks} (n : LaneId) (status : Byte) (h : P b) : P (b.takeStatus n status) := by
  unfold Blocks.takeStatus
  split
  · exact hP.modCtx _ _ h (Context.moved_of_same _ _ rfl rfl rfl rfl)
  · exact h

theorem Kept.frameStatus (hP : Kept P) {b : Blocks} (n : LaneId) (addr : UnitAddr) (status : Byte) (h : P b) :
    P (b.frameStatus n addr status) := by
  unfold Blocks.frameStatus
  split
  · exact hP.takeStatus _ _ h
  · exact h

theorem Kept.addServedFlag (hP : Kept P) {b : Blocks} (n : LaneId) (f : CtxFlags → CtxFlags) (h : P b) :
    P (b.addServedFlag n f) := by
  unfold Blocks.addServedFlag
  split
  · exact hP.modCtx _ _ h (Context.moved_of_same _ _ rfl rfl rfl rfl)
  · exact h

theorem Kept.postNote (hP : Kept P) {b : Blocks} (n : LaneId) (h : P b) : P (b.postNote n) := by
  unfold Blocks.postNote
  simp only
  split
  · split
    · exact hP.modLane _ _ (hP.note _ _ (hP.writeBack n h))
    · exact h
  · exact h

theorem Kept.endServed (hP : Kept P) {b : Blocks} (n : LaneId) (named : List Named) (h : P b) :
    P (b.endServed n named) := by
  unfold Blocks.endServed
  split
  · exact hP.enterIdle _ (hP.modLane _ _ (hP.endContext _ _ (hP.writeBack n h)))
  · exact h

theorem Context.detached_moved (c : Context) (aw : Awaiting) : c.moved (c.detached aw) := by
  unfold Context.detached
  split
  · rename_i h
    exact ⟨rfl, rfl, Iff.rfl, Or.inr ⟨by rw [h]; rfl, rfl, fun _ => rfl⟩⟩
  · exact c.moved_refl

theorem Kept.detachContext (hP : Kept P) {b : Blocks} (n : LaneId) (aw : Awaiting) (h : P b) :
    P (b.detachContext n aw) := by
  unfold Blocks.detachContext
  split
  · exact hP.enterIdle _ (hP.modLane _ _ (hP.modCtx _ _ (hP.send _ _ (hP.writeBack n h)) (Context.detached_moved _ _)))
  · exact h

theorem Kept.grantHead (hP : Kept P) {b : Blocks} (h : P b) : P b.grantHead := by
  unfold Blocks.grantHead
  split
  · exact h
  · exact hP.moved b _ ⟨rfl, rfl, fun k => Context.moved_refl _, .grant _ _ _ (.same _)⟩ h

theorem Kept.grantRun (hP : Kept P) (fuel : Nat) {b : Blocks} (h : P b) : P (b.grantRun fuel) := by
  induction fuel generalizing b with
  | zero => exact h
  | succ fuel ih =>
    unfold Blocks.grantRun
    split
    · exact ih (hP.grantHead h)
    · exact h

theorem Kept.grantDecision (hP : Kept P) {b : Blocks} (h : P b) : P b.grantDecision :=
  hP.grantRun _ (hP.same h rfl rfl rfl rfl)

theorem Kept.decideIfAsked (hP : Kept P) {b : Blocks} (h : P b) : P b.decideIfAsked := by
  unfold Blocks.decideIfAsked
  split
  · exact hP.grantDecision h
  · exact h

theorem Kept.answerAsking (hP : Kept P) {b : Blocks} (waits : Bool) (h : P b) : P (b.answerAsking waits) := by
  unfold Blocks.answerAsking
  have h1 : P { b with choice := b.choice + 1 } := hP.same h rfl rfl rfl rfl
  simp only
  split
  · split
    · exact h1
    · exact hP.grantDecision h1
  · exact hP.decideIfAsked h

theorem Kept.joinPermit (hP : Kept P) {b : Blocks} (n : LaneId) (h : P b) : P (b.joinPermit n) :=
  hP.same h rfl rfl rfl rfl

theorem Kept.selectionFailed (hP : Kept P) {b : Blocks} (n : LaneId) (h : P b) : P (b.selectionFailed n) := by
  unfold Blocks.selectionFailed
  split
  · exact hP.enterIdle _ (hP.modLane _ _ (hP.endContext _ _
      (hP.modCtx _ _ h (Context.moved_of_same _ _ rfl rfl rfl rfl))))
  · exact hP.enterIdle _ (hP.modLane _ _ (hP.endContext _ _ h))
  all_goals exact h

theorem Kept.nextAttempt (hP : Kept P) {b : Blocks} (n : LaneId) (h : P b) : P (b.nextAttempt n) :=
  hP.send _ _ (hP.modLane _ _ h)

theorem Kept.endLostAttempt (hP : Kept P) {b : Blocks} (n : LaneId) (h : P b) : P (b.endLostAttempt n) :=
  hP.enterIdle _ (hP.modLane _ _ h)

theorem Kept.loseSelection (hP : Kept P) {b : Blocks} (n : LaneId) (u : UnitAddr) (h : P b) :
    P (b.loseSelection n u) := by
  unfold Blocks.loseSelection
  split
  · exact hP.enterIdle _ (hP.modLane _ _ h)
  · exact hP.modLane _ _ h

theorem Kept.sendDout (hP : Kept P) {b : Blocks} (n : LaneId) (h : P b) : P (b.sendDout n) := by
  unfold Blocks.sendDout
  simp only
  split
  · exact hP.send _ _ h
  · exact h

theorem Kept.askRead (hP : Kept P) {b : Blocks} (n : LaneId) (h : P b) : P (b.askRead n) := by
  unfold Blocks.askRead
  simp only
  split
  · exact hP.askLane _ _ (hP.modLane _ _ h)
  · exact h

theorem Kept.askWrite (hP : Kept P) {b : Blocks} (n : LaneId) (h : P b) : P (b.askWrite n) := by
  unfold Blocks.askWrite
  simp only
  split
  · exact hP.askLane _ _ (hP.modLane _ _ h)
  · exact h

theorem Kept.sendGrant (hP : Kept P) {b : Blocks} (n : LaneId) (h : P b) : P (b.sendGrant n) := by
  unfold Blocks.sendGrant
  simp only
  split
  · exact hP.send _ _ (hP.modLane _ _ h)
  · exact h

theorem Kept.enterLinkFetch (hP : Kept P) {b : Blocks} (n : LaneId) (h : P b) : P (b.enterLinkFetch n) := by
  unfold Blocks.enterLinkFetch
  split
  · exact hP.appendLink _ (hP.modLane _ _ h)
  · exact h

theorem Kept.closingEnd (hP : Kept P) {b : Blocks} (n : LaneId) (h : P b) : P (b.closingEnd n) := by
  unfold Blocks.closingEnd
  simp only
  split
  · exact h
  · split
    · exact hP.enterLinkFetch _ (hP.writeBack n h)
    · exact hP.detachContext _ _ h
  · split
    · exact hP.endServed _ _ (hP.send _ _ h)
    · exact hP.enterLinkFetch _ (hP.modLane _ _ (hP.writeBack n h))
  · exact hP.endServed _ _ (hP.send _ _ h)

theorem Kept.abortEnd (hP : Kept P) {b : Blocks} (n : LaneId) (h : P b) : P (b.abortEnd n) := by
  unfold Blocks.abortEnd
  simp only
  split
  · exact hP.endServed _ _ h
  · exact hP.same (hP.endContext _ _ (hP.writeBack n (hP.addServedFlag n _ h))) rfl rfl rfl rfl
  all_goals exact h

theorem Kept.pump (hP : Kept P) {b : Blocks} (n : LaneId) (h : P b) : P (b.pump n) := by
  unfold Blocks.pump
  simp only
  split
  · split
    · exact hP.askRead _ (hP.sendDout n h)
    · exact hP.sendGrant _ (hP.askWrite n h)
    · exact h
  · split
    · exact hP.closingEnd n h
    · exact hP.askWrite n h
  · split
    · exact hP.abortEnd n h
    · exact h
  all_goals exact h

theorem Kept.dropRead (hP : Kept P) {b : Blocks} (n : LaneId) (h : P b) : P (b.dropRead n) := by
  unfold Blocks.dropRead
  split
  · split
    · exact h
    · split
      · exact hP.modLane _ _ (hP.withdrawLane n h)
      · exact hP.modLane _ _ h
  · exact h

theorem Kept.dropWrite (hP : Kept P) {b : Blocks} (n : LaneId) (h : P b) : P (b.dropWrite n) := by
  unfold Blocks.dropWrite
  split
  · split
    · exact hP.modLane _ _ (hP.withdrawLane n h)
    · exact h
  · exact h

theorem Kept.enterAborting (hP : Kept P) {b : Blocks} (n : LaneId) (cause : AbortCause) (h : P b) :
    P (b.enterAborting n cause) := by
  unfold Blocks.enterAborting
  simp only
  refine hP.send _ _ (hP.modLane _ _ ?_)
  have h2 : P (match ((b.leavePermit n).lane n).servedSlot with
      | some s => (b.leavePermit n).withdrawFetch s
      | none => b.leavePermit n) := by
    split
    · exact hP.withdrawFetch _ (hP.leavePermit n h)
    · exact hP.leavePermit n h
  split
  · exact hP.dropWrite _ (hP.dropRead _ h2)
  · exact hP.dropRead _ h2

theorem Kept.linkError (hP : Kept P) {b : Blocks} (n : LaneId) (h : P b) : P (b.linkError n) := hP.enterAborting n _ h

theorem Kept.dataFault (hP : Kept P) {b : Blocks} (n : LaneId) (r : Reason) (h : P b) : P (b.dataFault n r) := by
  unfold Blocks.dataFault
  split
  · exact hP.pump _ (hP.modLane _ _ h)
  all_goals first | exact hP.enterAborting n _ h | exact h

theorem Kept.haltIfTurn (hP : Kept P) {b : Blocks} (n : LaneId) (h : P b) : P (b.haltIfTurn n) := by
  unfold Blocks.haltIfTurn
  simp only
  split
  · exact hP.enterAborting n _ h
  · exact hP.pump n h

theorem Kept.beginClosing (hP : Kept P) {b : Blocks} (n : LaneId) (cl : Closing) (h : P b) :
    P (b.beginClosing n cl) := hP.pump _ (hP.modLane _ _ (hP.dropRead n h))

theorem Kept.sendStop (hP : Kept P) {b : Blocks} (n : LaneId) (h : P b) : P (b.sendStop n) :=
  hP.send _ _ (hP.modLane _ _ h)

theorem Kept.needBeyond (hP : Kept P) {b : Blocks} (n : LaneId) (h : P b) : P (b.needBeyond n) :=
  hP.sendStop _ (hP.modLane _ _ (hP.addServedFlag n _ h))

theorem Kept.connect (hP : Kept P) {b : Blocks} (n : LaneId) (s : Slot) (h : P b) : P (b.connect n s) :=
  hP.modLane _ _ h

/-! ### The frames and the wire -/

theorem Kept.discardFrame (hP : Kept P) {b : Blocks} (n : LaneId) (lost : Bool) (h : P b) :
    P (b.discardFrame n lost) := by
  unfold Blocks.discardFrame
  split
  · exact hP.haltIfTurn _ (hP.modLane _ _ h)
  · exact h

theorem Kept.takeFrame (hP : Kept P) {b : Blocks} (n : LaneId) (valid lost : Bool) (f : Blocks → Blocks) (h : P b)
    (hf : ∀ c, P c → P (f c)) : P (b.takeFrame n valid lost f) := by
  unfold Blocks.takeFrame
  split
  · split
    · exact hf _ (hP.modLane _ _ h)
    · exact hP.discardFrame n lost h
  · exact h

theorem Kept.inConnection (hP : Kept P) {b : Blocks} (n : LaneId) (addr : UnitAddr) (act : Blocks → Blocks) (h : P b)
    (hact : ∀ c, P c → P (act c)) : P (b.inConnection n addr act) := by
  unfold Blocks.inConnection
  split
  all_goals first
    | exact h
    | exact hP.linkError n h
    | exact hP.modLane _ _ h
    | (split
       · exact hact b h
       · exact hP.linkError n h)

/-! ### The report queue -/

/-- Posting a final report keeps the slots of the queue, or adds the one that had no entry at the tail (R157). -/
theorem postFinalEntry_slots (q : List ReportEntry) (s : Slot) :
    (postFinalEntry q s).map (·.slot) = if s ∈ q.map (·.slot) then q.map (·.slot) else q.map (·.slot) ++ [s] := by
  unfold postFinalEntry
  by_cases h : s ∈ q.map (·.slot)
  · have h' : q.any (fun e => e.slot == s) = true := by
      obtain ⟨e, he, rfl⟩ := List.mem_map.mp h
      exact List.any_eq_true.mpr ⟨e, he, by simp⟩
    simp only [h, h', if_true, List.map_map]
    apply List.map_congr_left
    intro e _
    simp only [Function.comp]
    split
    · rename_i hh; exact (by simpa using hh : _ = _).symm
    · rfl
  · have h' : ¬ q.any (fun e => e.slot == s) = true := by
      intro hc
      obtain ⟨e, he, hs⟩ := List.any_eq_true.mp hc
      exact h (List.mem_map.mpr ⟨e, he, by simpa using hs⟩)
    simp only [h, h', if_false]
    simp

/-- The entries after a final report is posted: the slot's FINAL entry, and those of the other slots (R157). -/
theorem mem_postFinalEntry (q : List ReportEntry) (s : Slot) (e : ReportEntry) :
    e ∈ postFinalEntry q s ↔ e = ⟨s, .final⟩ ∨ (e ∈ q ∧ e.slot ≠ s) := by
  unfold postFinalEntry
  split
  · rename_i h
    obtain ⟨x, hx, hs⟩ := List.any_eq_true.mp h
    simp only [beq_iff_eq] at hs
    simp only [List.mem_map]
    constructor
    · rintro ⟨y, hy, rfl⟩
      by_cases hc : y.slot = s
      · left; simp [hc]
      · right; simp [hc, hy]
    · rintro (rfl | ⟨h1, h2⟩)
      · exact ⟨x, hx, by simp [hs]⟩
      · exact ⟨e, h1, by simp [h2]⟩
  · rename_i h
    have hno : ∀ e ∈ q, e.slot ≠ s := by
      intro e he hc
      exact h (List.any_eq_true.mpr ⟨e, he, by simp [hc]⟩)
    simp only [List.mem_append, List.mem_singleton]
    constructor
    · rintro (h1 | h1)
      · exact Or.inr ⟨h1, hno _ h1⟩
      · exact Or.inl h1
    · rintro (h1 | h1)
      · exact Or.inr h1
      · exact Or.inl h1.1

end Sys2Proof.Machine
end

