-- ==== Sys2Proof/Laws/PerInstr.lean ====
section
/-!
SUPPORT. One law per constructor: the table gives no row bits, so no word spells the command (log 3).
-/
namespace Sys2Proof.Laws.NoWordSpells

/-- No word of any length spells the command. -/
def Statement (i : Instr) : Prop := ∀ nbits w : Nat, decodeTableWord nbits w ≠ some i

/-- No word of any length spells any command: the decoder refuses every word. -/
theorem of_any (i : Instr) : Statement i := by
  intro nbits w h
  simp [decodeTableWord] at h

theorem pinReset : Statement .pinReset := of_any _
theorem rqgoSubmit (value : Word) (strobes : BitVec 4) : Statement (.rqgoSubmit value strobes) := of_any _
theorem rsnextPop (value : Word) (strobes : BitVec 4) : Statement (.rsnextPop value strobes) := of_any _
theorem intsWrite (value : Word) (strobes : BitVec 4) : Statement (.intsWrite value strobes) := of_any _
theorem inteWrite (value : Word) (strobes : BitVec 4) : Statement (.inteWrite value strobes) := of_any _
theorem prstWrite (value : Word) (strobes : BitVec 4) : Statement (.prstWrite value strobes) := of_any _
theorem tbdivWrite (value : Word) (strobes : BitVec 4) : Statement (.tbdivWrite value strobes) := of_any _
theorem registerWrite (offset : BitVec 7) (value : Word) (strobes : BitVec 4) : Statement (.registerWrite offset value strobes) := of_any _
theorem softResetComplete : Statement .softResetComplete := of_any _
theorem openUnit : Statement .openUnit := of_any _
theorem closeUnit : Statement .closeUnit := of_any _
theorem startChain : Statement .startChain := of_any _
theorem haltUnit : Statement .haltUnit := of_any _
theorem probeUnit : Statement .probeUnit := of_any _
theorem collectReport : Statement .collectReport := of_any _
theorem laneControl : Statement .laneControl := of_any _
theorem resetLane : Statement .resetLane := of_any _
theorem setPolicy : Statement .setPolicy := of_any _
theorem laneStatus : Statement .laneStatus := of_any _
theorem unknownRequest : Statement .unknownRequest := of_any _
theorem timebaseTick : Statement .timebaseTick := of_any _
theorem detachTimerExpiry (slot : Slot) : Statement (.detachTimerExpiry slot) := of_any _
theorem ledgerRecordExpiry : Statement .ledgerRecordExpiry := of_any _
theorem responseTimeout (lane : LaneId) : Statement (.responseTimeout lane) := of_any _
theorem breakSpaceEnd (lane : LaneId) : Statement (.breakSpaceEnd lane) := of_any _
theorem breakRecoveryEnd (lane : LaneId) : Statement (.breakRecoveryEnd lane) := of_any _
theorem attentionLineChange (lane : LaneId) (asserted : Bool) : Statement (.attentionLineChange lane asserted) := of_any _
theorem frameMalformed (lane : LaneId) (check : FrameCheck) (lengthAbove16 : Bool) : Statement (.frameMalformed lane check lengthAbove16) := of_any _
theorem frameAttn (lane : LaneId) (addr : UnitAddr) (reason : AttnReason) (status : Byte) : Statement (.frameAttn lane addr reason status) := of_any _
theorem frameEcho (lane : LaneId) (addr : UnitAddr) : Statement (.frameEcho lane addr) := of_any _
theorem frameAcpt (lane : LaneId) (addr : UnitAddr) (status : Byte) : Statement (.frameAcpt lane addr status) := of_any _
theorem frameNeed (lane : LaneId) (addr : UnitAddr) (chunks : Nat) : Statement (.frameNeed lane addr chunks) := of_any _
theorem frameDin (lane : LaneId) (addr : UnitAddr) (toggle : Bool) (bytes : List Byte) : Statement (.frameDin lane addr toggle bytes) := of_any _
theorem frameWait (lane : LaneId) (addr : UnitAddr) : Statement (.frameWait lane addr) := of_any _
theorem frameEnd (lane : LaneId) (addr : UnitAddr) (status : Byte) : Statement (.frameEnd lane addr status) := of_any _
theorem memoryBurstResponse (resps : List BusResp) (bytes : List Byte) : Statement (.memoryBurstResponse resps bytes) := of_any _
theorem frameSent (lane : LaneId) : Statement (.frameSent lane) := of_any _
theorem frameFirstStartBit (lane : LaneId) : Statement (.frameFirstStartBit lane) := of_any _
theorem unbrokenMarkResync (lane : LaneId) : Statement (.unbrokenMarkResync lane) := of_any _

end Sys2Proof.Laws.NoWordSpells
end

