-- ==== Sys2Proof/Laws/Port.lean ====
section
/-!
SUPPORT. The grant decision of the memory port, case by case (R139), and the completion of a burst.
-/
namespace Sys2Proof.Machine

/-! ### The decision -/

/-- With no request waiting the port stays idle. -/
theorem Blocks.portDecision_quiet (b : Blocks) (hf : b.mem.fetchReq = none) (hl : ∀ j, b.mem.laneReq j = none) :
    b.portDecision = b := by
  have hw : b.mem.waitingLane = none := by simp [MemPort.waitingLane, hl]
  unfold Blocks.portDecision
  split
  · rfl
  · rw [hf, hw]

/-- The fetcher is granted when no lane waits or the lane-grant counter is at its limit. -/
theorem Blocks.portDecision_fetcher (b : Blocks) (r : MemReq) (h : b.mem.inflight = none)
    (hf : b.mem.fetchReq = some r) (hl : 4 ≤ b.mem.grants ∨ ∀ j, b.mem.laneReq j = none) :
    b.portDecision = b.grantFetcher r := by
  unfold Blocks.portDecision
  rcases hl with hl | hl
  · cases hw : b.mem.waitingLane <;> simp [h, hf, hl, Config.laneGrantLimit]
  · have hw : b.mem.waitingLane = none := by simp [MemPort.waitingLane, hl]
    simp [h, hf, hw]

/-- The waiting lane found is the first from the rotation pointer on. -/
theorem MemPort.waitingLane_eq (m : MemPort) (i : LaneId) (hi : m.laneReq i ≠ none)
    (hf : ∀ j, m.laneReq j ≠ none → (i - m.rotation).val ≤ (j - m.rotation).val) : m.waitingLane = some i := by
  have hall : ∀ r i : LaneId, i = r ∨ i = r + 1 ∨ i = r + 1 + 1 ∨ i = r + 1 + 1 + 1 := by decide
  have hdist : ∀ r : LaneId, (r - r).val = 0 ∧ (r + 1 - r).val = 1 ∧ (r + 1 + 1 - r).val = 2
      ∧ (r + 1 + 1 + 1 - r).val = 3 := by decide
  have key : ∀ (r : LaneId) (p : LaneId → Bool), p i = true → (∀ j, p j = true → (i - r).val ≤ (j - r).val) →
      [r, r + 1, r + 1 + 1, r + 1 + 1 + 1].find? p = some i := by
    intro r p hp hm
    have h0 := hm r; have h1 := hm (r + 1); have h2 := hm (r + 1 + 1); have h3 := hm (r + 1 + 1 + 1)
    obtain ⟨d0, d1, d2, d3⟩ := hdist r
    simp only [List.find?_cons, List.find?_nil]
    rcases hall r i with rfl | rfl | rfl | rfl
    · simp [hp]
    · cases hr : p r <;> simp_all
    · cases hr : p r <;> cases hr1 : p (r + 1) <;> simp_all
    · cases hr : p r <;> cases hr1 : p (r + 1) <;> cases hr2 : p (r + 1 + 1) <;> simp_all
  exact key m.rotation _ (Option.isSome_iff_ne_none.mpr hi) fun j hj => hf j (Option.isSome_iff_ne_none.mp hj)

/-- Otherwise the first waiting lane from the rotation pointer on is granted. -/
theorem Blocks.portDecision_lane_granted (b : Blocks) (i : LaneId) (q : MemReq) (h : b.mem.inflight = none)
    (hq : b.mem.laneReq i = some q) (hf : b.mem.fetchReq = none ∨ b.mem.grants < 4)
    (hl : ∀ j, b.mem.laneReq j ≠ none → (i - b.mem.rotation).val ≤ (j - b.mem.rotation).val) :
    b.portDecision = b.grantLane i q := by
  have hw := b.mem.waitingLane_eq i (by simp [hq]) hl
  unfold Blocks.portDecision
  rw [hw]
  cases hr : b.mem.fetchReq with
  | none => simp [h, hq]
  | some r =>
    have hlt : ¬Config.laneGrantLimit ≤ b.mem.grants := by
      rcases hf with hf | hf
      · simp [hr] at hf
      · exact Nat.not_le.mpr hf
    simp [h, hq, hlt]

/-! ### The decision at a completion -/

/-- With no request waiting the port is idle after a completion. -/
theorem Blocks.portNext_quiet (b : Blocks) (hf : b.mem.fetchReq = none) (hl : ∀ j, b.mem.laneReq j = none) :
    b.portNext = { b with mem := { b.mem with inflight := none } } := Blocks.portDecision_quiet _ hf hl

/-- The port after a completion at which the fetcher is granted. -/
theorem Blocks.portNext_fetcher (b : Blocks) (r : MemReq) (hf : b.mem.fetchReq = some r)
    (hl : 4 ≤ b.mem.grants ∨ ∀ j, b.mem.laneReq j = none) :
    b.portNext.mem = { b.mem with fetchReq := none, grants := 0, inflight := b.transaction .fetcher r } := by
  have h := Blocks.portDecision_fetcher { b with mem := { b.mem with inflight := none } } r rfl hf hl
  exact congrArg Blocks.mem h

/-- The port after a completion at which a lane is granted. -/
theorem Blocks.portNext_lane_granted (b : Blocks) (i : LaneId) (q : MemReq) (hq : b.mem.laneReq i = some q)
    (hf : b.mem.fetchReq = none ∨ b.mem.grants < 4)
    (hl : ∀ j, b.mem.laneReq j ≠ none → (i - b.mem.rotation).val ≤ (j - b.mem.rotation).val) :
    b.portNext.mem = { b.mem.setLaneReq i none with
      rotation := i + 1, grants := if b.mem.fetchReq.isSome then b.mem.grants + 1 else 0
      inflight := b.transaction (.lane i) q } := by
  have h := Blocks.portDecision_lane_granted { b with mem := { b.mem with inflight := none } } i q rfl hq hf hl
  exact congrArg Blocks.mem h

/-! ### The bursts of a request -/

/-- A run of whole words is not empty. -/
theorem wordBursts_ne_nil (a n lo hi : Nat) (h : lo < hi) : wordBursts a n lo hi ≠ [] := by
  unfold wordBursts
  rw [if_pos h]
  split <;> simp

/-- A data request of at least one byte has a burst. -/
theorem MemReq.bursts_ne_nil (q : MemReq) (hk : q.kind ≠ .descriptor) (hl : 1 ≤ q.len) : q.bursts ≠ [] := by
  unfold MemReq.bursts
  split
  · exact fun _ => hk ‹_›
  · intro h0
    simp only [readBursts, List.append_eq_nil_iff, byteBursts] at h0
    obtain ⟨⟨h1, h2⟩, h3⟩ := h0
    have hle : ¬leadEnd q.addr q.len < wordsEnd q.addr q.len := fun h => wordBursts_ne_nil _ _ _ _ h h2
    have h1' : ¬q.addr < leadEnd q.addr q.len := by split at h1 <;> simp_all
    have h3' : ¬wordsEnd q.addr q.len < q.addr + q.len := by split at h3 <;> simp_all
    unfold wordsEnd leadEnd up8 down8 at *
    omega
  · apply wordBursts_ne_nil
    unfold down8 up8
    omega

/-! ### The completion of a burst -/

/-- The last burst of a transaction completes it. -/
theorem Blocks.burstDone_last (b : Blocks) (x : Txn) (resps : List BusResp) (bytes : List Byte)
    (hx : b.mem.inflight = some x) (ha : x.answeredBy resps bytes = true) (hl : x.toIssue = []) :
    b.burstDone resps bytes = b.completeTxn (x.took resps bytes) := by
  have ht : (x.took resps bytes).toIssue = [] := hl
  simp only [Blocks.burstDone, hx, ha, if_true, ht]

/-- A burst of a transaction marked for discard completes it. -/
theorem Blocks.burstDone_discarded (b : Blocks) (x : Txn) (resps : List BusResp) (bytes : List Byte)
    (hx : b.mem.inflight = some x) (ha : x.answeredBy resps bytes = true) (hd : x.discard = true) :
    b.burstDone resps bytes = b.completeTxn (x.took resps bytes) := by
  have hd' : (x.took resps bytes).discard = true := hd
  simp only [Blocks.burstDone, hx, ha, if_true, hd', Bool.or_true]
  split <;> rfl

end Sys2Proof.Machine
end

