-- ==== Sys2Proof/Laws/Pump.lean ====
section
/-!
SUPPORT. What `pump` does, by the state of the lane and the direction of its descriptor.
-/
namespace Sys2Proof.Machine

@[simp] theorem Lane.memDone_state (l : Lane) : l.memDone.state = l.state := rfl
@[simp] theorem Lane.memDone_memReq (l : Lane) : l.memDone.memReq = none := rfl

/-- A lane that is neither in L_TRANSFER, in L_ENDING nor in L_ABORTING has nothing to pump. -/
theorem Blocks.pump_quiet (b : Blocks) (n : LaneId) (h1 : (b.lane n).state ≠ .transfer) (h2 : (b.lane n).state ≠ .ending)
    (h3 : (b.lane n).state ≠ .aborting) : b.pump n = b := by
  unfold Blocks.pump
  cases h : (b.lane n).state <;> simp_all

/-- In L_TRANSFER of an OUT command: DOUT, then the next staging read. -/
theorem Blocks.pump_outbound (b : Blocks) (n : LaneId) (h : (b.lane n).state = .transfer)
    (hd : (b.lane n).dir = .outbound) : b.pump n = (b.sendDout n).askRead n := by
  simp only [Blocks.pump, h, hd]

/-- In L_TRANSFER of an IN command: the next staging write, then GRANT. -/
theorem Blocks.pump_inbound (b : Blocks) (n : LaneId) (h : (b.lane n).state = .transfer)
    (hd : (b.lane n).dir = .inbound) : b.pump n = (b.askWrite n).sendGrant n := by
  simp only [Blocks.pump, h, hd]

/-- In L_TRANSFER of a command without data there is nothing to pump. -/
theorem Blocks.pump_noData (b : Blocks) (n : LaneId) (h : (b.lane n).state = .transfer)
    (hd : (b.lane n).dir = .noData) : b.pump n = b := by
  simp only [Blocks.pump, h, hd]

/-- An abort whose END is awaited waits on, whatever the memory port does. -/
theorem Blocks.pump_awaiting (b : Blocks) (n : LaneId) (h : (b.lane n).state = .aborting)
    (hp : (b.lane n).abortPhase = .awaiting) : b.pump n = b := by
  simp only [Blocks.pump, h, Blocks.abortEnd, hp]
  split
  · split <;> first | rfl | simp_all
  · rfl

/-- A lane asks for nothing of its own where no half is due for writing. -/
theorem Blocks.askWrite_none (b : Blocks) (n : LaneId) (h : (b.lane n).staging.get (b.lane n).staging.drain = []) :
    b.askWrite n = b := by
  unfold Blocks.askWrite
  simp [h]

end Sys2Proof.Machine
end

