-- ==== Sys2Proof/Laws/Words.lean ====
section
/-!
SUPPORT. The byte strobes (R30), bit by bit.
-/
namespace Sys2Proof.Machine

/-- Bit `i` of the mask is the strobe of its byte. -/
theorem strobeMask_getLsbD (st : BitVec 4) (i : Nat) (hi : i < 32) :
    (strobeMask st).getLsbD i = st.getLsbD (i / 8) := by
  have h : ∀ (st : BitVec 4) (i : Fin 32), (strobeMask st).getLsbD i.val = st.getLsbD (i.val / 8) := by decide
  exact h st ⟨i, hi⟩

/-- A bit whose strobe is set is the written one, any other the old one. -/
theorem mergeStrobes_getLsbD (old v : Word) (st : BitVec 4) (i : Nat) (hi : i < 32) :
    (mergeStrobes old v st).getLsbD i = if st.getLsbD (i / 8) then v.getLsbD i else old.getLsbD i := by
  simp only [mergeStrobes, BitVec.getLsbD_or, BitVec.getLsbD_and, BitVec.getLsbD_not, strobeMask_getLsbD st i hi, hi]
  cases st.getLsbD (i / 8) <;> simp

/-- A bit whose strobe is clear is taken as 0. -/
theorem strobed_getLsbD (v : Word) (st : BitVec 4) (i : Nat) (hi : i < 32) :
    (strobed v st).getLsbD i = (st.getLsbD (i / 8) && v.getLsbD i) := by
  simp only [strobed, BitVec.getLsbD_and, strobeMask_getLsbD st i hi, Bool.and_comm]

/-- With all four strobes set the whole word is written. -/
theorem mergeStrobes_all (old v : Word) : mergeStrobes old v 15 = v := by
  apply BitVec.eq_of_getLsbD_eq
  intro i hi
  rw [mergeStrobes_getLsbD old v 15 i hi]
  have h : ∀ i : Fin 32, (15 : BitVec 4).getLsbD (i.val / 8) = true := by decide
  simp only [h ⟨i, hi⟩, if_true]

/-- Bits of the word INTE stores: only bits with a cause (TABLE 57). -/
theorem causeMask_idem (w : Word) : w &&& causeMask &&& ~~~causeMask = 0 := by
  rw [BitVec.and_assoc]
  have h : causeMask &&& ~~~causeMask = 0 := by decide
  rw [h]
  simp

/-! ### Packed words -/

/-- The fields of a word are in ascending order from bit `lo` and lie in the word. -/
def fieldsFrom : Nat → List WordField → Prop
  | lo, [] => lo ≤ 32
  | lo, f :: rest => lo ≤ f.lo ∧ fieldsFrom (f.lo + f.width) rest

/-- The number a list of fields makes. -/
def fieldSum : List WordField → Nat
  | [] => 0
  | f :: rest => f.value % 2 ^ f.width * 2 ^ f.lo + fieldSum rest

theorem fieldsFrom_le {lo : Nat} {fs : List WordField} (h : fieldsFrom lo fs) : lo ≤ 32 := by
  induction fs generalizing lo with
  | nil => exact h
  | cons f rest ih => have := ih h.2; have := h.1; omega

theorem fieldSum_dvd {lo : Nat} {fs : List WordField} (h : fieldsFrom lo fs) : 2 ^ lo ∣ fieldSum fs := by
  induction fs generalizing lo with
  | nil => exact Dvd.intro 0 rfl
  | cons f rest ih =>
    have h1 : 2 ^ lo ∣ 2 ^ f.lo := Nat.pow_dvd_pow 2 h.1
    have h2 : 2 ^ lo ∣ 2 ^ (f.lo + f.width) := Nat.pow_dvd_pow 2 (by have := h.1; omega)
    exact Nat.dvd_add (Nat.dvd_trans h1 (Nat.dvd_mul_left _ _)) (Nat.dvd_trans h2 (ih h.2))

/-- A word of ascending fields is the number they make. -/
theorem packWord_toNat {lo : Nat} {fs : List WordField} (h : fieldsFrom lo fs) :
    (packWord fs).toNat = fieldSum fs := by
  induction fs generalizing lo with
  | nil => rfl
  | cons f rest ih =>
    have hle := fieldsFrom_le h.2
    have hrest := ih h.2
    obtain ⟨q, hq⟩ := fieldSum_dvd h.2
    have hv : f.value % 2 ^ f.width < 2 ^ f.width := Nat.mod_lt _ (Nat.two_pow_pos _)
    have hlt : f.value % 2 ^ f.width * 2 ^ f.lo < 2 ^ (f.lo + f.width) := by
      rw [Nat.pow_add, Nat.mul_comm (2 ^ f.lo)]
      exact Nat.mul_lt_mul_of_pos_right hv (Nat.two_pow_pos _)
    have hlt32 : f.value % 2 ^ f.width * 2 ^ f.lo < 2 ^ 32 :=
      Nat.lt_of_lt_of_le hlt (Nat.pow_le_pow_right (by decide) hle)
    have hv32 : f.value % 2 ^ f.width < 2 ^ 32 :=
      Nat.lt_of_lt_of_le hv (Nat.pow_le_pow_right (by decide) (by omega))
    have hfield : (BitVec.ofNat 32 (f.value % 2 ^ f.width) <<< f.lo).toNat = f.value % 2 ^ f.width * 2 ^ f.lo := by
      rw [BitVec.toNat_shiftLeft, BitVec.toNat_ofNat, Nat.mod_eq_of_lt hv32, Nat.shiftLeft_eq, Nat.mod_eq_of_lt hlt32]
    show ((BitVec.ofNat 32 (f.value % 2 ^ f.width) <<< f.lo) ||| packWord rest).toNat = _
    rw [BitVec.toNat_or, hfield, hrest, hq, Nat.or_comm, ← Nat.two_pow_add_eq_or_of_lt hlt]
    simp only [fieldSum, hq]
    omega

/-- A word of ascending fields, as a numeral. -/
theorem packWord_eq_ofNat {fs : List WordField} {n : Nat} (h : fieldsFrom 0 fs) (hn : fieldSum fs = n) :
    packWord fs = BitVec.ofNat 32 n := by
  apply BitVec.eq_of_toNat_eq
  rw [packWord_toNat h, BitVec.toNat_ofNat, Nat.mod_eq_of_lt, hn]
  rw [← hn, ← packWord_toNat h]
  exact (packWord fs).isLt

end Sys2Proof.Machine
end

