-- ==== Sys2Proof/WellFormed.lean ====
section
/-!
DEFINITION. When a command is one the outside can send: the operand ranges of the formats.
-/
namespace Sys2Proof

/-- A status byte sets no bit outside the five named conditions (R85, TABLE 67). -/
def statusWf (status : Byte) : Bool := status &&& 0xE0 == 0

/-- The offsets of the six registers whose writes have rows of their own: RQGO, RSNEXT, INTS, INTE, PRST, TBDIV
(TABLE 56). -/
def ownRowOffsets : List Nat := [0x10, 0x14, 0x40, 0x44, 0x4C, 0x50]

/-- A byte offset of a word of the 24-word window that REGISTER_WRITE writes (R179). -/
def offsetWf (offset : BitVec 7) : Bool :=
  offset.toNat % 4 == 0 && decide (offset.toNat ≤ 0x5C) && !ownRowOffsets.contains offset.toNat

/-- A length byte above 16 is known before the address, the CRC and the payload are judged (R80). -/
def malformedWf (check : FrameCheck) (lengthAbove16 : Bool) : Bool :=
  !lengthAbove16 || check == .framing || check == .completeness || check == .kind || check == .length

/-- Every operand is one its format admits: a status byte (R85), a chunk count of 1 to 8 and a data payload of 1 to 16
bytes (TABLE 25), an offset of the window, at least one response of a burst (R143). -/
def Instr.wf : Instr → Bool
  | .pinReset | .softResetComplete => true
  | .rqgoSubmit _ _ | .rsnextPop _ _ | .intsWrite _ _ | .inteWrite _ _ | .prstWrite _ _ | .tbdivWrite _ _ => true
  | .registerWrite offset _ _ => offsetWf offset
  | .openUnit | .closeUnit | .startChain | .haltUnit | .probeUnit | .collectReport => true
  | .laneControl | .resetLane | .setPolicy | .laneStatus | .unknownRequest => true
  | .timebaseTick | .detachTimerExpiry _ | .ledgerRecordExpiry | .responseTimeout _ => true
  | .breakSpaceEnd _ | .breakRecoveryEnd _ | .attentionLineChange _ _ => true
  | .frameMalformed _ check above => malformedWf check above
  | .frameAttn _ _ _ status => statusWf status
  | .frameEcho _ _ => true
  | .frameAcpt _ _ status => statusWf status
  | .frameNeed _ _ chunks => decide (1 ≤ chunks) && decide (chunks ≤ 8)
  | .frameDin _ _ _ bytes => decide (1 ≤ bytes.length) && decide (bytes.length ≤ 16)
  | .frameWait _ _ => true
  | .frameEnd _ _ status => statusWf status
  | .memoryBurstResponse resps _ => !resps.isEmpty
  | .frameSent _ | .frameFirstStartBit _ | .unbrokenMarkResync _ => true

end Sys2Proof
end

