-- ==== Sys2Proof/Tests/Slice0.lean ====
section
/-!
SUPPORT. The model's own tests: ill-formed commands refused, the spec's worked values, one-step tests, and a witness for the
hypotheses of each statement of Obligations.lean. Small states come from the builders below.
-/
namespace Sys2Proof.Tests

open Sys2Proof.Machine Sys2Proof.Claims

/-! ### Builders of small states -/

/-- The state that a command leads to, or the state itself where it stops. -/
def after (c : Instr) (s : State) : State :=
  match exec c s with
  | .next t => t
  | _ => s

/-- A state with its request port changed. -/
def onPort (f : Port → Port) (s : State) : State := { s with port := f s.port }

/-- A state with its blocks changed. -/
def onBlk (f : Blocks → Blocks) (s : State) : State := { s with blocks := f s.blocks }

/-- A state with one lane engine changed. -/
def onLane (n : LaneId) (f : Lane → Lane) (s : State) : State := onBlk (·.modLane n f) s

/-- A state with one context record changed. -/
def onCtx (k : Slot) (f : Context → Context) (s : State) : State := onBlk (·.modCtx k f) s

/-- A request with tag 2Ah. -/
def ask (w0 w1 w2 : Word) : Request := ⟨w0, w1, w2, 0, 0x2A⟩

/-- A state whose request FIFO holds one request. -/
def asking (r : Request) (s : State) : State := onPort (fun p => { p with reqs := [r] }) s

/-- Slot 3 bound to unit 9 of lane 1, its context in `st`. -/
def bound3 (st : CtxState) (s : State) : State :=
  onBlk (·.setIndex 1 9 (some 3)) (onCtx 3 (fun c => { c with state := st, binding := some ⟨1, 9, 7, 100, 2⟩ }) s)

/-- Lane 1 in `st`. -/
def lane1 (st : LaneState) (s : State) : State := onLane 1 (fun l => { l with state := st }) s

/-- The receiver of lane 1 assembles a frame. -/
def hearing (s : State) : State := onLane 1 (fun l => { l with rx := .assembling 2 }) s

/-- Lane 1 serves slot 3 in a connection, slot 3's context CONNECTED, the live descriptor `d`. -/
def serve3 (st : LaneState) (d : Descriptor) (s : State) : State :=
  onLane 1 (fun l =>
    { l with
      state := st, served := some ⟨3, .connection⟩, desc := some d, residual := d.count, dataAddr := d.addr
      rxResidual := d.count, stagingAddr := d.addr })
    (bound3 .connected s)

/-- A descriptor without flags. -/
def plainDesc (dir : Direction) (count : Nat) : Descriptor := ⟨dir, 0x21, ⟨false, false, false, false, false⟩, count, 0x1000⟩

/-- A response timer of lane 1 that has reached its limit. -/
def expired (s : State) : State := onLane 1 (fun l => { l with timer := some ⟨200, 200⟩ }) s

/-! ### WellFormed: each check refuses -/

theorem test_wf_refuses_status_bit5 : Instr.wf (.frameEnd 0 0 0x20) = false := by decide
theorem test_wf_refuses_acpt_status : Instr.wf (.frameAcpt 0 0 0x80) = false := by decide
theorem test_wf_refuses_attn_status : Instr.wf (.frameAttn 0 0 .free 0x40) = false := by decide
theorem test_wf_refuses_offset_off_grid : Instr.wf (.registerWrite 0x02 0 15) = false := by decide
theorem test_wf_refuses_offset_beyond : Instr.wf (.registerWrite 0x60 0 15) = false := by decide
theorem test_wf_refuses_offset_of_own_row : Instr.wf (.registerWrite 0x10 0 15) = false := by decide
theorem test_wf_refuses_long_frame_failing_crc : Instr.wf (.frameMalformed 0 .crc true) = false := by decide
theorem test_wf_refuses_need_of_0 : Instr.wf (.frameNeed 0 0 0) = false := by decide
theorem test_wf_refuses_need_of_9 : Instr.wf (.frameNeed 0 0 9) = false := by decide
theorem test_wf_refuses_empty_din : Instr.wf (.frameDin 0 0 false []) = false := by decide
theorem test_wf_refuses_din_of_17 : Instr.wf (.frameDin 0 0 false (List.replicate 17 0)) = false := by decide
theorem test_wf_refuses_no_response : Instr.wf (.memoryBurstResponse [] []) = false := by decide
theorem test_wf_accepts : Instr.wf (.registerWrite 0x0C 0 15) = true ∧ Instr.wf (.frameNeed 0 31 8) = true := by decide

/-! ### No word spells a command -/

theorem test_no_word_decodes : decodeTableWord 8 0x55 = none ∧ decodeTableWord 32 0 = none := by decide
theorem test_withFetchWord_changes_nothing : State.reset.withFetchWord 8 0x55 = State.reset := rfl

/-! ### The spec's worked values -/

/-- 10.6: SEL to unit 9. -/
theorem test_sel_frame : (PartFrame.sel 9).bytes = [0x02, 0x09, 0x00, 0x6B] := by decide +kernel

/-- 10.5: the descriptor at 3000h, IN, count 100, LINK_DATA, data address 8000h. -/
theorem test_descriptor :
    readDescriptor 0x3000 [1, 2, 0x21, 1, 100, 0, 0, 0, 0, 0x80, 0, 0, 0, 0, 0, 0] =
      some (.transfer ⟨.inbound, 0x21, ⟨true, false, false, false, false⟩, 100, 0x8000⟩) := by decide

/-- 10.4: the attention words of the worked example. -/
def shownExample : Shown :=
  { slot := 3, lane := 0, unit := 6, cookie := 0x1234, kind := .final, cls := some .unitCheck, reason := none
    status := some 0x01, residual := 12, descAddr := 0x2020, noteCount := 2, noteAddr := some 0x2010
    flags := { CtxFlags.empty with lengthShort := true } }

theorem test_attention_words :
    (List.range 6).map (shownExample.word 7) =
      [0x0782C603, 0x00001234, 0x0201000C, 0x00000202, 0x00004000, 0x00000201] := by decide

/-- TABLE 45: the bursts of 0FE3h to 1022h. -/
theorem test_read_bursts :
    (readBursts 0xFE3 64).map (fun b => (b.addr, b.beats, b.size, b.bytes)) =
      [(0xFE3, 5, 1, 5), (0xFE8, 3, 8, 24), (0x1000, 4, 8, 32), (0x1020, 3, 1, 3)] := by decide

theorem test_write_bursts :
    (writeBursts 0xFE3 64).map (fun b => (b.addr, b.beats, b.bytes)) = [(0xFE0, 4, 29), (0x1000, 5, 35)] := by decide

/-- A JUMP with an unaligned target is no descriptor; a direction byte of 3 is none. -/
theorem test_bad_descriptors :
    readDescriptor 0 [2, 0, 0, 0, 0, 0, 0, 0, 8, 0, 0, 0, 0, 0, 0, 0] = none ∧
      readDescriptor 0 [1, 3, 0, 0, 1, 0, 0, 0, 0, 0, 0, 0, 0, 0, 0, 0] = none := by decide

/-- A frame with a flipped CRC bit fails the CRC; one cut short fails completeness; a part's kind fails the kind. -/
theorem test_malformed_frames :
    receiveChars [some 0x11, some 9, some 0, some 0] = .malformed .crc false ∧
      receiveChars [some 0x11, some 9, some 0] = .malformed .completeness false ∧
      receiveChars [some 0x02, some 9, some 0, some 0x6B] = .malformed .kind false ∧
      receiveChars [some 0x13, none] = .malformed .framing false ∧
      receiveChars [some 0x13, some 9, some 17] = .malformed .length true := by decide +kernel

/-- R75: one character on the pair, and what the levels of a character with its stop bit at space amount to. -/
theorem test_character : charLevels 0x02 =
      [.space, .space, .mark, .space, .space, .space, .space, .space, .space, .mark] ∧
    charOf (charLevels 0x02) = some 0x02 ∧ charOf (List.replicate 10 .space) = none := by decide

/-- TABLE 24: a full chunk at 4 Mbit/s. -/
theorem test_frame_time : frameTimeNs 2 20 = 50000 ∧ bitRate 3 = 8000000 := by decide

/-- R74, R76: LnTXD in the start bit of a SEL, in a BREAK, and at rest. -/
theorem test_txd : ({ Lane.reset with tx := some ⟨.sel 9, 2⟩ } : Lane).txd 1 = .space ∧
    ({ Lane.reset with brk := some ⟨.space, 5⟩ } : Lane).txd 0 = .space ∧ Lane.reset.txd 0 = .mark := by decide +kernel

/-! ### One-step tests -/

/-- A request of RQW0 = 0109_0101h's kind: OPEN of unit 9 of lane 1. -/
def open9 : Request := ask 0x00090101 7 0x00020064

theorem test_open : (after .openUnit (asking open9 State.reset)).port.resps = [⟨0x2A, .accepted, 0, 0, 0⟩] := by decide
theorem test_open_binds : (after .openUnit (asking open9 State.reset)).blocks.lookup 1 9 = some 0 := by decide
theorem test_start_needs_a_lane :
    (after .startChain (asking (ask 0x00090103 0x1000 0) (bound3 .idle State.reset))).port.resps =
      [⟨0x2A, .laneUnavailable, 0, 0, 0⟩] := by decide
theorem test_start_reads_the_descriptor :
    ((after .startChain (asking (ask 0x00090103 0x1000 0) (lane1 .idle (bound3 .idle State.reset)))).blocks.mem.inflight.map
      fun t => (t.requester, t.burst)) = some (.fetcher, ⟨0x1000, 2, 8, 16⟩) := by decide
theorem test_stray_frame :
    ((after (.frameEcho 1 9) (hearing (lane1 .idle State.reset))).blocks.lane 1).strayFrame = true := by decide
theorem test_deaf_receiver_takes_nothing :
    (after (.frameEcho 1 9) (lane1 .selecting State.reset)).blocks.lane 1 = (lane1 .selecting State.reset).blocks.lane 1 := by
  decide +kernel
theorem test_cmd_bytes :
    (PartFrame.cmd 9 0x21 .inbound 0x0164).bytes.dropLast = [0x04, 9, 4, 0x21, 0x02, 0x64, 0x01] := by decide
theorem test_need_out_of_turn_is_a_link_error :
    ((after (.frameNeed 1 9 1) (hearing (serve3 .commanding (plainDesc .outbound 8) State.reset))).blocks.lane 1).state =
      .aborting := by decide

/-- R17, log 36: the status of an END that is a link error is recorded. -/
theorem test_status_of_an_end_out_of_place :
    ((after (.frameEnd 1 9 0x10) (hearing (serve3 .commanding (plainDesc .outbound 8) State.reset))).blocks.ctx 3).lastStatus =
        some 0x10 ∧
      ((after (.frameEnd 1 9 0x10) (hearing (serve3 .commanding (plainDesc .outbound 8) State.reset))).blocks.lane 1).state =
        .aborting := by decide +kernel

/-- An IN command whose CMD waits while a frame is being received. -/
def cmdWaits : State :=
  onLane 1 (fun l => { l with txQueue := [.cmd 9 0x21 .inbound 20] })
    (hearing (serve3 .commanding (plainDesc .inbound 20) State.reset))

/-- R109, log 9: the GRANT of an ACPT taken while the CMD waits follows the CMD. -/
theorem test_grant_follows_a_cmd_that_waited :
    (((after (.frameAcpt 1 9 0) cmdWaits).blocks.lane 1).tx.map (·.frame)) = some (.cmd 9 0x21 .inbound 20) ∧
      (((after (.frameSent 1) (after (.frameAcpt 1 9 0) cmdWaits)).blocks.lane 1).tx.map (·.frame)) =
        some (.grant 9 2 4) := by decide +kernel

/-- R132, log 9: a frame sent while one is being received waits, and goes out when that one is taken. -/
theorem test_frame_waits_for_the_reception :
    ((hearing State.reset).blocks.lane 1).send .poll = { (hearing State.reset).blocks.lane 1 with txQueue := [.poll] } ∧
      (({ (hearing State.reset).blocks.lane 1 with txQueue := [.poll] } : Lane).endReception .listening).tx =
        some ⟨.poll, 2⟩ := by decide +kernel

/-- R115: a NEED in L_ENDING awaiting END is answered with STOP and leaves the context as it was. -/
theorem test_need_in_ending :
    ((after (.frameNeed 1 9 1) (hearing (serve3 .ending (plainDesc .outbound 0) State.reset))).blocks.lane 1).tx =
        some ⟨.stop 9, 2⟩ ∧
      (after (.frameNeed 1 9 1) (hearing (serve3 .ending (plainDesc .outbound 0) State.reset))).blocks.ctx 3 =
        (serve3 .ending (plainDesc .outbound 0) State.reset).blocks.ctx 3 := by decide +kernel

/-- R74: a disabled lane sees no mark. -/
theorem test_no_resync_when_disabled :
    ({ Lane.reset with rx := .lostFooting } : Lane).resync.rx = .lostFooting := by decide

/-! ### Witnesses: the machine, resets and registers -/

theorem test_witness_idle_step : State.reset.pending = [] ∧ State.reset.blocks.window.asked = false ∧
    (onBlk (fun b => { b with window := { b.window with asked := true } }) State.reset).blocks.window.asked = true ∧
    (onBlk (fun b => { b with window := { b.window with asked := true } }) State.reset).pending = [] :=
  ⟨rfl, rfl, rfl, rfl⟩

/-- A part in a soft reset. -/
def resetting : State := onPort (fun p => { p with pstat := .resetting }) State.reset

/-- A read of one beat in flight for lane 1. -/
def readInFlight : Txn := ⟨.lane 1, ⟨.dataRead .h0, 0xFF0, 32⟩, [⟨0x1000, 2, 8, 16⟩], ⟨0xFF0, 2, 8, 16⟩, [], false, false⟩

theorem test_witness_soft_reset_quiet : resetting.port.pstat = .resetting ∧ resetting.blocks.mem.inflight = none := by
  decide
theorem test_witness_soft_reset_busy :
    (onBlk (fun b => { b with mem := { b.mem with inflight := some readInFlight } }) resetting).port.pstat = .resetting ∧
      (onBlk (fun b => { b with mem := { b.mem with inflight := some readInFlight } }) resetting).blocks.mem.inflight =
        some readInFlight := by decide

/-- A request FIFO of `k` entries. -/
def queued (k : Nat) : State := onPort (fun p => { p with reqs := List.replicate k (ask 0 0 0) }) State.reset

theorem test_witness_submission_with_room : writable (queued 7) 15 ∧ (queued 7).port.reqs.length < 8 :=
  ⟨⟨rfl, by decide⟩, by decide⟩
theorem test_witness_submission_without_room : writable (queued 8) 1 ∧ 8 ≤ (queued 8).port.reqs.length :=
  ⟨⟨rfl, by decide⟩, by decide⟩
theorem test_witness_staging : State.reset.port.pstat = .ready ∧ handlerCode .openUnit = some .openUnit := by decide

/-- One response in the response FIFO. -/
def responded : State := onPort (fun p => { p with resps := [⟨5, .busy, 1, 2, 3⟩] }) State.reset

theorem test_witness_responses :
    State.reset.port.resps = [] ∧ responded.port.pstat = .ready ∧ responded.port.resps = [⟨5, .busy, 1, 2, 3⟩] := by decide
theorem test_witness_pop : writable responded 8 := ⟨rfl, by decide⟩

/-- INTS_WRITE, INTE_WRITE, PRST_WRITE and TBDIV_WRITE: the lowest and the highest single strobe. -/
theorem test_witness_writable : writable State.reset 1 ∧ writable State.reset 8 := ⟨⟨rfl, by decide⟩, ⟨rfl, by decide⟩⟩
theorem test_witness_ignored_writes : resetting.port.pstat = .resetting ∧ (0 : BitVec 4) = 0 := by decide
theorem test_witness_ignored_offsets :
    (6 ≤ 6 ∧ 6 ≤ 15) ∧ (6 ≤ 15 ∧ 15 ≤ 15) ∧ (21 ≤ 21 ∧ 21 ≤ 23) ∧ (21 ≤ 23 ∧ 23 ≤ 23) := by decide

/-! ### Witnesses: the request handler -/

/-- A request on unit 9 of lane 1 with this code and no operand. -/
def on9 (code : Word) : Request := ask (0x00090100 + code) 0 0

/-- A request on lane 1 with this code. -/
def onLane1 (code w1 w2 : Word) : Request := ask (0x00000100 + code) w1 w2

theorem test_witness_at_head : handlerCode .openUnit = some .openUnit ∧
    atHead (asking open9 State.reset) open9 [] .openUnit := ⟨rfl, rfl, by decide, rfl, by decide⟩

/-- A full response FIFO. -/
def backedUp : State := onPort (fun p => { p with resps := List.replicate 8 ⟨0, .accepted, 0, 0, 0⟩ }) (asking open9 State.reset)

theorem test_witness_waits : State.reset.port.reqs = [] ∧ 8 ≤ backedUp.port.resps.length ∧
    resetting.port.pstat = .resetting := by decide
/-- One step past each bound of TABLE 59: detach limit, select retries, chain address, rate, response limit, START_LIMIT,
WINDOW_US; and a bit that CLOSE does not use. -/
def pastTheBounds : List Request :=
  [ask 0x00090101 7 60001, ask 0x00090101 7 0x00080064, ask 0x00090103 0x1001 0, ask 0x00090103 0x1008 0,
    onLane1 7 0x40 200, onLane1 7 0x20 19, onLane1 7 0x20 5001, ask 9 0 2000, ask 9 9 2000, ask 9 4 99, ask 9 4 65536,
    ask 0x00090102 1 0]

/-- The bounds themselves. -/
def atTheBounds : List Request :=
  [ask 0x00090101 7 60000, ask 0x00090101 7 0x00070064, ask 0x00090103 0x1010 0xFFFF, onLane1 7 0x30 200,
    onLane1 7 0x20 20, onLane1 7 0x20 5000, ask 9 1 2000, ask 9 8 2000, ask 9 4 100, ask 9 4 65535]

theorem test_bounds : (∀ r ∈ pastTheBounds, r.inRange = false) ∧ ∀ r ∈ atTheBounds, r.inRange = true := by
  decide +kernel
theorem test_witness_bad_field : atHead (asking (on9 0x42) State.reset) (on9 0x42) [] .unknown ∧
    ¬fieldsInRange (on9 0x42) ∧
    atHead (asking (ask 0x00090101 7 60001) State.reset) (ask 0x00090101 7 60001) [] .openUnit ∧
    ¬fieldsInRange (ask 0x00090101 7 60001) :=
  ⟨⟨rfl, by decide, rfl, by decide⟩, fun h => (show False from h.2), ⟨rfl, by decide, rfl, by decide⟩,
    fun h => absurd (show _ ∧ _ ∧ _ ∧ _ from h.2).2.2.1 (by decide)⟩

theorem test_witness_open : taken (asking open9 State.reset) open9 [] .openUnit ∧
    (asking open9 State.reset).blocks.lookup open9.lane open9.unit = none ∧
    ((asking open9 State.reset).blocks.ctx 0).state = .free ∧
    ∀ j : Slot, j < 0 → ((asking open9 State.reset).blocks.ctx j).state ≠ .free :=
  ⟨⟨⟨rfl, by decide, rfl, by decide⟩, by decide⟩, by decide, by decide, fun j h => absurd h (Fin.not_lt_zero j)⟩

/-- OPEN of the unit that slot 3 is bound to. -/
def reopen : State := asking open9 (bound3 .idle State.reset)

/-- OPEN with every slot taken. -/
def fullTable : State :=
  onBlk (fun b => { b with ctxs := Vector.replicate 40 { Context.reset with state := .idle } }) (asking open9 State.reset)

theorem test_witness_already_open : taken reopen open9 [] .openUnit ∧
    reopen.blocks.lookup open9.lane open9.unit = some 3 :=
  ⟨⟨⟨rfl, by decide, rfl, by decide⟩, by decide⟩, by decide⟩
theorem test_witness_table_full : taken fullTable open9 [] .openUnit ∧
    fullTable.blocks.lookup open9.lane open9.unit = none ∧ ∀ k : Slot, (fullTable.blocks.ctx k).state ≠ .free :=
  ⟨⟨⟨rfl, by decide, rfl, by decide⟩, by decide⟩, by decide, by decide⟩

/-- START of unit 9 of lane 1 at 1000h. -/
def start9 : Request := ask 0x00090103 0x1000 0

/-- START with slot 3's context in `st` and lane 1 in `ls`. -/
def starting (st : CtxState) (ls : LaneState) : State := asking start9 (lane1 ls (bound3 st State.reset))

theorem test_witness_start_unbound : taken (asking start9 State.reset) start9 [] .startChain ∧
    (asking start9 State.reset).blocks.lookup start9.lane start9.unit = none :=
  ⟨⟨⟨rfl, by decide, rfl, by decide⟩, by decide⟩, by decide⟩
theorem test_witness_start_refused (st : CtxState) : taken (starting st .idle) start9 [] .startChain ∧
    (starting st .idle).blocks.lookup start9.lane start9.unit = some 3 ∧ ((starting st .idle).blocks.ctx 3).state = st :=
  ⟨⟨⟨rfl, by cases st <;> decide, rfl, by decide⟩, by decide⟩, by cases st <;> decide, by cases st <;> decide⟩
theorem test_witness_start_lane_unavailable :
    ((starting .idle .disabled).blocks.ctx 3).state = .idle ∧
      ((starting .idle .disabled).blocks.lane start9.lane).state = .disabled ∧
      ((starting .idle .fault).blocks.lane start9.lane).state = .fault ∧ CtxState.running .loading = true ∧
      CtxState.running .halting = true := by decide
theorem test_witness_start : ((starting .idle .idle).blocks.ctx 3).state = .idle ∧
    ((starting .idle .idle).blocks.lane start9.lane).state ≠ .disabled ∧
    ((starting .idle .idle).blocks.lane start9.lane).state ≠ .fault ∧ (starting .idle .idle).blocks.fetch = none ∧
    (starting .idle .idle).blocks.fetchQ = [] := by decide

/-- A fetch of slot 5 in progress. -/
def fetch5 : Fetch := ⟨5, .start, 0x2000, 0, false⟩

theorem test_witness_start_queued :
    (onBlk (fun b => { b with fetch := some fetch5 }) (starting .idle .idle)).blocks.fetch = some fetch5 := by decide

/-- A request on unit 9 with slot 3's context in `st`. -/
def on9In (code : Word) (st : CtxState) : State := asking (on9 code) (bound3 st State.reset)

theorem test_witness_close (st : CtxState) : taken (on9In 2 st) (on9 2) [] .closeUnit ∧
    (on9In 2 st).blocks.lookup (on9 2).lane (on9 2).unit = some 3 ∧ ((on9In 2 st).blocks.ctx 3).state = st :=
  ⟨⟨⟨rfl, by cases st <;> decide, rfl, by decide⟩, by decide⟩, by cases st <;> decide, by cases st <;> decide⟩
theorem test_witness_close_unbound : taken (asking (on9 2) State.reset) (on9 2) [] .closeUnit ∧
    (asking (on9 2) State.reset).blocks.lookup (on9 2).lane (on9 2).unit = none :=
  ⟨⟨⟨rfl, by decide, rfl, by decide⟩, by decide⟩, by decide⟩

theorem test_witness_halt_unbound : taken (asking (on9 4) State.reset) (on9 4) [] .haltUnit ∧
    (asking (on9 4) State.reset).blocks.lookup (on9 4).lane (on9 4).unit = none :=
  ⟨⟨⟨rfl, by decide, rfl, by decide⟩, by decide⟩, by decide⟩
theorem test_witness_halt (st : CtxState) : taken (on9In 4 st) (on9 4) [] .haltUnit ∧
    (on9In 4 st).blocks.lookup (on9 4).lane (on9 4).unit = some 3 ∧ ((on9In 4 st).blocks.ctx 3).state = st ∧
    (on9In 4 st).blocks.laneOf 3 = (on9 4).lane ∧ ((on9In 4 st).blocks.ctx 3).haltCause = none :=
  ⟨⟨⟨rfl, by cases st <;> decide, rfl, by decide⟩, by decide⟩, by cases st <;> decide, by cases st <;> decide,
    by cases st <;> decide, by cases st <;> decide⟩
theorem test_witness_halt_again :
    ((onCtx 3 (fun c => { c with haltCause := some .requested }) (on9In 4 .loading)).blocks.ctx 3).haltCause ≠ none := by
  decide
theorem test_witness_halt_queued :
    (⟨3, .start⟩ : FetchEntry) ∈ (onBlk (fun b => { b with fetchQ := [⟨3, .start⟩] }) (on9In 4 .loading)).blocks.fetchQ ∧
      (onBlk (fun b => { b with fetchQ := [⟨3, .start⟩] }) (on9In 4 .loading)).blocks.fetch = none ∧
      ∀ e ∈ (on9In 4 .loading).blocks.fetchQ, e.slot ≠ 3 := by decide

/-- HALT of slot 3's context while lane 1 serves it in `st`. -/
def halting9 (st : LaneState) : State := asking (on9 4) (serve3 st (plainDesc .outbound 8) State.reset)

theorem test_witness_halt_connected (st : LaneState) : taken (halting9 st) (on9 4) [] .haltUnit ∧
    (halting9 st).blocks.lookup (on9 4).lane (on9 4).unit = some 3 ∧ ((halting9 st).blocks.ctx 3).state = .connected ∧
    (halting9 st).blocks.laneOf 3 = (on9 4).lane ∧ serving (halting9 st) (on9 4).lane 3 ∧
    ((halting9 st).blocks.lane (on9 4).lane).state = st ∧ ((halting9 st).blocks.lane (on9 4).lane).tx = none :=
  ⟨⟨⟨rfl, by cases st <;> decide, rfl, by decide⟩, by decide⟩, by cases st <;> decide, by cases st <;> decide,
    by cases st <;> decide, by cases st <;> rfl, by cases st <;> decide, by cases st <;> decide⟩

/-- HALT of slot 3's context while lane 1, changed by `f`, serves it in `st` with the live descriptor `d`. -/
def haltingWith (st : LaneState) (d : Descriptor) (f : Lane → Lane) : State :=
  onLane 1 f (asking (on9 4) (serve3 st d State.reset))

theorem test_witness_halt_of_a_served (st : LaneState) (d : Descriptor) (f : Lane → Lane) :
    taken (haltingWith st d f) (on9 4) [] .haltUnit ∧
      (haltingWith st d f).blocks.lookup (on9 4).lane (on9 4).unit = some 3 ∧
      ((haltingWith st d f).blocks.ctx 3).state = .connected ∧ (haltingWith st d f).blocks.laneOf 3 = (on9 4).lane :=
  ⟨⟨⟨rfl, Nat.zero_lt_succ 7, rfl, by decide⟩, by decide⟩, rfl, rfl, rfl⟩
theorem test_witness_halt_at_the_lanes_turn (st : LaneState) (d : Descriptor) (m : Option LaneMem) :
    serving (haltingWith st d fun l => { l with memReq := m }) 1 3 ∧
      ((haltingWith st d fun l => { l with memReq := m }).blocks.lane 1).state = st ∧
      ((haltingWith st d fun l => { l with memReq := m }).blocks.lane 1).desc = some d ∧
      ((haltingWith st d fun l => { l with memReq := m }).blocks.lane 1).tx = none ∧
      ((haltingWith st d fun l => { l with memReq := m }).blocks.lane 1).rx.isAssembling = false ∧
      ((haltingWith st d fun l => { l with memReq := m }).blocks.lane 1).timer = none ∧
      ((haltingWith st d fun l => { l with memReq := m }).blocks.lane 1).memReq = m ∧
      ((haltingWith st d fun l => { l with memReq := m }).blocks.lane 1).abortPhase = .awaiting :=
  ⟨rfl, rfl, rfl, rfl, rfl, rfl, rfl, rfl⟩
/-- HALT at the lane's turn while a staging read of lane 1 waits at the port behind a transaction in flight, or is granted. -/
def haltingRead (waiting : Option MemReq) : State :=
  onBlk (fun b => { b with mem := { b.mem.setLaneReq 1 waiting with inflight := some readInFlight } })
    (haltingWith .transfer (plainDesc .outbound 8) fun l => { l with memReq := some ⟨false, .h0, 8, false⟩ })

theorem test_witness_halt_with_a_read (waiting : Option MemReq) : (haltingRead waiting).blocks.mem.laneReq 1 = waiting ∧
    (haltingRead waiting).blocks.mem.inflight ≠ none ∧
    ((haltingRead waiting).blocks.lane 1).memReq = some ⟨false, .h0, 8, false⟩ ∧
    ((haltingRead waiting).blocks.lane 1).timer = none := ⟨rfl, fun h => (by cases h), rfl, rfl⟩
theorem test_witness_halt_set_only (st : LaneState) (d : Descriptor) (m : Option LaneMem) :
    ((haltingWith st d fun l => { l with timer := some ⟨0, 200⟩ }).blocks.lane 1).timer ≠ none ∧
      ((haltingWith st d fun l => { l with tx := some ⟨.resume 9, 2⟩ }).blocks.lane 1).tx ≠ none ∧
      ((haltingWith st d fun l => { l with tx := some ⟨.resume 9, 2⟩ }).blocks.lane 1).desc = some d ∧
      ((haltingWith st d fun l => { l with rx := .assembling 2 }).blocks.lane 1).rx.isAssembling = true ∧
      ((haltingWith st d fun l => { l with memReq := m }).blocks.lane 1).closing = none ∧
      ((haltingWith st d fun l => { l with abortPhase := .confirmed, memReq := m }).blocks.lane 1).memReq = m :=
  ⟨fun h => (by cases h), fun h => (by cases h), rfl, rfl, rfl, rfl⟩

theorem test_witness_probe : taken (on9In 5 .ready) (on9 5) [] .probeUnit ∧
    (on9In 5 .ready).blocks.lookup (on9 5).lane (on9 5).unit = some 3 ∧ ((on9In 5 .ready).blocks.ctx 3).residual < 65536 ∧
    (asking (on9 5) State.reset).blocks.lookup (on9 5).lane (on9 5).unit = none :=
  ⟨⟨⟨rfl, by decide, rfl, by decide⟩, by decide⟩, by decide, by decide, by decide⟩

/-- COLLECT with `q` in the report queue. -/
def collecting (q : List ReportEntry) : State :=
  onBlk (fun b => { b with reports := { b.reports with queue := q } }) (on9In 6 .reported)

theorem test_witness_collect (q : List ReportEntry) : taken (collecting q) (on9 6) [] .collectReport ∧
    (collecting q).blocks.lookup (on9 6).lane (on9 6).unit = some 3 ∧ (collecting q).blocks.reports.queue = q :=
  ⟨⟨⟨rfl, Nat.zero_lt_succ 7, rfl, by decide⟩, by decide⟩, rfl, rfl⟩
theorem test_witness_collect_unbound : taken (asking (on9 6) State.reset) (on9 6) [] .collectReport ∧
    (asking (on9 6) State.reset).blocks.lookup (on9 6).lane (on9 6).unit = none :=
  ⟨⟨⟨rfl, by decide, rfl, by decide⟩, by decide⟩, by decide⟩
theorem test_witness_collect_heads :
    (⟨5, .final⟩ : ReportEntry).slot ≠ 3 ∧ (⟨3, .note⟩ : ReportEntry).slot = 3 ∧ (⟨3, .final⟩ : ReportEntry).slot = 3 ∧
      (List.replicate 39 (⟨3, .note⟩ : ReportEntry)).length < 40 := by decide

/-- LANE on lane 1 with enable `e` and bit-rate code 2 and response limit 200, as after reset, or code 1 and limit 20. -/
def laneReq (e : Word) (same : Bool) : Request := onLane1 7 ((if same then 0x20 else 0x10) + e) (if same then 200 else 20)

/-- LANE with lane 1 in `ls` and slot 3's context in `st`. -/
def controlling (e : Word) (same : Bool) (ls : LaneState) (st : CtxState) : State :=
  asking (laneReq e same) (lane1 ls (bound3 st State.reset))

/-- The parameters of the request are those of the lane. -/
def unchanged (e : Word) (same : Bool) (ls : LaneState) (st : CtxState) : Prop :=
  ((controlling e same ls st).blocks.lane 1).rate.val = (laneReq e same).w1.toNat / 16 % 16 ∧
    ((controlling e same ls st).blocks.lane 1).limit = (laneReq e same).w2.toNat % 65536

theorem test_witness_lane_fault : taken (controlling 1 false .fault .idle) (laneReq 1 false) [] .laneControl ∧
    ((controlling 1 false .fault .idle).blocks.lane (laneReq 1 false).lane).state = .fault :=
  ⟨⟨⟨rfl, by decide, rfl, by decide⟩, by decide⟩, by decide⟩
theorem test_witness_lane_disabled : taken (controlling 1 false .disabled .idle) (laneReq 1 false) [] .laneControl ∧
    ((controlling 1 false .disabled .idle).blocks.lane (laneReq 1 false).lane).state = .disabled ∧
    (laneReq 1 false).w1.getLsbD 0 = true ∧
    taken (controlling 0 false .disabled .idle) (laneReq 0 false) [] .laneControl ∧
    ((controlling 0 false .disabled .idle).blocks.lane (laneReq 0 false).lane).state = .disabled ∧
    (laneReq 0 false).w1.getLsbD 0 = false :=
  ⟨⟨⟨rfl, by decide, rfl, by decide⟩, by decide⟩, by decide, by decide, ⟨⟨rfl, by decide, rfl, by decide⟩, by decide⟩,
    by decide, by decide⟩
theorem test_witness_lane_running : taken (controlling 1 true .idle .ready) (laneReq 1 true) [] .laneControl ∧
    unchanged 1 true .idle .ready ∧ (laneReq 1 true).w1.getLsbD 0 = true ∧
    taken (controlling 1 false .idle .ready) (laneReq 1 false) [] .laneControl ∧ ¬unchanged 1 false .idle .ready ∧
    0 < (controlling 1 false .idle .ready).blocks.runningOn 1 ∧
    taken (controlling 0 true .idle .ready) (laneReq 0 true) [] .laneControl ∧ (laneReq 0 true).w1.getLsbD 0 = false ∧
    0 < (controlling 0 true .idle .ready).blocks.runningOn 1 ∧
    ((controlling 0 true .idle .ready).blocks.lane 1).state = .idle :=
  ⟨⟨⟨rfl, by decide, rfl, by decide⟩, by decide⟩, ⟨by decide, by decide⟩, by decide,
    ⟨⟨rfl, by decide, rfl, by decide⟩, by decide⟩, fun h => absurd h.2 (by decide), by decide +kernel,
    ⟨⟨rfl, by decide, rfl, by decide⟩, by decide⟩, by decide, by decide +kernel, by decide⟩
theorem test_witness_lane_quiet : taken (controlling 0 false .idle .idle) (laneReq 0 false) [] .laneControl ∧
    (controlling 0 false .idle .idle).blocks.runningOn 1 = 0 ∧
    taken (controlling 1 false .idle .idle) (laneReq 1 false) [] .laneControl ∧
    (controlling 1 false .idle .idle).blocks.runningOn 1 = 0 ∧
    ((controlling 1 false .idle .idle).blocks.lane 1).state = .idle :=
  ⟨⟨⟨rfl, by decide, rfl, by decide⟩, by decide⟩, by decide +kernel, ⟨⟨rfl, by decide, rfl, by decide⟩, by decide⟩,
    by decide +kernel, by decide⟩

/-- RESET_LANE of lane 1 while it serves slot 3. -/
def laneResetting : State := asking (onLane1 8 0 0) (serve3 .transfer (plainDesc .outbound 8) State.reset)

theorem test_witness_reset_lane : taken laneResetting (onLane1 8 0 0) [] .resetLane ∧
    (laneResetting.blocks.lane (onLane1 8 0 0).lane).state ≠ .disabled ∧
    ∀ k, serving laneResetting (onLane1 8 0 0).lane k →
      laneResetting.blocks.onLane k (onLane1 8 0 0).lane = true ∧ (laneResetting.blocks.ctx k).state.finalised = true := by
  refine ⟨⟨⟨rfl, by decide, rfl, by decide⟩, by decide⟩, by decide, fun k hk => ?_⟩
  have h3 : k = 3 := by
    have h : (laneResetting.blocks.lane (onLane1 8 0 0).lane).served = some ⟨3, .connection⟩ := rfl
    rw [serving, h] at hk
    simpa using hk.symm
  subst h3
  decide

theorem test_witness_reset_lane_disabled : taken (asking (onLane1 8 0 0) State.reset) (onLane1 8 0 0) [] .resetLane ∧
    ((asking (onLane1 8 0 0) State.reset).blocks.lane (onLane1 8 0 0).lane).state = .disabled :=
  ⟨⟨⟨rfl, by decide, rfl, by decide⟩, by decide⟩, by decide⟩

/-- POLICY of START_LIMIT 8 and WINDOW_US 100. -/
def policyReq : Request := ask 9 8 100

theorem test_witness_policy : taken (asking policyReq State.reset) policyReq [] .setPolicy ∧
    (asking policyReq State.reset).blocks.window.startLimit < 16 ∧
    (asking policyReq State.reset).blocks.window.windowUs < 65536 ∧
    (asking policyReq State.reset).blocks.window.permits = [] :=
  ⟨⟨⟨rfl, by decide, rfl, by decide⟩, by decide⟩, by decide, by decide, by decide⟩
theorem test_witness_lane_status : taken (asking (onLane1 10 0 0) State.reset) (onLane1 10 0 0) [] .laneStatus ∧
    ((asking (onLane1 10 0 0) State.reset).blocks.lane (onLane1 10 0 0).lane).limit < 8192 ∧
    ((asking (onLane1 10 0 0) State.reset).blocks.lane (onLane1 10 0 0).lane).readyQ.length < 64 ∧
    ((asking (onLane1 10 0 0) State.reset).blocks.lane (onLane1 10 0 0).lane).haltList.length < 64 :=
  ⟨⟨⟨rfl, by decide, rfl, by decide⟩, by decide⟩, by decide, by decide, by decide⟩

/-- After reset every entry of the unit index is UNBOUND and every slot is FREE, so the index is sound. -/
theorem test_witness_index_sound : State.reset.blocks.indexSound :=
  ⟨fun n u s h => absurd h (by
      have h0 : State.reset.blocks.lookup n u = none := Vector.getElem_replicate (n := 128) (indexEntry n u).isLt
      rw [h0]
      simp),
    fun s h => absurd (congrArg Context.state (Vector.getElem_replicate (n := 40) s.isLt)) h⟩

/-! ### Witnesses: time -/

/-- Ticks at the last of a millisecond, and with a response timer that counts and one that waits. -/
def ticking : State :=
  onCtx 3 (fun c => { c with timer := some ⟨1, 999⟩ }) (onCtx 4 (fun c => { c with timer := some ⟨60000, 0⟩ })
    (hearing (onLane 0 (fun l => { l with timer := some ⟨199, 200⟩ }) State.reset)))

theorem test_witness_tick : (ticking.blocks.ctx 3).timer = some ⟨1, 999⟩ ∧ (ticking.blocks.ctx 4).timer = some ⟨60000, 0⟩ ∧
    (ticking.blocks.lane 0).timer = some ⟨199, 200⟩ ∧ (ticking.blocks.lane 0).rx.isAssembling = false ∧
    receiving ticking 1 := ⟨by decide, by decide, by decide, by decide, rfl⟩
theorem test_witness_detach_expiry :
    ((onCtx 3 (fun c => { c with timer := some ⟨0, 0⟩ }) (bound3 .detached State.reset)).blocks.ctx 3).state = .detached ∧
      ((onCtx 3 (fun c => { c with timer := some ⟨0, 0⟩ }) (bound3 .detached State.reset)).blocks.ctx 3).timer =
        some ⟨0, 0⟩ := by decide

/-- Lane 1 waits for a permit with `young` young records, an expiry event not yet taken. -/
def waitingPermit (young : Nat) : State :=
  onBlk (fun b =>
    { b with window := { b.window with permits := [1], expiryDue := true, ledger := List.replicate young ⟨0, 1999⟩ } })
    (serve3 .permitWait (plainDesc .noData 0) State.reset)

theorem test_witness_grant : (waitingPermit 3).blocks.window.expiryDue = true ∧
    (waitingPermit 3).blocks.window.permits = [1] ∧
    (waitingPermit 3).blocks.window.youngCount < (waitingPermit 3).blocks.window.startLimit ∧
    ((waitingPermit 3).blocks.lane 1).desc = some (plainDesc .noData 0) ∧ ((waitingPermit 3).blocks.lane 1).tx = none ∧
    (waitingPermit 3).blocks.window.ledger.length < 8 := by decide
theorem test_witness_no_grant : (waitingPermit 4).blocks.window.expiryDue = true ∧
    (waitingPermit 4).blocks.window.permits = [1] ∧
    (waitingPermit 4).blocks.window.startLimit ≤ (waitingPermit 4).blocks.window.youngCount := by decide

/-- Lane 1 has asked for a permit and its decision is owed. -/
def askedPermit : State := onBlk (fun b => { b with window := { b.window with asked := true } }) (waitingPermit 3)

theorem test_witness_owed_grant : askedPermit.pending = [] ∧ askedPermit.blocks.window.asked = true ∧
    askedPermit.blocks.window.permits = [1] ∧
    askedPermit.blocks.window.youngCount < askedPermit.blocks.window.startLimit ∧
    (askedPermit.blocks.lane 1).desc = some (plainDesc .noData 0) ∧ askedPermit.blocks.window.ledger.length < 8 ∧
    step { askedPermit with pending := [] } = .next (askedPermit.onBlocks Blocks.grantDecision) :=
  ⟨rfl, rfl, rfl, by decide, rfl, by decide, rfl⟩

/-- R131: no tick finds the lane still waiting. -/
theorem test_tick_takes_the_owed_decision : ((after .timebaseTick askedPermit).blocks.lane 1).state = .commanding := by
  decide +kernel

/-- Lane 1 in L_POLLING with its timer at its limit and two empty polls behind it. -/
def emptyPoll : State := onLane 1 (fun l => { l with emptyPolls := 2 }) (expired (lane1 .polling State.reset))

theorem test_witness_empty_poll : (emptyPoll.blocks.lane 1).state = .polling ∧
    (emptyPoll.blocks.lane 1).timer = some ⟨200, 200⟩ ∧ (emptyPoll.blocks.lane 1).emptyPolls < 3 := by decide

/-- Lane 1 serves slot 3 in `st` with its timer at its limit. -/
def timedOut3 (st : LaneState) : State := expired (serve3 st (plainDesc .outbound 8) State.reset)

theorem test_witness_unconfirmed : ((timedOut3 .aborting).blocks.ctx 3).state ≠ .free := by decide
theorem test_witness_timeout (st : LaneState) : ((timedOut3 st).blocks.lane 1).state = st ∧ serving (timedOut3 st) 1 3 ∧
    ((timedOut3 st).blocks.lane 1).timer = some ⟨200, 200⟩ ∧ ((timedOut3 st).blocks.lane 1).tx = none ∧
    ((timedOut3 st).blocks.lane 1).memReq = none ∧ ((timedOut3 st).blocks.lane 1).abortPhase = .awaiting ∧
    (timedOut3 st).blocks.laneOf 3 = 1 := by
  cases st <;> exact ⟨by decide, rfl, by decide, by decide, by decide, by decide, by decide⟩

/-- Lane 1 in L_IDLE with a part of a BREAK run out. -/
def breakDue (p : BreakPhase) : State := onLane 1 (fun l => { l with brk := some ⟨p, 0⟩ }) (lane1 .idle State.reset)

theorem test_witness_break : ((breakDue .space).blocks.lane 1).brk = some ⟨.space, 0⟩ ∧
    ((breakDue .space).blocks.lane 1).state ≠ .disabled ∧ ((breakDue .recovery).blocks.lane 1).brk = some ⟨.recovery, 0⟩ ∧
    ((breakDue .recovery).blocks.lane 1).state = .idle ∧ ((breakDue .recovery).blocks.lane 1).atn = false ∧
    ((breakDue .recovery).blocks.lane 1).readyQ = [] ∧ ((breakDue .recovery).blocks.lane 1).haltList = [] := by decide

/-! ### Witnesses: the lane wire -/

/-- Lane 1 in L_IDLE, its poll run at its highest value that still polls. -/
def idle1 : State := onLane 1 (fun l => { l with pollRun := 3 }) (lane1 .idle State.reset)

/-- Lane 1 in L_TRANSFER with the attention line asserted. -/
def asserted1 : State := onLane 1 (fun l => { l with atn := true }) (lane1 .transfer State.reset)

/-- Lane 1 in `st` with the attention line asserted, LINE_STUCK set and slots waiting. -/
def stuck1 (st : LaneState) (halts readies : List Slot) : State :=
  onLane 1 (fun l => { l with atn := true, lineStuck := true, emptyPolls := 2, haltList := halts, readyQ := readies })
    (lane1 st State.reset)

theorem test_witness_attention : (idle1.blocks.lane 1).state = .idle ∧ (idle1.blocks.lane 1).brk = none ∧
    (idle1.blocks.lane 1).atn = false ∧ (idle1.blocks.lane 1).lineStuck = false ∧ (idle1.blocks.lane 1).pollRun < 4 ∧
    (State.reset.blocks.lane 1).state = .disabled ∧ (asserted1.blocks.lane 1).state = .transfer ∧
    (asserted1.blocks.lane 1).atn = true := by decide
theorem test_witness_deassertion : ((stuck1 .fault [] []).blocks.lane 1).state = .fault ∧
    ((stuck1 .fault [] []).blocks.lane 1).atn = true ∧ ((stuck1 .idle [3] [5]).blocks.lane 1).state = .idle ∧
    ((stuck1 .idle [3] [5]).blocks.lane 1).brk = none ∧ ((stuck1 .idle [3] [5]).blocks.lane 1).lineStuck = true ∧
    ((stuck1 .idle [3] [5]).blocks.lane 1).haltList = [3] ∧ ((stuck1 .idle [] [5]).blocks.lane 1).haltList = [] ∧
    ((stuck1 .idle [] [5]).blocks.lane 1).readyQ = [5] ∧ ((stuck1 .idle [] []).blocks.lane 1).readyQ = [] := by decide
theorem test_witness_malformed : receiving (hearing (lane1 .polling State.reset)) 1 ∧
    ((hearing (lane1 .polling State.reset)).blocks.lane 1).state = .polling ∧
    ((hearing (lane1 .polling State.reset)).blocks.lane 1).txQueue = [] ∧
    receiving (hearing (lane1 .commanding State.reset)) 1 ∧
    ((hearing (lane1 .commanding State.reset)).blocks.lane 1).state = .commanding ∧
    ((onLane 1 (fun l => { l with txQueue := [.poll] }) (hearing (lane1 .polling State.reset))).blocks.lane 1).txQueue =
      .poll :: [] ∧
    ((onLane 1 (fun l => { l with txQueue := [.poll] }) (hearing (lane1 .polling State.reset))).blocks.lane 1).tx = none :=
  ⟨rfl, by decide, by decide, rfl, by decide, by decide, by decide⟩
theorem test_witness_receiver : (idle1.blocks.lane 1).rx = .listening ∧ (idle1.blocks.lane 1).state ≠ .disabled ∧
    (idle1.blocks.lane 1).tx = none ∧
    ((onLane 1 (fun l => { l with rx := .lostFooting }) idle1).blocks.lane 1).rx = .lostFooting := by decide

/-- Lane 1 in `st` with `f` on the wire. -/
def sending (st : LaneState) (f : PartFrame) : State := onLane 1 (fun l => { l with tx := some ⟨f, 2⟩ }) (lane1 st State.reset)

theorem test_witness_sent (st : LaneState) (f : PartFrame) : ((sending st f).blocks.lane 1).tx = some ⟨f, 2⟩ ∧
    ((sending st f).blocks.lane 1).txQueue = [] ∧ ((sending st f).blocks.lane 1).state = st ∧
    ((sending st f).blocks.lane 1).abortPhase = .awaiting := by cases st <;> exact ⟨rfl, rfl, rfl, rfl⟩

theorem test_witness_disregards : ((sending .idle .poll).blocks.lane 1).tx ≠ none ∧
    (State.reset.blocks.lane 1).state = .disabled ∧ ((breakDue .space).blocks.lane 1).brk ≠ none := by decide

/-- The last bytes of an OUT descriptor on the wire, with two DOUTs owed. -/
def lastDout : State :=
  onLane 1 (fun l => { l with tx := some ⟨.dout 9 false [1, 2], 2⟩, doutOwed := 2 })
    (serve3 .transfer (plainDesc .outbound 2) State.reset)

theorem test_witness_last_dout : (lastDout.blocks.lane 1).tx = some ⟨.dout 9 (lastDout.blocks.lane 1).outToggle [1, 2], 2⟩ ∧
    (lastDout.blocks.lane 1).txQueue = [] ∧ (lastDout.blocks.lane 1).state = .transfer ∧ serving lastDout 1 3 ∧
    (lastDout.blocks.lane 1).desc = some (plainDesc .outbound 2) ∧ (lastDout.blocks.lane 1).haltNotice = false ∧
    (lastDout.blocks.lane 1).residual = [1, 2].length ∧ 2 ≤ (lastDout.blocks.lane 1).doutOwed :=
  ⟨by decide, by decide, by decide, rfl, by decide, by decide, by decide, by decide⟩

/-! ### Witnesses: frames taken -/

/-- Lane 1 receives in L_POLLING, slot 3's context in `st`. -/
def polled (st : CtxState) : State := hearing (lane1 .polling (bound3 st State.reset))

theorem test_witness_attn : receiving (polled .idle) 1 ∧ ((polled .idle).blocks.lane 1).state = .polling ∧
    ((polled .idle).blocks.lane 1).tx = none ∧ (0x1F : Byte) &&& 0xE0 = 0 ∧ (polled .idle).blocks.lookup 1 8 = none ∧
    (polled .idle).blocks.lookup 1 9 = some 3 ∧ ((polled .idle).blocks.ctx 3).state = .idle :=
  ⟨rfl, by decide, by decide, by decide, by decide, by decide, by decide⟩

/-- Slot 3's context DETACHED awaiting RESUME. -/
def awaitingResume : State := onCtx 3 (fun c => { c with awaiting := some .resume }) (polled .detached)

theorem test_witness_reconnect : receiving awaitingResume 1 ∧ (awaitingResume.blocks.lane 1).state = .polling ∧
    (awaitingResume.blocks.lane 1).tx = none ∧ awaitingResume.blocks.lookup 1 9 = some 3 ∧
    awaitingResume.blocks.unitOf 3 = 9 ∧ (awaitingResume.blocks.ctx 3).state = .detached ∧
    (awaitingResume.blocks.ctx 3).awaiting = some .resume :=
  ⟨rfl, by decide, by decide, by decide, by decide, by decide, by decide⟩

/-- Lane 1 selects slot 3, `k` attempts begun, the start window at its limit. -/
def selecting3 (k : Nat) : State :=
  hearing (onLane 1 (fun l => { l with state := .selecting, served := some ⟨3, .readySelection⟩, attempts := k })
    (onBlk (fun b => { b with window := { b.window with ledger := List.replicate 4 ⟨0, 0⟩ } }) (bound3 .ready State.reset)))

theorem test_witness_echo : receiving (selecting3 1) 1 ∧ ((selecting3 1).blocks.lane 1).state = .selecting ∧
    ((selecting3 1).blocks.lane 1).served = some ⟨3, .readySelection⟩ ∧
    (selecting3 1).blocks.window.startLimit ≤ (selecting3 1).blocks.window.youngCount ∧
    ((selecting3 1).blocks.ctx 3).state = .ready :=
  ⟨rfl, by decide, by decide, by decide, by decide⟩
/-- Lane 1 selects slot 3, which holds a descriptor; the start window is empty, and `cs` wait with a HALT of unit 9 at the head of
the request FIFO. -/
def echoDue (cs : List Instr) : State :=
  { asking (on9 4) (onCtx 3 (fun c => { c with desc := some (plainDesc .noData 0) })
      (onBlk (fun b => { b with window := Window.reset }) (selecting3 1))) with pending := cs }

theorem test_witness_echo_with_room (cs : List Instr) : receiving (echoDue cs) 1 ∧
    ((echoDue cs).blocks.lane 1).state = .selecting ∧
    ((echoDue cs).blocks.lane 1).served = some ⟨3, .readySelection⟩ ∧ ((echoDue cs).blocks.ctx 3).state = .ready ∧
    ((echoDue cs).blocks.ctx 3).desc = some (plainDesc .noData 0) ∧ (echoDue cs).blocks.window.permits = [] ∧
    (echoDue cs).blocks.window.asked = false ∧ (echoDue cs).blocks.window.youngCount = 0 ∧
    (echoDue cs).blocks.window.startLimit = 4 ∧ (echoDue cs).blocks.window.ledger.length = 0 :=
  ⟨rfl, rfl, rfl, rfl, rfl, rfl, rfl, rfl, rfl, rfl⟩
theorem test_witness_withdrawal_next : withdrawalNext (echoDue [.haltUnit]) 1 :=
  ⟨.haltUnit, [], rfl, Or.inl ⟨Or.inl rfl, on9 4, [], rfl, rfl⟩⟩

/-- R131: the lane is granted in the event of its ECHO, also where a command that waits is no withdrawal of it. -/
theorem test_echo_is_granted : ((after (.frameEcho 1 9) (echoDue [])).blocks.lane 1).state = .commanding ∧
    ((after (.frameEcho 1 9) (echoDue [.frameSent 1])).blocks.lane 1).state = .commanding := by decide +kernel

/-- R131, R132, log 38: a HALT that waits may be taken between asking and grant. It then ends the context with DESEL, and no
record joins the ledger. -/
theorem test_halt_between_asking_and_grant (h : Config.grantWaits 0 = true) :
    ((after (.frameEcho 1 9) (echoDue [.haltUnit])).blocks.lane 1).state = .permitWait ∧
      ((after .haltUnit (after (.frameEcho 1 9) (echoDue [.haltUnit]))).blocks.ctx 3).state = .reported ∧
      (after .haltUnit (after (.frameEcho 1 9) (echoDue [.haltUnit]))).blocks.window = Window.reset := by
  have hc : ((echoDue [.haltUnit]).blocks.takeFrame 1 true false fun b => b.echoFrame 1 9).choice = 0 := by decide +kernel
  have e : after (.frameEcho 1 9) (echoDue [.haltUnit]) =
      (echoDue [.haltUnit]).onBlocks fun b =>
        let c := b.takeFrame 1 true false fun b => b.echoFrame 1 9
        { c with choice := c.choice + 1 } :=
    State.onBlocksAsking_of_waits _ _ rfl (by decide +kernel) (by decide +kernel) (by rw [hc]; exact h)
  rw [e]
  decide +kernel
theorem test_witness_echo_mismatch : (8 : UnitAddr) ≠ (selecting3 2).blocks.unitOf 3 ∧
    ((selecting3 2).blocks.lane 1).attempts < 1 + (selecting3 2).blocks.retriesOf 3 ∧
    1 + (selecting3 3).blocks.retriesOf 3 ≤ ((selecting3 3).blocks.lane 1).attempts := by decide

/-- The timer of a selection of slot 3 of kind `kind` has reached its limit, `k` attempts begun, slot 3 halting for `c`. -/
def selectionOut (kind : ServiceKind) (k : Nat) (c : HaltCause) : State :=
  onCtx 3 (fun x => { x with state := if kind = .haltSelection then .halting else .ready, haltCause := some c })
    (onLane 1 (fun l => { l with served := some ⟨3, kind⟩ }) (expired (selecting3 k)))

theorem test_witness_selection_timeout (kind : ServiceKind) (k : Nat) (c : HaltCause) :
    ((selectionOut kind k c).blocks.lane 1).state = .selecting ∧
      ((selectionOut kind k c).blocks.lane 1).served = some ⟨3, kind⟩ ∧
      ((selectionOut kind k c).blocks.lane 1).timer = some ⟨200, 200⟩ ∧
      ((selectionOut kind k c).blocks.lane 1).attempts = k ∧ (selectionOut kind k c).blocks.retriesOf 3 = 2 ∧
      ((selectionOut kind k c).blocks.ctx 3).state ≠ .free ∧ (selectionOut kind k c).blocks.laneOf 3 = 1 ∧
      ((selectionOut kind k c).blocks.ctx 3).haltCause = some c :=
  ⟨rfl, rfl, rfl, rfl, rfl, by cases kind <;> exact fun h => (by cases h), rfl, rfl⟩

/-- HALT of slot 3's READY context while lane 1 selects it. -/
def haltingSelected : State := asking (on9 4) (selecting3 1)

theorem test_witness_halt_of_a_selected : taken haltingSelected (on9 4) [] .haltUnit ∧
    haltingSelected.blocks.lookup (on9 4).lane (on9 4).unit = some 3 ∧ (haltingSelected.blocks.ctx 3).state = .ready ∧
    haltingSelected.blocks.laneOf 3 = (on9 4).lane ∧
    (haltingSelected.blocks.lane (on9 4).lane).served = some ⟨3, .readySelection⟩ ∧
    (haltingSelected.blocks.lane (on9 4).lane).selOwed = false :=
  ⟨⟨⟨rfl, by decide, rfl, by decide⟩, by decide⟩, by decide, by decide, by decide, by decide, by decide⟩

/-- The attempt that HALT left lost. -/
def lostSelection : State := onLane 1 (fun l => { l with served := none, lostAttempt := some 9 }) (expired (selecting3 1))

theorem test_witness_lost_attempt : receiving lostSelection 1 ∧ (lostSelection.blocks.lane 1).state = .selecting ∧
    (lostSelection.blocks.lane 1).served = none ∧ (lostSelection.blocks.lane 1).timer = some ⟨200, 200⟩ ∧
    (lostSelection.blocks.lane 1).atn = false ∧ (lostSelection.blocks.lane 1).readyQ = [] ∧
    (lostSelection.blocks.lane 1).haltList = [] := ⟨rfl, rfl, rfl, rfl, rfl, rfl, rfl⟩

/-- Slot 3's context in `st` awaiting `w`, its lane in L_POLLING, the start window at its limit. -/
def reconnecting (st : CtxState) (w : Option Awaiting) : State :=
  onBlk (fun b => { b with window := { b.window with ledger := List.replicate 4 ⟨0, 0⟩ } })
    (onCtx 3 (fun c => { c with awaiting := w }) (polled st))

theorem test_witness_attn_rows (st : CtxState) (w : Option Awaiting) : receiving (reconnecting st w) 1 ∧
    ((reconnecting st w).blocks.lane 1).state = .polling ∧ (reconnecting st w).blocks.lookup 1 9 = some 3 ∧
    (reconnecting st w).blocks.unitOf 3 = 9 ∧ ((reconnecting st w).blocks.ctx 3).state = st ∧
    ((reconnecting st w).blocks.ctx 3).awaiting = w ∧ (reconnecting st w).blocks.window.startLimit = 4 ∧
    (reconnecting st w).blocks.window.youngCount = 4 := ⟨rfl, rfl, rfl, rfl, rfl, rfl, rfl, rfl⟩

/-- Lane 1 receives while it serves slot 3 in `st` with the live descriptor `d`. -/
def hearing3 (st : LaneState) (d : Descriptor) : State := hearing (serve3 st d State.reset)

theorem test_witness_acceptance : receiving (hearing3 .commanding (plainDesc .outbound 8)) 1 ∧
    ((hearing3 .commanding (plainDesc .outbound 8)).blocks.lane 1).state = .commanding ∧
    serving (hearing3 .commanding (plainDesc .outbound 8)) 1 3 ∧
    ((hearing3 .commanding (plainDesc .outbound 8)).blocks.ctx 3).state = .connected ∧
    ((hearing3 .commanding (plainDesc .outbound 8)).blocks.lane 1).haltNotice = false ∧
    ((hearing3 .commanding (plainDesc .outbound 8)).blocks.lane 1).tx = none ∧
    ((hearing3 .commanding (plainDesc .outbound 8)).blocks.lane 1).desc = some (plainDesc .outbound 8) ∧
    ((hearing3 .commanding (plainDesc .outbound 8)).blocks.lane 1).memReq = none ∧
    ((hearing3 .commanding (plainDesc .outbound 8)).blocks.lane 1).staging = .empty ∧
    ((hearing3 .commanding (plainDesc .outbound 8)).blocks.lane 1).stagingAddr = (plainDesc .outbound 8).addr ∧
    ((hearing3 .commanding (plainDesc .outbound 8)).blocks.lane 1).doutOwed = 0 :=
  ⟨rfl, by decide, rfl, by decide, by decide, by decide, by decide, by decide, by decide, by decide, by decide⟩
theorem test_witness_acceptance_status : (0x04 : Byte).getLsbD 2 = true ∧ (0x04 : Byte).getLsbD 0 = false ∧
    (0x04 : Byte).getLsbD 1 = false ∧ (0x1F : Byte).getLsbD 0 = true ∧ (0x1F : Byte) &&& 0xE0 = 0 ∧
    (0x18 : Byte).getLsbD 2 = false := by decide

/-- Lane 1 in L_TRANSFER of an OUT command with one byte staged. -/
def staged3 : State := onLane 1 (fun l => { l with staging := { l.staging with h0 := [0x55] } }) (hearing3 .transfer (plainDesc .outbound 1))

theorem test_witness_need : receiving staged3 1 ∧ (staged3.blocks.lane 1).state = .transfer ∧ serving staged3 1 3 ∧
    (staged3.blocks.lane 1).desc = some (plainDesc .outbound 1) ∧ (staged3.blocks.lane 1).haltNotice = false ∧
    outgoing staged3 1 = [] ∧ (staged3.blocks.lane 1).doutOwed = 0 ∧ (staged3.blocks.lane 1).residual ≠ 0 ∧
    (staged3.blocks.lane 1).staging.get (staged3.blocks.lane 1).staging.drain ≠ [] ∧ 1 ≤ 8 :=
  ⟨rfl, by decide, rfl, by decide, by decide, by decide, by decide, by decide, by decide, by decide⟩
theorem test_witness_need_beyond : receiving (hearing3 .transfer (plainDesc .noData 0)) 1 ∧
    ((hearing3 .transfer (plainDesc .noData 0)).blocks.lane 1).state = .transfer ∧
    serving (hearing3 .transfer (plainDesc .noData 0)) 1 3 ∧
    ((hearing3 .transfer (plainDesc .noData 0)).blocks.lane 1).desc = some (plainDesc .noData 0) ∧
    ((hearing3 .transfer (plainDesc .noData 0)).blocks.lane 1).haltNotice = false ∧
    ((hearing3 .transfer (plainDesc .noData 0)).blocks.lane 1).tx = none :=
  ⟨rfl, by decide, rfl, by decide, by decide, by decide⟩

theorem test_witness_need_in_ending : receiving (hearing3 .ending (plainDesc .outbound 0)) 1 ∧
    ((hearing3 .ending (plainDesc .outbound 0)).blocks.lane 1).state = .ending ∧
    ((hearing3 .ending (plainDesc .outbound 0)).blocks.lane 1).closing = none ∧
    serving (hearing3 .ending (plainDesc .outbound 0)) 1 3 ∧
    ((hearing3 .ending (plainDesc .outbound 0)).blocks.lane 1).haltNotice = false ∧ 1 ≤ 1 ∧ 8 ≤ 8 :=
  ⟨rfl, by decide, by decide, rfl, by decide, by decide, by decide⟩

/-- Lane 1 in L_TRANSFER of an IN command with two chunks of credit. -/
def credited3 : State := onLane 1 (fun l => { l with credit := [16, 4] }) (hearing3 .transfer (plainDesc .inbound 20))

/-- As `credited3`, a DIN of one byte taken before, with a write outstanding or none. -/
def repeated3 (m : Option LaneMem) : State :=
  onLane 1 (fun l => { l with inToggle := true, lastIn := some [1], memReq := m }) credited3

/-- As `credited3`, the descriptor with DISCARD. -/
def discarding3 : State :=
  onLane 1 (fun l => { l with credit := [16, 4] })
    (hearing3 .transfer { plainDesc .inbound 20 with flags := ⟨false, false, false, false, true⟩ })

theorem test_witness_din : receiving credited3 1 ∧ (credited3.blocks.lane 1).state = .transfer ∧ serving credited3 1 3 ∧
    (credited3.blocks.lane 1).desc = some (plainDesc .inbound 20) ∧ (credited3.blocks.lane 1).haltNotice = false ∧
    (credited3.blocks.lane 1).credit = 16 :: [4] ∧ (credited3.blocks.lane 1).inToggle = false ∧
    (List.replicate 16 (0 : Byte)).length ≤ 16 ∧ 16 < (credited3.blocks.lane 1).rxResidual :=
  ⟨rfl, by decide, rfl, by decide, by decide, by decide, by decide, by decide, by decide⟩
theorem test_witness_discarding_din : receiving discarding3 1 ∧ serving discarding3 1 3 ∧
    ((discarding3.blocks.lane 1).desc.map (·.flags.discard)) = some true ∧
    (discarding3.blocks.lane 1).credit = 16 :: [4] ∧ 16 < (discarding3.blocks.lane 1).rxResidual :=
  ⟨rfl, rfl, by decide, by decide, by decide⟩
theorem test_witness_duplicate_din (m : Option LaneMem) : receiving (repeated3 m) 1 ∧
    ((repeated3 m).blocks.lane 1).state = .transfer ∧ serving (repeated3 m) 1 3 ∧
    ((repeated3 m).blocks.lane 1).desc = some (plainDesc .inbound 20) ∧
    ((repeated3 m).blocks.lane 1).haltNotice = false ∧ false ≠ ((repeated3 m).blocks.lane 1).inToggle ∧
    ((repeated3 m).blocks.lane 1).lastIn = some [1] ∧ ((repeated3 m).blocks.lane 1).memReq = m :=
  ⟨rfl, rfl, rfl, rfl, rfl, Bool.false_ne_true, rfl, rfl⟩

/-- WAIT and END: lane 1 in L_TRANSFER of an OUT command, all of it still to send, or none of it. -/
theorem test_witness_wait_and_end (count : Nat) : receiving (hearing3 .transfer (plainDesc .outbound count)) 1 ∧
    ((hearing3 .transfer (plainDesc .outbound count)).blocks.lane 1).state = .transfer ∧
    serving (hearing3 .transfer (plainDesc .outbound count)) 1 3 ∧
    ((hearing3 .transfer (plainDesc .outbound count)).blocks.lane 1).desc = some (plainDesc .outbound count) ∧
    ((hearing3 .transfer (plainDesc .outbound count)).blocks.ctx 3).state = .connected ∧
    ((hearing3 .transfer (plainDesc .outbound count)).blocks.ctx 3).binding = some ⟨1, 9, 7, 100, 2⟩ ∧
    ((hearing3 .transfer (plainDesc .outbound count)).blocks.lane 1).memReq = none ∧
    ((hearing3 .transfer (plainDesc .outbound count)).blocks.lane 1).tx = none ∧
    ((hearing3 .transfer (plainDesc .outbound count)).blocks.lane 1).lengthCond = false ∧
    ((hearing3 .transfer (plainDesc .outbound count)).blocks.lane 1).residual = count ∧
    (0x1D : Byte) &&& 0xE0 = 0 ∧ (0x1D : Byte).getLsbD 1 = false :=
  ⟨rfl, rfl, rfl, rfl, rfl, rfl, rfl, rfl, rfl, rfl, by decide, by decide⟩

/-- Lane 1 in L_ABORTING with cause LINK_ERROR. -/
def aborting3 : State := onLane 1 (fun l => { l with abortCause := some .linkError }) (hearing3 .aborting (plainDesc .outbound 8))

theorem test_witness_abort_confirmed : receiving aborting3 1 ∧ (aborting3.blocks.lane 1).state = .aborting ∧
    serving aborting3 1 3 ∧ (aborting3.blocks.lane 1).abortPhase = .awaiting ∧
    (aborting3.blocks.lane 1).abortCause = some .linkError ∧ (aborting3.blocks.lane 1).abortFault = none ∧
    (aborting3.blocks.lane 1).memReq = none ∧ (aborting3.blocks.ctx 3).state ≠ .free :=
  ⟨rfl, by decide, rfl, by decide, by decide, by decide, by decide, by decide⟩

/-! ### Witnesses: the memory port and the fetcher -/

/-- A staging read of lane 1 in flight, its first burst outstanding. -/
def reading3 : State :=
  onBlk (fun b => { b with mem := { b.mem with inflight := some readInFlight } })
    (onLane 1 (fun l => { l with memReq := some ⟨false, .h0, 32, false⟩ }) (serve3 .transfer (plainDesc .outbound 32) State.reset))

theorem test_witness_read_burst : reading3.blocks.mem.inflight = some readInFlight ∧
    readInFlight.req.kind = .dataRead .h0 ∧ readInFlight.toIssue = ⟨0x1000, 2, 8, 16⟩ :: [] ∧
    [BusResp.okay, .exokay].length = readInFlight.burst.beats ∧ (List.replicate 16 (0 : Byte)).length = readInFlight.burst.bytes ∧
    readInFlight.error = false ∧ readInFlight.discard = false ∧ (∀ p ∈ [BusResp.okay, .exokay], p = .okay ∨ p = .exokay) := by
  decide
theorem test_witness_read_error : (∃ p ∈ [BusResp.okay, .decerr], p = .slverr ∨ p = .decerr) ∧
    readInFlight.requester = .lane 1 ∧ (reading3.blocks.lane 1).memReq = some ⟨false, .h0, 32, false⟩ ∧
    (reading3.blocks.lane 1).state = .transfer := by decide

/-- A discarded read of lane 2 in flight; lanes 1 and 3 wait, the fetcher too when `f`, with the lane-grant counter at `g`. -/
def discarded (f : Option MemReq) (lanes : Vector (Option MemReq) 4) (g : Nat) : State :=
  onBlk (fun b =>
    { b with mem := ⟨f, lanes, 0, g, some { readInFlight with requester := .lane 2, toIssue := [], discard := true }⟩ })
    (onLane 2 (fun l => { l with state := .idle, memReq := some ⟨false, .h0, 16, true⟩ }) State.reset)

/-- Lanes 1 and 3 wait. -/
def twoWait : Vector (Option MemReq) 4 := ⟨#[none, some ⟨.dataWrite .h0, 0x1000, 1⟩, none, some ⟨.dataRead .h0, 0x2000, 8⟩], rfl⟩

theorem test_witness_port (f : Option MemReq) (lanes : Vector (Option MemReq) 4) (g : Nat) :
    (discarded f lanes g).blocks.mem = ⟨f, lanes, 0, g,
      some { readInFlight with requester := .lane 2, toIssue := [], discard := true }⟩ ∧
      answers { readInFlight with requester := .lane 2, toIssue := [], discard := true } [.okay, .slverr]
        (List.replicate 16 0) ∧
      ((discarded f lanes g).blocks.lane 2).state = .idle := ⟨rfl, ⟨rfl, rfl⟩, rfl⟩
theorem test_witness_port_waiting :
    (∀ j, (⟨none, Vector.replicate 4 none, 0, 0, none⟩ : MemPort).laneReq j = none) ∧
      (⟨some ⟨.descriptor, 0x3000, 16⟩, twoWait, 0, 3, none⟩ : MemPort).laneReq 1 = some ⟨.dataWrite .h0, 0x1000, 1⟩ ∧
      ∀ j, (⟨some ⟨.descriptor, 0x3000, 16⟩, twoWait, 0, 3, none⟩ : MemPort).laneReq j ≠ none →
        ((1 : LaneId) - 0).val ≤ (j - 0).val := by decide

/-- HALT of slot 3's context in L_LINK_FETCH after link-command: the fetch in progress is that of slot `k`, its read waits or
not, `q` in the fetch queue, a transaction in flight. -/
def haltingFetch (k : Slot) (q : List FetchEntry) (waiting : Option MemReq) : State :=
  onBlk (fun b =>
    { b with
      fetch := some ⟨k, .link, 0x3000, 0, false⟩, fetchQ := q
      mem := { b.mem with fetchReq := waiting, inflight := some readInFlight } })
    (halting9 .linkFetch)

theorem test_witness_halt_of_a_fetch (k : Slot) (q : List FetchEntry) (waiting : Option MemReq) :
    taken (haltingFetch k q waiting) (on9 4) [] .haltUnit ∧ (haltingFetch k q waiting).blocks.lookup 1 9 = some 3 ∧
      ((haltingFetch k q waiting).blocks.ctx 3).state = .connected ∧ (haltingFetch k q waiting).blocks.laneOf 3 = 1 ∧
      serving (haltingFetch k q waiting) 1 3 ∧ ((haltingFetch k q waiting).blocks.lane 1).state = .linkFetch ∧
      ((haltingFetch k q waiting).blocks.lane 1).desc = some (plainDesc .outbound 8) ∧
      (haltingFetch k q waiting).blocks.fetch = some ⟨k, .link, 0x3000, 0, false⟩ ∧
      (haltingFetch k q waiting).blocks.fetchQ = q ∧ (haltingFetch k q waiting).blocks.mem.fetchReq = waiting ∧
      (haltingFetch k q waiting).blocks.mem.inflight ≠ none :=
  ⟨⟨⟨rfl, Nat.zero_lt_succ 7, rfl, by decide⟩, by decide⟩, rfl, rfl, rfl, rfl, rfl, rfl, rfl, rfl, rfl,
    fun h => (by cases h)⟩

/-- R73: a LINK entry still queued leaves the queue, and the fetch of another slot goes on. -/
theorem test_queued_link_entry_leaves :
    ((after .haltUnit (haltingFetch 5 [⟨3, .link⟩, ⟨6, .start⟩] none)).blocks.fetchQ,
      (after .haltUnit (haltingFetch 5 [⟨3, .link⟩, ⟨6, .start⟩] none)).blocks.fetch.map (·.slot)) =
      ([⟨6, .start⟩], some 5) := by decide +kernel

/-- Lane 1 in L_TRANSFER, its timer expired, with a memory request that waits at the port or is in flight. -/
def timedOutWith (m : LaneMem) (waiting : Option MemReq) : State :=
  onBlk (fun b => { b with mem := b.mem.setLaneReq 1 waiting })
    (onLane 1 (fun l => { l with memReq := some m }) (timedOut3 .transfer))

theorem test_witness_withdrawal (write : Bool) (waiting : Option MemReq) :
    ((timedOutWith ⟨write, .h0, 8, false⟩ waiting).blocks.lane 1).state = .transfer ∧
      serving (timedOutWith ⟨write, .h0, 8, false⟩ waiting) 1 3 ∧
      ((timedOutWith ⟨write, .h0, 8, false⟩ waiting).blocks.lane 1).timer = some ⟨200, 200⟩ ∧
      ((timedOutWith ⟨write, .h0, 8, false⟩ waiting).blocks.lane 1).haltNotice = false ∧
      ((timedOutWith ⟨write, .h0, 8, false⟩ waiting).blocks.lane 1).memReq = some ⟨write, .h0, 8, false⟩ ∧
      (timedOutWith ⟨write, .h0, 8, false⟩ waiting).blocks.fetch = none ∧
      (timedOutWith ⟨write, .h0, 8, false⟩ waiting).blocks.mem.laneReq 1 = waiting := ⟨rfl, rfl, rfl, rfl, rfl, rfl, rfl⟩

/-- A staging write of lane 1 in flight, 16 bytes of a descriptor of `count`, linking or not. -/
def writing3 (count : Nat) (link : Bool) : State :=
  onBlk (fun b =>
    { b with mem := { b.mem with
        inflight := some ⟨.lane 1, ⟨.dataWrite .h0, 0x1000, 16⟩, [], ⟨0x1000, 2, 8, 16⟩, [], false, false⟩ } })
    (onLane 1 (fun l => { l with memReq := some ⟨true, .h0, 16, false⟩ })
      (serve3 .transfer { plainDesc .inbound count with flags := ⟨link, false, false, false, false⟩ } State.reset))

theorem test_witness_staging_write (count : Nat) (link : Bool) :
    lastBurst (writing3 count link) ⟨.lane 1, ⟨.dataWrite .h0, 0x1000, 16⟩, [], ⟨0x1000, 2, 8, 16⟩, [], false, false⟩ ∧
      answers ⟨.lane 1, ⟨.dataWrite .h0, 0x1000, 16⟩, [], ⟨0x1000, 2, 8, 16⟩, [], false, false⟩ [.okay] [] ∧
      ((writing3 count link).blocks.lane 1).memReq = some ⟨true, .h0, 16, false⟩ ∧
      ((writing3 count link).blocks.lane 1).state = .transfer ∧ serving (writing3 count link) 1 3 ∧
      ((writing3 count link).blocks.lane 1).closing = none ∧ ((writing3 count link).blocks.lane 1).residual = count ∧
      (writing3 count link).blocks.fetch = none ∧ (writing3 count link).blocks.fetchQ = [] :=
  ⟨⟨rfl, rfl, rfl, rfl⟩, ⟨rfl, rfl⟩, rfl, rfl, rfl, rfl, rfl, rfl, rfl⟩
theorem test_witness_responses_of_bursts : burstSucceeds [.okay] ∧ burstSucceeds [.okay, .exokay] ∧ burstErrs [.slverr] ∧
    burstErrs [.okay, .decerr] := by
  unfold burstSucceeds burstErrs
  decide

/-- The fetcher's read of the descriptor of slot 3. -/
def fetchInFlight : Txn := ⟨.fetcher, ⟨.descriptor, 0x3000, 16⟩, [], ⟨0x3000, 2, 8, 16⟩, [], false, false⟩

/-- The fetch of slot 3 in progress, its read outstanding. -/
def fetching3 : State :=
  onBlk (fun b =>
    { b with fetch := some ⟨3, .start, 0x3000, 0, false⟩, mem := { b.mem with inflight := some fetchInFlight } })
    (bound3 .loading State.reset)

theorem test_witness_delivery : fetching3.blocks.mem.inflight = some fetchInFlight ∧ fetchInFlight.requester = .fetcher ∧
    fetchInFlight.req.kind = .descriptor ∧ fetchInFlight.burst.beats = 2 ∧ fetchInFlight.burst.bytes = 16 ∧
    fetching3.blocks.fetch = some ⟨3, .start, 0x3000, 0, false⟩ ∧ fetching3.blocks.fetchQ = [] ∧
    readDescriptor 0x3000 [1, 1, 0x21, 0, 8, 0, 0, 0, 0, 0x10, 0, 0, 0, 0, 0, 0] =
      some (.transfer (plainDesc .outbound 8)) ∧
    (fetching3.blocks.ctx 3).state = .loading ∧ (fetching3.blocks.ctx 3).haltCause = none := by decide

/-- The bytes of a JUMP to 40h, and of the descriptor of slot 3 at 3000h in direction `d`. -/
def jumpBytes : List Byte := [2, 0, 0, 0, 0, 0, 0, 0, 0x40, 0, 0, 0, 0, 0, 0, 0]

/-- The bytes of a TRANSFER of 8 bytes at 1000h in direction `d`. -/
def transferBytes (d : Byte) : List Byte := [1, d, 0x21, 0, 8, 0, 0, 0, 0, 0x10, 0, 0, 0, 0, 0, 0]

/-- As `fetching3`, with `run` JUMPs behind it and perhaps a halt taken. -/
def fetchingAt (run : Nat) (halt : Option HaltCause) : State :=
  onBlk (fun b => { b with fetch := some ⟨3, .start, 0x3000, run, false⟩ })
    (onCtx 3 (fun c => { c with haltCause := halt }) fetching3)

theorem test_witness_jump (run : Nat) (halt : Option HaltCause) :
    descriptorRead (fetchingAt run halt) ⟨3, .start, 0x3000, run, false⟩ ∧
      (fetchingAt run halt).blocks.mem.fetchReq = none ∧ (∀ j, (fetchingAt run halt).blocks.mem.laneReq j = none) ∧
      readDescriptor 0x3000 jumpBytes = some (.jump 0x40) ∧ jumpBytes.length = 16 ∧ (0x40 : Byte).toNat % 16 = 0 ∧
      ((fetchingAt run halt).blocks.ctx 3).state = .loading ∧ ((fetchingAt run halt).blocks.ctx 3).haltCause = halt :=
  ⟨⟨rfl, rfl, rfl, rfl⟩, rfl, fun j => Vector.getElem_replicate (n := 4) j.isLt, by decide, rfl, by decide, rfl, rfl⟩

/-- Each chain fault: an error response, a bad descriptor, a fifth JUMP, a change of direction after LINK_DATA. -/
theorem test_witness_chain_faults :
    faults ⟨3, .start, 0x3000, 0, false⟩ none [.okay, .slverr] (List.replicate 16 0) .fetchError ∧
      faults ⟨3, .start, 0x3000, 0, false⟩ none [.okay, .okay] (List.replicate 16 0) .badDescriptor ∧
      faults ⟨3, .start, 0x3000, 4, false⟩ none [.okay, .okay] jumpBytes .jumpLoop ∧
      faults ⟨3, .link, 0x3000, 0, false⟩
        (some { plainDesc .inbound 8 with flags := ⟨true, false, false, false, false⟩ })
        [.okay, .okay] (transferBytes 1) .directionChange := by
  have ok : burstSucceeds [.okay, .okay] := by
    unfold burstSucceeds
    decide
  refine ⟨Or.inl ⟨?_, rfl⟩, Or.inr (Or.inl ⟨ok, by decide, rfl⟩),
    Or.inr (Or.inr (Or.inl ⟨ok, ⟨0x40, by decide⟩, rfl, rfl⟩)),
    Or.inr (Or.inr (Or.inr ⟨ok, rfl, rfl, _, plainDesc .outbound 8, by decide, rfl, rfl, by decide⟩))⟩
  unfold burstErrs
  decide

/-- TABLE 19 at its bounds: the highest address a range may end at, link flags short of the highest descriptor address, DISCARD
of IN. -/
theorem test_witness_transfer_bytes : validTransfer 0x3000 2 0x1D 0xFFFF (2 ^ 48 - 0xFFFF) ∧
    validTransfer (BitVec.ofNat 48 (2 ^ 48 - 32)) 1 1 1 0 ∧ validTransfer (BitVec.ofNat 48 (2 ^ 48 - 16)) 0 0 0 0 ∧
    le6 0 0x10 0 0 0 0 = 0x1000 := by
  unfold validTransfer
  exact ⟨by decide, by decide, by decide, rfl⟩

/-- One step past each bound. -/
theorem test_witness_bad_transfer_bytes : ¬validTransfer 0x3000 1 0 0xFFFF (2 ^ 48 - 0xFFFE) ∧
    ¬validTransfer (BitVec.ofNat 48 (2 ^ 48 - 16)) 1 1 1 0 ∧ ¬validTransfer 0 3 0 1 0 ∧ ¬validTransfer 0 1 0x20 1 0 ∧
    ¬validTransfer 0 0 0 1 0 ∧ ¬validTransfer 0 1 0 0 0 ∧ ¬validTransfer 0 1 3 1 0 ∧ ¬validTransfer 0 1 0x10 1 0 := by
  unfold validTransfer
  exact ⟨by decide, by decide, by decide, by decide, by decide, by decide, by decide, by decide⟩

/-- A descriptor that links. -/
def linkDesc (data : Bool) (dir : Direction) : Descriptor :=
  { plainDesc dir 8 with flags := ⟨data, !data, false, false, false⟩ }

/-- Lane 1 in L_LINK_FETCH after `d`, the fetch of slot 3 with its read outstanding. -/
def linking3 (d : Descriptor) (closing : Option Closing) : State :=
  onBlk (fun b =>
    { b with
      fetch := some ⟨3, .link, 0x3000, 0, false⟩, mem := { b.mem with inflight := some fetchInFlight }
      window := { b.window with ledger := List.replicate 4 ⟨0, 0⟩ } })
    (onCtx 3 (fun c => { c with desc := some d })
      (onLane 1 (fun l => { l with closing := closing }) (serve3 .linkFetch d State.reset)))

theorem test_witness_link (d : Descriptor) (closing : Option Closing) :
    linking (linking3 d closing) 1 3 ⟨3, .link, 0x3000, 0, false⟩ d ∧
      ((linking3 d closing).blocks.lane 1).closing = closing ∧ ((linking3 d closing).blocks.lane 1).staging = .empty ∧
      ((linking3 d closing).blocks.lane 1).memReq = none ∧ ((linking3 d closing).blocks.lane 1).credit = [] ∧
      ((linking3 d closing).blocks.lane 1).tx = none ∧ ((linking3 d closing).blocks.lane 1).rx.isAssembling = false ∧
      ((linking3 d closing).blocks.lane 1).haltNotice = false :=
  ⟨⟨⟨rfl, rfl, rfl, rfl⟩, rfl, rfl, rfl, rfl, rfl, rfl, rfl, rfl⟩, rfl, rfl, rfl, rfl, rfl, rfl, rfl⟩
theorem test_witness_link_delivery :
    readDescriptor 0x3000 (transferBytes 1) = some (.transfer (plainDesc .outbound 8)) ∧
      readDescriptor 0x3000 (transferBytes 2) = some (.transfer (plainDesc .inbound 8)) ∧
      (linkDesc true .outbound).flags.linkData = true ∧ (linkDesc true .inbound).dir = .inbound ∧
      (linkDesc false .outbound).flags.linkData = false ∧
      (linking3 (linkDesc false .outbound) none).blocks.window.startLimit ≤
        (linking3 (linkDesc false .outbound) none).blocks.window.youngCount := by decide

/-! ### Witnesses: frames out of place and the halt notice -/

theorem test_witness_stray_frames (st : LaneState) : receiving (hearing (lane1 st State.reset)) 1 ∧
    ((hearing (lane1 st State.reset)).blocks.lane 1).state = st ∧ strayIn .idle (.attn 0 .free 0) ∧
    strayIn .fault (.endFrame 31 0x1F) ∧ strayIn .polling (.need 9 8) ∧ strayIn .selecting (.endFrame 9 0) ∧
    (UnitFrame.need 9 8).wf = true :=
  ⟨rfl, rfl, trivial, trivial, fun _ _ _ h => (by cases h), fun _ h => (by cases h), by decide⟩

/-- Lane 1 receives while it serves slot 3, changed by `f`. -/
def hearingWith (st : LaneState) (d : Descriptor) (f : Lane → Lane) : State := onLane 1 f (hearing3 st d)

theorem test_witness_discarded_frames : receiving (hearing3 .aborting (plainDesc .outbound 8)) 1 ∧
    serving (hearing3 .aborting (plainDesc .outbound 8)) 1 3 ∧
    (∀ status, UnitFrame.wait 9 = .endFrame 9 status →
      ((hearing3 .aborting (plainDesc .outbound 8)).blocks.lane 1).abortPhase ≠ .awaiting) ∧
    ((hearingWith .aborting (plainDesc .outbound 8) fun l => { l with abortPhase := .confirmed }).blocks.lane 1).abortPhase ≠
      .awaiting := ⟨rfl, rfl, fun _ h => (by cases h), fun h => (by cases h)⟩

/-- From another address; of no kind for the state; an END in L_COMMANDING; a duplicate DIN in L_ENDING awaiting END and
closing; a NEED with DOUT owed; a DIN beyond the credit. -/
theorem test_witness_link_errors (st : LaneState) (d : Descriptor) (f : Lane → Lane) :
    receiving (hearing3 st d) 1 ∧ serving (hearing3 st d) 1 3 ∧ ((hearing3 st d).blocks.lane 1).state = st ∧
      ((hearing3 st d).blocks.lane 1).desc = some d ∧ ((hearing3 st d).blocks.lane 1).memReq = none ∧
      frameAddr (.wait 8) ≠ (hearing3 st d).blocks.unitOf 3 ∧ ¬expected Lane.reset d (.echo 9) ∧
      ¬expected { Lane.reset with state := .commanding } d (.endFrame 9 0) ∧
      ¬expected { Lane.reset with state := .ending, lastIn := some [1] } d (.din 9 true [1]) ∧
      ¬expected { Lane.reset with state := .ending, closing := some .detach } d (.endFrame 9 0) ∧
      ¬expected { Lane.reset with state := .transfer, doutOwed := 1 } (plainDesc .outbound 8) (.need 9 1) ∧
      ¬expected { Lane.reset with state := .transfer, credit := [3] } (plainDesc .inbound 8) (.din 9 false [1, 2, 3, 4]) ∧
      receiving (hearingWith st d fun l => { f l with rx := .assembling 2 }) 1 := by
  refine ⟨rfl, rfl, rfl, rfl, rfl, ?_, ?_, ?_, ?_, ?_, ?_, ?_, rfl⟩
  · change (8 : UnitAddr) ≠ 9
    decide
  all_goals simp [expected, plainDesc, Lane.reset]

theorem test_witness_malformed_in_a_connection (d : Descriptor) : receiving (hearing3 .transfer d) 1 ∧
    ((hearing3 .linkFetch d).blocks.lane 1).haltNotice = false ∧ ((hearing3 .ending d).blocks.lane 1).closing = none ∧
    ((hearing3 .aborting d).blocks.lane 1).abortPhase = .awaiting ∧
    ((hearingWith .ending d fun l => { l with closing := some .detach, memReq := some ⟨true, .h0, 8, false⟩ }).blocks.lane
      1).memReq ≠ none := ⟨rfl, rfl, rfl, rfl, fun h => (by cases h)⟩

/-- As `hearingWith`, the halt notice set and slot 3's halt REQUESTED. -/
def noticed (st : LaneState) (d : Descriptor) (f : Lane → Lane) : State :=
  onCtx 3 (fun c => { c with state := .halting, haltCause := some .requested })
    (hearingWith st d fun l => { f l with haltNotice := true, served := some ⟨3, .connection⟩ })

theorem test_witness_halt_notice (st : LaneState) (d : Descriptor) (f : Lane → Lane) : haltNoticed (noticed st d f) 1 3 :=
  ⟨rfl, rfl, rfl, rfl, rfl⟩
theorem test_witness_noticed (st : LaneState) (d : Descriptor) : receiving (noticed st d id) 1 ∧
    ((noticed st d id).blocks.lane 1).state = st ∧ ((noticed st d id).blocks.lane 1).desc = some d ∧
    ((noticed st d id).blocks.lane 1).memReq = none ∧ ((noticed st d id).blocks.lane 1).lengthCond = false ∧
    ((noticed st d id).blocks.lane 1).closing = none ∧ (linkDesc false .outbound).flags = ⟨false, true, false, false, false⟩ :=
  ⟨rfl, rfl, rfl, rfl, rfl, rfl, by decide⟩
theorem test_witness_noticed_statuses : (0x18 : Byte) &&& 7 = 0 ∧ (0x1C : Byte) &&& 7 = 4 ∧ (0x1F : Byte) &&& 0xE0 = 0 ∧
    (0x1F : Byte).getLsbD 0 = true ∧ (0x02 : Byte).getLsbD 1 = true := by decide
theorem test_witness_noticed_need : expected { Lane.reset with state := .transfer } (plainDesc .outbound 8) (.need 9 1) ∧
    expected { Lane.reset with state := .transfer } (plainDesc .inbound 8) (.need 9 8) ∧
    expected { Lane.reset with state := .linkFetch } (linkDesc true .outbound) (.need 9 8) ∧
    expected { Lane.reset with state := .ending } (plainDesc .noData 0) (.need 9 8) := by
  simp [expected, plainDesc, linkDesc, Lane.reset]

/-- The halt notice in L_TRANSFER of an IN command, a DIN taken before and one chunk of credit left. -/
def noticedIn : State :=
  noticed .transfer (plainDesc .inbound 20) fun l =>
    { l with credit := [4], lastIn := some [1, 2, 3, 4], timer := some ⟨0, 200⟩ }

theorem test_witness_noticed_din : (noticedIn.blocks.lane 1).state = .transfer ∧ receiving noticedIn 1 ∧
    (noticedIn.blocks.lane 1).credit = 4 :: [] ∧ (noticedIn.blocks.lane 1).lastIn = some [1, 2, 3, 4] ∧
    (noticedIn.blocks.lane 1).timer ≠ none := ⟨rfl, rfl, rfl, rfl, fun h => (by cases h)⟩
theorem test_witness_noticed_timeout (st : LaneState) (d : Descriptor) :
    ((noticed st d fun l => { l with timer := some ⟨200, 200⟩ }).blocks.lane 1).timer = some ⟨200, 200⟩ ∧
      ((noticed st d fun l => { l with timer := some ⟨200, 200⟩ }).blocks.lane 1).state = st := ⟨rfl, rfl⟩

/-- The halt notice with a DOUT on the wire. -/
def noticedDout (count : Nat) : State :=
  noticed .transfer (plainDesc .outbound count) fun l => { l with tx := some ⟨.dout 9 l.outToggle [1, 2], 2⟩ }

theorem test_witness_noticed_dout (count : Nat) : haltNoticed (noticedDout count) 1 3 ∧
    ((noticedDout count).blocks.lane 1).tx = some ⟨.dout 9 ((noticedDout count).blocks.lane 1).outToggle [1, 2], 2⟩ ∧
    ((noticedDout count).blocks.lane 1).txQueue = [] ∧ ((noticedDout count).blocks.lane 1).residual = count :=
  ⟨⟨rfl, rfl, rfl, rfl, rfl⟩, rfl, rfl, rfl⟩

/-- The halt notice while the lane closes with `cl` behind a staging read whose data is dropped. -/
def noticedClosing (cl : Closing) : State :=
  onBlk (fun b => { b with mem := { b.mem with inflight := some { readInFlight with toIssue := [] } } })
    (noticed .ending (plainDesc .outbound 8) fun l =>
      { l with closing := some cl, memReq := some ⟨false, .h0, 8, true⟩ })

theorem test_witness_noticed_closing (cl : Closing) : lastBurst (noticedClosing cl) { readInFlight with toIssue := [] } ∧
    answers { readInFlight with toIssue := [] } [.okay, .exokay] (List.replicate 16 0) ∧
    haltNoticed (noticedClosing cl) 1 3 ∧ ((noticedClosing cl).blocks.lane 1).state = .ending ∧
    ((noticedClosing cl).blocks.lane 1).desc = some (plainDesc .outbound 8) ∧
    ((noticedClosing cl).blocks.lane 1).memReq = some ⟨false, .h0, 8, true⟩ ∧
    ((noticedClosing cl).blocks.lane 1).staging.held = 0 ∧ ((noticedClosing cl).blocks.lane 1).closing = some cl :=
  ⟨⟨rfl, rfl, rfl, rfl⟩, ⟨rfl, rfl⟩, ⟨rfl, rfl, rfl, rfl, rfl⟩, rfl, rfl, rfl, rfl, rfl⟩

/-! ### Witnesses: notes and reports -/

/-- The last bytes of an OUT descriptor with NOTE on the wire, `old` the pending note before. -/
def noting (old : Option PendingNote) : State :=
  onCtx 3 (fun c => { c with note := old })
    (onLane 1 (fun l => { l with tx := some ⟨.dout 9 false [1, 2], 2⟩, doutOwed := 1 })
      (serve3 .transfer { plainDesc .outbound 2 with flags := ⟨false, false, true, false, false⟩ } State.reset))

theorem test_witness_note (old : Option PendingNote) :
    ((noting old).blocks.lane 1).tx = some ⟨.dout 9 ((noting old).blocks.lane 1).outToggle [1, 2], 2⟩ ∧
      ((noting old).blocks.lane 1).state = .transfer ∧ serving (noting old) 1 3 ∧
      ((noting old).blocks.lane 1).desc.map (·.flags) = some ⟨false, false, true, false, false⟩ ∧
      ((noting old).blocks.lane 1).notePosted = false ∧ ((noting old).blocks.lane 1).haltNotice = false ∧
      ((noting old).blocks.lane 1).heldNeed = none ∧ ((noting old).blocks.lane 1).residual = [1, 2].length ∧
      ((noting old).blocks.lane 1).doutOwed = 1 ∧ ((noting old).blocks.ctx 3).state = .connected ∧
      ((noting old).blocks.ctx 3).note = old := ⟨rfl, rfl, rfl, rfl, rfl, rfl, rfl, rfl, rfl, rfl, rfl⟩

/-- The note count holds at 255, and the queue takes no second entry. -/
theorem test_note_merges : ((after (.frameSent 1) (noting (some ⟨255, 0⟩))).blocks.ctx 3).note = some ⟨255, 0⟩ ∧
    (after (.frameSent 1) (noting (some ⟨255, 0⟩))).blocks.reports.queue = [] := by decide +kernel

/-- An END is taken with `q` in the report queue and slot 3's pending note `note`. -/
def ending3 (q : List ReportEntry) (note : Option PendingNote) : State :=
  onBlk (fun b => { b with reports := { b.reports with queue := q } })
    (onCtx 3 (fun c => { c with note := note }) (hearing3 .transfer (plainDesc .outbound 8)))

theorem test_witness_final (q : List ReportEntry) (note : Option PendingNote) : receiving (ending3 q note) 1 ∧
    ((ending3 q note).blocks.lane 1).state = .transfer ∧ serving (ending3 q note) 1 3 ∧
    ((ending3 q note).blocks.lane 1).desc = some (plainDesc .outbound 8) ∧
    ((ending3 q note).blocks.ctx 3).state = .connected ∧ ((ending3 q note).blocks.lane 1).memReq = none ∧
    ((ending3 q note).blocks.ctx 3).note = note ∧ (ending3 q note).blocks.reports.queue = q :=
  ⟨rfl, rfl, rfl, rfl, rfl, rfl, rfl, rfl⟩
theorem test_witness_final_queues : (0x1F : Byte) &&& 0xE0 = 0 ∧
    [⟨5, .final⟩, ⟨3, .note⟩, ⟨6, .note⟩] = [⟨5, .final⟩] ++ (⟨3, .note⟩ : ReportEntry) :: [⟨6, .note⟩] ∧
    (∀ e ∈ [(⟨5, .final⟩ : ReportEntry)] ++ [⟨6, .note⟩], e.slot ≠ 3) ∧
    ∀ e ∈ [(⟨5, .final⟩ : ReportEntry)], e.slot ≠ 3 := by decide

/-- RESET_LANE keeps the places of the entries it finds and appends the others. -/
theorem test_reset_lane_queue :
    (after .resetLane (onBlk (fun b => { b with reports := { b.reports with queue := [⟨3, .note⟩, ⟨5, .final⟩] } })
      laneResetting)).blocks.reports.queue = [⟨3, .final⟩, ⟨5, .final⟩] := by decide +kernel

/-- The report queue holds `e` alone; slot 3 with a pending note at its highest count and a final report at its bounds. -/
def showing (q : List ReportEntry) : State :=
  onBlk (fun b => { b with reports := { b.reports with queue := q } })
    (onCtx 3 (fun c =>
      { c with
        note := some ⟨255, 0xFFFFFFFFFFF0⟩
        final := some ⟨3, 1, 9, 7, .laneReset, some .writeError, some 0x1F, 65535, 0x3000, 255, some 0x3010, .empty⟩ })
      (bound3 .reported State.reset))

theorem test_witness_shown (q : List ReportEntry) : (showing q).port.pstat = .ready ∧
    (showing q).blocks.reports.queue = q ∧ ((showing q).blocks.ctx 3).binding = some ⟨1, 9, 7, 100, 2⟩ ∧
    ((showing q).blocks.ctx 3).note = some ⟨255, 0xFFFFFFFFFFF0⟩ ∧ ((showing q).blocks.ctx 3).final =
      some ⟨3, 1, 9, 7, .laneReset, some .writeError, some 0x1F, 65535, 0x3000, 255, some 0x3010, .empty⟩ ∧
    255 < 256 ∧ 65535 < 65536 ∧ 1 ≤ 11 := ⟨rfl, rfl, rfl, rfl, rfl, by decide, by decide, by decide⟩

/-! ### Witnesses: ranges, the update count, frames, invariants -/

theorem test_witness_ranges : 1 ≤ 1 ∧ 1 ≤ 64 ∧ 64 ≤ 64 ∧ 7 < 8 := by decide
theorem test_witness_update_count : exec .timebaseTick State.reset = .next (after .timebaseTick State.reset) := rfl
theorem test_witness_update_count_resets : exec .pinReset State.reset = .next (after .pinReset State.reset) ∧
    writable State.reset 15 ∧ exec (.prstWrite 0 15) State.reset = .next (after (.prstWrite 0 15) State.reset) :=
  ⟨rfl, ⟨rfl, by decide⟩, rfl⟩
theorem test_witness_unit_frames : (UnitFrame.din 31 true (List.replicate 16 0xFF)).wf = true ∧
    (UnitFrame.need 0 8).wf = true ∧ (UnitFrame.attn 0 .free 0x1F).wf = true := by decide
theorem test_witness_levels : (sending .idle .poll).blocks.lane 1 ≠ Lane.reset ∧
    ((sending .idle .poll).blocks.lane 1).tx = some ⟨.poll, 2⟩ ∧ PartFrame.poll.bytes[1]? = some 0xFF ∧
    (State.reset.blocks.lane 1).tx = none ∧ ((breakDue .space).blocks.lane 1).brk = some ⟨.space, 0⟩ := by decide +kernel
theorem test_witness_invariants : State.reset.port.sound ∧ State.reset.blocks.window.sound ∧
    State.reset.blocks.halfDuplex ∧ step State.reset = .next State.reset :=
  ⟨⟨by decide, by decide, by decide, by decide⟩, ⟨by decide, by decide, by decide⟩, fun n h => absurd h (by
    have h0 : State.reset.blocks.lane n = Lane.reset := Vector.getElem_replicate (n := 4) n.isLt
    rw [h0]
    decide), rfl⟩

/-- After reset no slot has a report, a note or an entry. -/
theorem test_witness_reports_sound : State.reset.blocks.reportsSound := by
  refine ⟨List.nodup_nil, fun s => ?_⟩
  have h0 : State.reset.blocks.ctx s = Context.reset := Vector.getElem_replicate (n := 40) s.isLt
  have hq : State.reset.blocks.reports.queue = [] := rfl
  rw [h0, hq]
  simp [Context.reset]

end Sys2Proof.Tests
end

/-!
What a whole step keeps: a property that the three moves of `Kept` keep, and that OPEN, CLOSE, COLLECT,
the tick and pin reset keep, is kept by every step. The unit index (R3) and the reports (R8, R149) are two such properties.
-/
namespace Sys2Proof.Machine

/-! ### The remaining shared operations under `Kept` -/

section
variable {P : Blocks → Prop}

theorem Kept.finaliseAll (hP : Kept P) (slots : List Slot) {b : Blocks} (h : P b) : P (b.finaliseAll slots) := by
  induction slots generalizing b with
  | nil => exact h
  | cons s rest ih => exact ih (hP.endContext s _ h)

theorem Kept.laneReset (hP : Kept P) {b : Blocks} (n : LaneId) (h : P b) : P (b.laneReset n) := by
  have h1 := hP.leavePermit n (hP.finaliseAll (b.finalisedOn n) (hP.writeBack n h))
  exact hP.same h1 rfl rfl rfl rfl

/-! ### The handler's requests -/

/-- What a request on a bound unit does is kept where its action on a slot is. -/
theorem Kept.onBound {b : Blocks} (r : Request) (un : Blocks × Answer) (act : Slot → Blocks × Answer) (hu : P un.1)
    (ha : ∀ k, P (act k).1) : P (b.onBound r un act).1 := by
  unfold Blocks.onBound
  split
  · exact ha _
  · exact hu

theorem Kept.doStart (hP : Kept P) (r : Request) {b : Blocks} (h : P b) : P (Blocks.doStart r b).1 := by
  refine Kept.onBound _ _ _ h fun k => ?_
  split
  · exact h
  · rename_i hidle
    split
    · exact h
    · exact h
    · refine hP.appendStart _ (hP.modCtx _ _ h ⟨rfl, rfl, Iff.rfl, Or.inr ?_⟩)
      rw [hidle]
      exact ⟨rfl, rfl, nofun⟩
  · exact h

theorem Context.haltRequested_moved (c : Context) : c.moved c.haltRequested :=
  Context.moved_of_same _ _ rfl rfl rfl rfl

/-- A record that bears a note may become HALTING, whatever else but its note, binding and report changes. -/
theorem Context.moved_halting (c d : Context) (hc : c.state.bearsNote = true) (hd : d.state = .halting)
    (hb : d.binding = c.binding) (hn : d.note = c.note) (hf : d.final = c.final) : c.moved d := by
  refine ⟨hb, hn, by rw [hf], Or.inr ⟨?_, by rw [hd]; rfl, fun _ => by rw [hd]; rfl⟩⟩
  cases hs : c.state <;> simp_all [CtxState.bearsNote, CtxState.live]

theorem Kept.haltNotice (hP : Kept P) {b : Blocks} (n : LaneId) (s : Slot) (h : P b) : P (b.haltNotice n s) := by
  have h1 : P (b.modLane n fun l => { l with haltNotice := true }) := hP.modLane _ _ h
  unfold Blocks.haltNotice
  simp only
  split
  · exact hP.endServed _ _ (hP.send _ _ (hP.leavePermit _ h1))
  · split
    · exact hP.endServed _ _ (hP.send _ _ (hP.withdrawFetch _ h1))
    · exact hP.haltIfTurn _ h1

theorem Kept.haltReady (hP : Kept P) {b : Blocks} (s : Slot) (h : P b) : P (b.haltReady s) := by
  have h1 : P ((b.modCtx s Context.haltRequested).endContext s [plain .halted]) :=
    hP.endContext _ _ (hP.modCtx _ _ h (Context.haltRequested_moved _))
  unfold Blocks.haltReady
  simp only
  split
  · exact hP.loseSelection _ _ h1
  · exact h1

theorem Kept.haltLoading (hP : Kept P) {b : Blocks} (s : Slot) (h : P b) : P (b.haltLoading s).1 := by
  have h1 : P (b.modCtx s Context.haltRequested) := hP.modCtx _ _ h (Context.haltRequested_moved _)
  unfold Blocks.haltLoading
  simp only
  split
  · exact hP.endContext _ _ h1
  · exact h1

theorem Kept.haltSlot (hP : Kept P) {b : Blocks} (s : Slot) (h : P b) : P (b.haltSlot s).1 := by
  have hmoved : ∀ f : Context → Context, (b.ctx s).state.bearsNote = true → (f (b.ctx s)).state = .halting →
      (f (b.ctx s)).binding = (b.ctx s).binding → (f (b.ctx s)).note = (b.ctx s).note →
      (f (b.ctx s)).final = (b.ctx s).final → P (b.modCtx s f) := fun f hc hd hb hn hf =>
    hP.modCtx _ _ h (Context.moved_halting _ _ hc hd hb hn hf)
  unfold Blocks.haltSlot
  simp only
  split
  case h_4 => exact h
  case h_5 =>
    split
    · exact h
    · exact hP.haltLoading s h
  case h_6 => exact hP.haltReady s h
  case h_7 hs => exact hP.haltNotice _ _ (hmoved _ (by rw [hs]; rfl) rfl rfl rfl rfl)
  case h_8 hs => exact hP.appendHalt _ _ (hmoved _ (by rw [hs]; rfl) rfl rfl rfl rfl)
  all_goals exact h

theorem Kept.doLane (hP : Kept P) (r : Request) {b : Blocks} (h : P b) : P (Blocks.doLane r b).1 := by
  unfold Blocks.doLane
  simp only
  split
  · exact h
  · split
    · exact hP.setLane _ _ h
    · exact hP.setLane _ _ h
  · split
    · exact h
    · split
      · exact h
      · exact hP.setLane _ _ h

theorem Kept.doResetLane (hP : Kept P) (r : Request) {b : Blocks} (h : P b) : P (Blocks.doResetLane r b).1 := by
  unfold Blocks.doResetLane
  simp only
  split
  · exact h
  · exact hP.laneReset _ h

theorem Kept.doPolicy (hP : Kept P) (r : Request) {b : Blocks} (h : P b) : P (Blocks.doPolicy r b).1 :=
  hP.grantDecision (hP.same h rfl rfl rfl rfl)

/-! ### Time -/

/-- A tick reaches each record through its detach timer alone. -/
@[simp] theorem Blocks.advance_ctx (b : Blocks) (d : BitVec 8) (k : Slot) : (b.advance d).ctx k = (b.ctx k).tick := by
  show (b.ctxs.map Context.tick)[k.val] = (b.ctxs[k.val]).tick
  simp

theorem Kept.detachExpiry (hP : Kept P) {b : Blocks} (s : Slot) (h : P b) : P (b.detachExpiry s) := by
  unfold Blocks.detachExpiry
  split
  · rename_i hdue
    have hs : (b.ctx s).state = .detached := by simpa using (Bool.and_eq_true_iff.mp hdue).1
    exact hP.appendHalt _ _ (hP.modCtx _ _ h (Context.moved_halting _ _ (by rw [hs]; rfl) rfl rfl rfl rfl))
  · exact h

theorem Kept.ledgerExpiry (hP : Kept P) {b : Blocks} (h : P b) : P b.ledgerExpiry := by
  unfold Blocks.ledgerExpiry
  split
  · exact hP.grantDecision (hP.same h rfl rfl rfl rfl)
  · exact h

theorem Kept.attemptTimedOut (hP : Kept P) {b : Blocks} (n : LaneId) (h : P b) : P (b.attemptTimedOut n) := by
  unfold Blocks.attemptTimedOut
  split
  · exact hP.endLostAttempt _ h
  · split
    · exact hP.nextAttempt _ h
    · exact hP.selectionFailed _ h

theorem Kept.responseTimeout (hP : Kept P) {b : Blocks} (n : LaneId) (h : P b) : P (b.responseTimeout n) := by
  unfold Blocks.responseTimeout
  split
  · unfold Blocks.timedOut
    split
    · exact hP.enterIdle _ (hP.modLane _ _ h)
    · exact hP.attemptTimedOut _ h
    · exact hP.linkError _ h
    · exact hP.linkError _ h
    · exact hP.linkError _ h
    · exact hP.pump _ (hP.modLane _ _ h)
    all_goals exact h
  · exact h

theorem Kept.breakRecoveryEnd (hP : Kept P) {b : Blocks} (n : LaneId) (h : P b) : P (b.breakRecoveryEnd n) := by
  unfold Blocks.breakRecoveryEnd
  split
  · exact hP.serviceChoice _ (hP.modLane _ _ h)
  · exact h

/-! ### The lane wire -/

theorem Kept.attentionChange (hP : Kept P) {b : Blocks} (n : LaneId) (a : Bool) (h : P b) :
    P (b.attentionChange n a) := by
  unfold Blocks.attentionChange
  simp only
  split
  · exact h
  · split
    · exact hP.serviceChoice _ (hP.modLane _ _ h)
    · exact hP.modLane _ _ h

theorem Kept.afterResume (hP : Kept P) {b : Blocks} (n : LaneId) (h : P b) : P (b.afterResume n) := by
  unfold Blocks.afterResume
  simp only
  split
  · exact h
  · split
    · exact hP.haltIfTurn _ h
    · exact hP.pump _ (hP.modLane _ _ h)

theorem Kept.outFinished (hP : Kept P) {b : Blocks} (n : LaneId) (h : P b) : P (b.outFinished n) := by
  have h1 : P (b.postNote n) := hP.postNote n h
  unfold Blocks.outFinished
  simp only
  split
  · exact hP.enterAborting _ _ h1
  · split
    · exact hP.enterLinkFetch _ h1
    · split
      · exact hP.sendStop _ h1
      · split
        · exact hP.needBeyond _ h1
        · exact hP.modLane _ _ h1

theorem Kept.outGoesOn (hP : Kept P) {b : Blocks} (n : LaneId) (h : P b) : P (b.outGoesOn n) := by
  unfold Blocks.outGoesOn
  simp only
  split
  · exact hP.enterAborting _ _ h
  · split
    · exact hP.pump _ h
    · split
      · exact hP.pump _ (hP.modLane _ _ h)
      · exact hP.pump _ (hP.modLane _ _ h)

theorem Kept.afterDout (hP : Kept P) {b : Blocks} (n : LaneId) (k : Nat) (h : P b) : P (b.afterDout n k) := by
  have h1 : P (b.modLane n (·.doutSent k)) := hP.modLane _ _ h
  unfold Blocks.afterDout
  simp only
  split
  · exact h1
  · split
    · exact hP.outFinished _ h1
    · exact hP.outGoesOn _ h1

theorem Kept.afterDesel (hP : Kept P) {b : Blocks} (n : LaneId) (h : P b) : P (b.afterDesel n) := by
  unfold Blocks.afterDesel
  split
  · exact hP.nextAttempt _ h
  · exact h

theorem Kept.afterFrame (hP : Kept P) {b : Blocks} (n : LaneId) (f : PartFrame) (h : P b) : P (b.afterFrame n f) := by
  cases f with
  | desel u => exact hP.afterDesel n h
  | cmd u code dir count => exact hP.haltIfTurn _ (hP.modLane _ _ h)
  | dout u toggle bytes => exact hP.afterDout _ _ h
  | resume u => exact hP.afterResume _ h
  | defer u => exact h
  | _ => exact hP.modLane _ _ h

theorem Kept.frameSent (hP : Kept P) {b : Blocks} (n : LaneId) (h : P b) : P (b.frameSent n) := by
  unfold Blocks.frameSent
  split
  · exact h
  · exact hP.afterFrame _ _ (hP.modLane _ _ h)

/-! ### Frames taken -/

theorem Context.deferred_moved (c : Context) : c.moved c.deferred := by
  refine ⟨rfl, rfl, ?_, Or.inl rfl⟩
  simp [Context.deferred]

theorem Context.reconnected_moved (c : Context) (h : c.state = .detached) : c.moved c.reconnected := by
  refine ⟨rfl, rfl, Iff.rfl, Or.inr ?_⟩
  rw [h]
  exact ⟨rfl, rfl, fun _ => rfl⟩

theorem Context.selected_moved (c : Context) : c.moved c.selected := by
  unfold Context.selected
  split
  · rename_i h
    refine ⟨rfl, rfl, Iff.rfl, Or.inr ?_⟩
    rw [h]
    exact ⟨rfl, rfl, fun _ => rfl⟩
  · exact c.moved_refl

theorem Context.takeStatus_moved (c : Context) (status : Byte) : c.moved (c.takeStatus status) :=
  Context.moved_of_same _ _ rfl rfl rfl rfl

theorem Kept.deferUnit (hP : Kept P) {b : Blocks} (n : LaneId) (u : UnitAddr) (h : P b) : P (b.deferUnit n u) :=
  hP.enterIdle _ (hP.send _ _ h)

theorem Kept.resume (hP : Kept P) {b : Blocks} (n : LaneId) (s : Slot) (h : P b) : P (b.resume n s) :=
  hP.pump _ (hP.send _ _ (hP.modLane _ _ (hP.connect _ _ h)))

theorem Kept.connectAborting (hP : Kept P) {b : Blocks} (n : LaneId) (s : Slot) (cause : AbortCause) (h : P b) :
    P (b.connectAborting n s cause) := hP.enterAborting _ _ (hP.connect _ _ h)

theorem Kept.attnDetached (hP : Kept P) {b : Blocks} (n : LaneId) (s : Slot) (u : UnitAddr) (reason : AttnReason)
    (status : Byte) (hs : (b.ctx s).state = .detached) (h : P b) : P (b.attnDetached n s u reason status) := by
  have h1 : P (b.setCtx s ((b.ctx s).takeStatus status)) := hP.setCtx _ _ h (Context.takeStatus_moved _ _)
  have h2 : P ((b.setCtx s ((b.ctx s).takeStatus status)).modCtx s Context.reconnected) :=
    hP.modCtx _ _ h1 (Context.reconnected_moved _ (by simpa [Context.takeStatus] using hs))
  unfold Blocks.attnDetached
  simp only
  split
  · exact hP.deferUnit _ _ (hP.modCtx _ _ h1 (Context.deferred_moved _))
  · split
    · exact hP.resume _ _ h2
    · exact hP.connectAborting _ _ _ h2
  · split
    · exact hP.joinPermit _ (hP.connect _ _ h2)
    · exact hP.connectAborting _ _ _ h2

theorem Kept.attnTaken (hP : Kept P) {b : Blocks} (n : LaneId) (u : UnitAddr) (reason : AttnReason) (status : Byte)
    (h : P b) : P (b.attnTaken n u reason status) := by
  have h1 : P (b.modLane n fun l => { l with emptyPolls := 0, timer := none }) := hP.modLane _ _ h
  unfold Blocks.attnTaken
  simp only
  split
  · exact hP.deferUnit _ _ (hP.modLane _ _ h1)
  · split
    case h_1 =>
      exact hP.enterIdle _ (hP.send _ _ (hP.endContext _ _ (hP.modCtx _ _ h1 (Context.takeStatus_moved _ _))))
    case h_5 hs => exact hP.attnDetached _ _ _ _ _ hs h1
    case h_6 =>
      exact hP.connectAborting _ _ _ (hP.dropFromLists _ _ (hP.modCtx _ _ h1 (Context.takeStatus_moved _ _)))
    case h_7 => exact hP.deferUnit _ _ h1
    case h_8 => exact hP.deferUnit _ _ h1
    all_goals exact hP.deferUnit _ _ (hP.modCtx _ _ h1 (Context.deferred_moved _))

theorem Kept.attnFrame (hP : Kept P) {b : Blocks} (n : LaneId) (u : UnitAddr) (reason : AttnReason) (status : Byte)
    (h : P b) : P (b.attnFrame n u reason status) := by
  unfold Blocks.attnFrame
  split
  · exact hP.attnTaken _ _ _ _ h
  · exact hP.inConnection _ _ _ h fun _ hc => hP.linkError _ hc

theorem Kept.readySelected (hP : Kept P) {b : Blocks} (n : LaneId) (s : Slot) (h : P b) : P (b.readySelected n s) :=
  hP.joinPermit _ (hP.connect _ _ (hP.modLane _ _ (hP.dropFromLists _ _ (hP.modCtx _ _ h (Context.selected_moved _)))))

theorem Kept.haltSelected (hP : Kept P) {b : Blocks} (n : LaneId) (s : Slot) (h : P b) : P (b.haltSelected n s) :=
  hP.connectAborting _ _ _ (hP.modLane _ _ (hP.dropFromLists _ _ h))

theorem Kept.echoMismatch (hP : Kept P) {b : Blocks} (n : LaneId) (u : UnitAddr) (h : P b) : P (b.echoMismatch n u) := by
  have h1 : P ((b.modLane n fun l => { l with mismatch := true, timer := none }).send n (.desel u)) :=
    hP.send _ _ (hP.modLane _ _ h)
  unfold Blocks.echoMismatch
  simp only
  split
  · exact hP.modLane _ _ h1
  · exact hP.selectionFailed _ h1

theorem Kept.echoFrame (hP : Kept P) {b : Blocks} (n : LaneId) (u : UnitAddr) (h : P b) : P (b.echoFrame n u) := by
  unfold Blocks.echoFrame
  split
  · unfold Blocks.echoTaken
    split
    · exact hP.endLostAttempt _ (hP.send _ _ h)
    · split
      · split
        · exact hP.readySelected _ _ h
        · exact hP.haltSelected _ _ h
        · exact h
      · exact hP.echoMismatch _ _ h
  · exact hP.inConnection _ _ _ h fun _ hc => hP.linkError _ hc

theorem Kept.acptTaken (hP : Kept P) {b : Blocks} (n : LaneId) (status : Byte) (h : P b) : P (b.acptTaken n status) := by
  unfold Blocks.acptTaken
  split
  · exact hP.endServed _ _ (hP.send _ _ h)
  · split
    · exact hP.detachContext _ _ h
    · split
      · exact hP.enterAborting _ _ h
      · exact hP.pump _ (hP.modLane _ _ h)

theorem Kept.acptFrame (hP : Kept P) {b : Blocks} (n : LaneId) (u : UnitAddr) (status : Byte) (h : P b) :
    P (b.acptFrame n u status) := by
  refine hP.inConnection _ _ _ (hP.frameStatus _ _ _ h) fun c hc => ?_
  split
  · exact hP.acptTaken _ _ hc
  · exact hP.linkError _ hc

theorem Kept.needOut (hP : Kept P) {b : Blocks} (n : LaneId) (k : Nat) (h : P b) : P (b.needOut n k) := by
  unfold Blocks.needOut
  simp only
  split
  · exact hP.linkError _ h
  · split
    · exact hP.enterAborting _ _ h
    · split
      · exact hP.pump _ (hP.modLane _ _ h)
      · split
        · exact hP.modLane _ _ h
        · exact hP.needBeyond _ h

theorem Kept.needIn (hP : Kept P) {b : Blocks} (n : LaneId) (k : Nat) (h : P b) : P (b.needIn n k) := by
  unfold Blocks.needIn
  simp only
  split
  · exact hP.linkError _ h
  · split
    · exact hP.enterAborting _ _ h
    · split
      · exact hP.pump _ (hP.modLane _ _ h)
      · split
        · exact hP.modLane _ _ h
        · exact hP.needBeyond _ h

theorem Kept.needNone (hP : Kept P) {b : Blocks} (n : LaneId) (h : P b) : P (b.needNone n) := by
  unfold Blocks.needNone
  split
  · exact hP.enterAborting _ _ h
  · exact hP.needBeyond _ h

theorem Kept.needTaken (hP : Kept P) {b : Blocks} (n : LaneId) (k : Nat) (h : P b) : P (b.needTaken n k) := by
  unfold Blocks.needTaken
  simp only
  split
  · split
    · exact hP.needOut _ _ h
    · exact hP.needIn _ _ h
    · exact hP.needNone _ h
  · split
    · split
      · exact hP.enterAborting _ _ h
      · exact hP.modLane _ _ h
    · split
      · split
        · exact hP.enterAborting _ _ h
        · exact hP.sendStop _ h
      · exact hP.linkError _ h

theorem Kept.dinNew (hP : Kept P) {b : Blocks} (n : LaneId) (bytes : List Byte) (h : P b) : P (b.dinNew n bytes) := by
  have h1 : P (b.modLane n (·.takeDin bytes)) := hP.modLane _ _ h
  unfold Blocks.dinNew
  simp only
  generalize hb2 : (if ((b.modLane n (·.takeDin bytes)).lane n).rxResidual = 0 ∧
    ((b.modLane n (·.takeDin bytes)).lane n).dflags.discard = true then (b.modLane n (·.takeDin bytes)).postNote n
    else b.modLane n (·.takeDin bytes)) = b2
  have h2 : P b2 := by
    subst hb2
    split
    · exact hP.postNote _ h1
    · exact h1
  split
  · exact hP.enterAborting _ _ h2
  · split
    · exact hP.enterLinkFetch _ h2
    · exact hP.pump _ (hP.modLane _ _ h2)

theorem Kept.dinTaken (hP : Kept P) {b : Blocks} (n : LaneId) (t : Bool) (bytes : List Byte) (h : P b) :
    P (b.dinTaken n t bytes) := by
  unfold Blocks.dinTaken
  simp only
  split
  · split
    · exact hP.haltIfTurn _ h
    · exact hP.linkError _ h
    · split
      · exact hP.dinNew _ _ h
      · exact hP.linkError _ h
  · exact hP.linkError _ h

theorem Kept.waitTaken (hP : Kept P) {b : Blocks} (n : LaneId) (h : P b) : P (b.waitTaken n) := by
  unfold Blocks.waitTaken
  simp only
  split
  · unfold Blocks.waitInLinkFetch
    split
    · refine hP.beginClosing _ _ ?_
      split
      · exact hP.withdrawFetch _ h
      · exact h
    · exact hP.modLane _ _ h
  · split
    · exact hP.beginClosing _ _ h
    · exact hP.linkError _ h

theorem Kept.endTaken (hP : Kept P) {b : Blocks} (n : LaneId) (status : Byte) (h : P b) : P (b.endTaken n status) := by
  have h1 := hP.addServedFlag n (·.addLengthShort (b.lane n).endsShort) h
  unfold Blocks.endTaken
  simp only
  refine hP.beginClosing _ _ ?_
  split
  · refine hP.withdrawFetch _ ?_
    split
    · exact hP.postNote _ h1
    · exact h1
  · split
    · exact hP.postNote _ h1
    · exact h1

theorem Kept.endFrame (hP : Kept P) {b : Blocks} (n : LaneId) (u : UnitAddr) (status : Byte) (h : P b) :
    P (b.endFrame n u status) := by
  unfold Blocks.endFrame
  simp only
  split
  · split
    · exact hP.pump _ (hP.send _ _ (hP.modLane _ _ (hP.takeStatus _ _ h)))
    · exact h
  · refine hP.inConnection _ _ _ (hP.frameStatus _ _ _ h) fun c hc => ?_
    split
    · exact hP.endTaken _ _ hc
    · exact hP.linkError _ hc

/-! ### The fetcher and the memory port -/

theorem Kept.afterDelivery (hP : Kept P) {b : Blocks} (n : LaneId) (d : Bool) (h : P b) : P (b.afterDelivery n d) := by
  unfold Blocks.afterDelivery
  split
  · exact hP.beginClosing _ _ h
  · split
    · exact hP.pump _ (hP.modLane _ _ h)
    · exact hP.joinPermit _ h

theorem Kept.deliver (hP : Kept P) {b : Blocks} (s : Slot) (d : Descriptor) (a : Addr48) (h : P b) :
    P (b.deliver s d a) := by
  unfold Blocks.deliver
  simp only
  split
  case h_1 hs =>
    split
    · exact hP.endContext _ _ h
    · refine hP.appendReady _ _ (hP.setCtx _ _ h ⟨rfl, rfl, Iff.rfl, Or.inr ?_⟩)
      rw [hs]
      exact ⟨rfl, rfl, nofun⟩
  case h_2 =>
    exact hP.afterDelivery _ _ (hP.modLane _ _ (hP.setCtx _ _ h (Context.moved_of_same _ _ rfl rfl rfl rfl)))
  all_goals exact h

theorem Kept.chainFault (hP : Kept P) {b : Blocks} (s : Slot) (r : Reason) (a : Addr48) (h : P b) :
    P (b.chainFault s r a) := by
  have h1 : P (b.setCtx s { b.ctx s with chainAddr := a }) :=
    hP.setCtx _ _ h (Context.moved_of_same _ _ rfl rfl rfl rfl)
  unfold Blocks.chainFault
  simp only
  split
  · exact hP.endContext _ _ h1
  · split
    · exact hP.enterAborting _ _ h1
    · exact hP.endServed _ _ (hP.send _ _ h1)
  all_goals exact h

theorem Kept.handOn (hP : Kept P) {b : Blocks} (f : Fetch) (e : FetchEnd) (h : P b) : P (b.handOn f e) := by
  cases e with
  | delivery d => exact hP.deliver _ _ _ h
  | fault r => exact hP.chainFault _ _ _ h

theorem Kept.fetchRead (hP : Kept P) {b : Blocks} (error : Bool) (bytes : List Byte) (h : P b) :
    P (b.fetchRead error bytes) := by
  unfold Blocks.fetchRead
  split
  · exact h
  · split
    · exact hP.fetchBegin (hP.same h rfl rfl rfl rfl)
    · split
      · exact hP.askFetcher _ (hP.same h rfl rfl rfl rfl)
      · unfold Blocks.endFetch
        simp only
        split
        · exact hP.fetchBegin (hP.handOn _ _ (hP.same h rfl rfl rfl rfl))
        · split
          · exact hP.handOn _ _ (hP.fetchBegin (hP.same h rfl rfl rfl rfl))
          · exact hP.fetchBegin (hP.handOn _ _ (hP.same h rfl rfl rfl rfl))

theorem Kept.writeDone (hP : Kept P) {b : Blocks} (n : LaneId) (m : LaneMem) (h : P b) : P (b.writeDone n m) := by
  unfold Blocks.writeDone
  simp only
  generalize hb1 : b.modLane n _ = b1
  have h1 : P b1 := hb1 ▸ hP.modLane _ _ h
  generalize hb2 : (if (b1.lane n).residual = 0 ∧ (b1.lane n).state ≠ .aborting then b1.postNote n else b1) = b2
  have h2 : P b2 := by
    subst hb2
    split
    · exact hP.postNote _ h1
    · exact h1
  split
  · exact hP.enterLinkFetch _ h2
  · exact hP.pump _ h2

theorem Kept.laneMemDone (hP : Kept P) {b : Blocks} (n : LaneId) (x : Txn) (h : P b) : P (b.laneMemDone n x) := by
  unfold Blocks.laneMemDone
  split
  · exact h
  · split
    · exact hP.dataFault _ _ (hP.modLane _ _ h)
    · split
      · exact hP.writeDone _ _ h
      · exact hP.pump _ (hP.modLane _ _ h)

theorem Kept.burstDone (hP : Kept P) {b : Blocks} (resps : List BusResp) (bytes : List Byte) (h : P b) :
    P (b.burstDone resps bytes) := by
  have hdone : ∀ x, P (b.completeTxn x) := by
    intro x
    have h1 : P b.portNext := hP.portNext h
    unfold Blocks.completeTxn
    simp only
    split
    · split
      · exact h1
      · exact hP.fetchRead _ _ h1
    · split
      · exact hP.pump _ (hP.modLane _ _ h1)
      · exact hP.laneMemDone _ _ h1
  unfold Blocks.burstDone
  simp only
  split
  · exact h
  · split
    · split
      · split
        · exact hdone _
        · exact hP.same h rfl rfl rfl rfl
      · exact hdone _
    · exact h

end

/-! ### A whole step -/

/-- A property kept by the moves of `Kept` and by OPEN, CLOSE, COLLECT, the tick and pin reset, which are no run of them. -/
structure StepKept (P : Blocks → Prop) : Prop extends Kept P where
  bind : ∀ (b : Blocks) (r : Request) (k : Slot), b.lookup r.lane r.unit = none → (b.ctx k).state = .free → P b →
    P (b.bind r k)
  close : ∀ (b : Blocks) (r : Request) (k : Slot), b.lookup r.lane r.unit = some k → (b.ctx k).state = .idle → P b →
    P ((b.setCtx k Context.reset).setIndex r.lane r.unit none)
  collect : ∀ (b : Blocks) (e : ReportEntry) (rest : List ReportEntry), b.reports.queue = e :: rest →
    (∃ n u, b.lookup n u = some e.slot) → P b → P (b.collectHead e rest)
  advance : ∀ (b : Blocks) (d : BitVec 8), P b → P (b.advance d)
  pinReset : ∀ b : Blocks, P b.pinReset

section
variable {P : Blocks → Prop}

theorem Blocks.lowestFree_free (b : Blocks) (k : Slot) (h : b.lowestFree = some k) : (b.ctx k).state = .free := by
  simpa using List.find?_some h

theorem StepKept.doOpen (hP : StepKept P) (r : Request) {b : Blocks} (h : P b) : P (Blocks.doOpen r b).1 := by
  unfold Blocks.doOpen Blocks.onBound
  split
  · exact h
  · rename_i hl
    split
    · exact h
    · rename_i k hk
      exact hP.bind b r k hl (b.lowestFree_free k hk) h

theorem StepKept.doClose (hP : StepKept P) (r : Request) {b : Blocks} (h : P b) : P (Blocks.doClose r b).1 := by
  unfold Blocks.doClose Blocks.onBound
  split
  · rename_i k hl
    simp only
    split
    · exact h
    · rename_i hidle
      exact hP.close b r k hl hidle h
    · exact h
  · exact h

theorem StepKept.doCollect (hP : StepKept P) (r : Request) {b : Blocks} (h : P b) : P (Blocks.doCollect r b).1 := by
  unfold Blocks.doCollect Blocks.onBound
  split
  · rename_i k hl
    simp only
    split
    · exact h
    · rename_i e rest hq
      split
      · rename_i hk
        exact hP.collect b e rest hq ⟨_, _, hk ▸ hl⟩ h
      · exact h
  · exact h

theorem StepKept.softReset (hP : StepKept P) (b : Blocks) : P b.softReset :=
  hP.same (hP.pinReset b) rfl rfl rfl rfl

/-- An event of the blocks settles the update count, which bears on none of the four. -/
theorem Kept.settled (hP : Kept P) (b : Blocks) {c : Blocks} (h : P c) : P (b.settled c) :=
  hP.same h rfl rfl rfl rfl

theorem Kept.onBlocksAsking (hP : Kept P) (s : State) (f : Blocks → Blocks) (h : P (f s.blocks)) :
    P (s.onBlocksAsking f).blocks := by
  refine hP.settled _ ?_
  simp only
  split
  · exact h
  · exact hP.answerAsking _ h

theorem Kept.handle (hP : Kept P) (s : State) (code : ReqCode) (act : Request → Blocks → Blocks × Answer)
    (h : P s.blocks) (ha : ∀ r, P (act r s.blocks).1) : P (s.handle code act).blocks := by
  unfold State.handle
  split
  · exact h
  · split
    · refine hP.settled _ ?_
      split
      · exact ha _
      · exact h
    · exact h

theorem Kept.onWrite (s : State) (st : BitVec 4) (f : State → State) (h : P s.blocks) (hf : P (f s).blocks) :
    P (s.onWrite st f).blocks := by
  unfold State.onWrite
  split
  · exact hf
  · exact h

theorem StepKept.writeRegister (hP : StepKept P) (s : State) (o : BitVec 7) (v : Word) (st : BitVec 4) (h : P s.blocks) :
    P (s.writeRegister o v st).blocks := by
  unfold State.writeRegister
  split
  case h_7 => exact hP.same h rfl rfl rfl rfl
  case h_9 => exact hP.softReset _
  all_goals exact h

theorem StepKept.exec (hP : StepKept P) (i : Instr) (s t : State) (h : P s.blocks)
    (ht : Machine.exec i s = .next t) : P t.blocks := by
  cases i with
  | pinReset => cases ht; exact hP.pinReset _
  | rqgoSubmit v st => cases ht; exact Kept.onWrite _ _ _ h h
  | rsnextPop v st => cases ht; exact Kept.onWrite _ _ _ h h
  | intsWrite v st => cases ht; exact Kept.onWrite _ _ _ h (hP.same h rfl rfl rfl rfl)
  | inteWrite v st => cases ht; exact Kept.onWrite _ _ _ h h
  | prstWrite v st => cases ht; exact Kept.onWrite _ _ _ h (hP.softReset _)
  | tbdivWrite v st => cases ht; exact Kept.onWrite _ _ _ h h
  | registerWrite o v st => cases ht; exact Kept.onWrite _ _ _ h (hP.writeRegister _ _ _ _ h)
  | softResetComplete =>
    cases ht
    split
    · exact hP.softReset _
    · exact h
  | openUnit => cases ht; exact hP.handle _ _ _ h fun r => hP.doOpen r h
  | closeUnit => cases ht; exact hP.handle _ _ _ h fun r => hP.doClose r h
  | startChain => cases ht; exact hP.handle _ _ _ h fun r => hP.doStart r h
  | haltUnit => cases ht; exact hP.handle _ _ _ h fun r => Kept.onBound r _ _ h fun k => hP.haltSlot k h
  | probeUnit => cases ht; exact hP.handle _ _ _ h fun r => Kept.onBound r _ _ h fun _ => h
  | collectReport => cases ht; exact hP.handle _ _ _ h fun r => hP.doCollect r h
  | laneControl => cases ht; exact hP.handle _ _ _ h fun r => hP.doLane r h
  | resetLane => cases ht; exact hP.handle _ _ _ h fun r => hP.doResetLane r h
  | setPolicy => cases ht; exact hP.handle _ _ _ h fun r => hP.doPolicy r h
  | laneStatus => cases ht; exact hP.handle _ _ _ h fun r => hP.same h rfl rfl rfl rfl
  | unknownRequest => cases ht; exact hP.handle _ _ _ h fun _ => h
  | timebaseTick => cases ht; exact hP.settled _ (hP.advance _ _ (hP.decideIfAsked h))
  | detachTimerExpiry slot => cases ht; exact hP.settled _ (hP.detachExpiry _ h)
  | ledgerRecordExpiry => cases ht; exact hP.settled _ (hP.ledgerExpiry h)
  | responseTimeout n => cases ht; exact hP.settled _ (hP.responseTimeout _ h)
  | breakSpaceEnd n => cases ht; exact hP.settled _ (hP.modLane _ _ h)
  | breakRecoveryEnd n => cases ht; exact hP.settled _ (hP.breakRecoveryEnd _ h)
  | attentionLineChange n a => cases ht; exact hP.settled _ (hP.attentionChange _ _ h)
  | frameMalformed n check above => cases ht; exact hP.settled _ (hP.discardFrame _ _ h)
  | frameAttn n u reason status =>
    cases ht
    exact hP.onBlocksAsking _ _ (hP.takeFrame _ _ _ _ h fun _ hc => hP.attnFrame _ _ _ _ hc)
  | frameEcho n u => cases ht; exact hP.onBlocksAsking _ _ (hP.takeFrame _ _ _ _ h fun _ hc => hP.echoFrame _ _ hc)
  | frameAcpt n u status => cases ht; exact hP.settled _ (hP.takeFrame _ _ _ _ h fun _ hc => hP.acptFrame _ _ _ hc)
  | frameNeed n u k =>
    cases ht
    exact hP.settled _ (hP.takeFrame _ _ _ _ h fun _ hc => hP.inConnection _ _ _ hc fun _ hd => hP.needTaken _ _ hd)
  | frameDin n u toggle bytes =>
    cases ht
    exact hP.settled _ (hP.takeFrame _ _ _ _ h fun _ hc => hP.inConnection _ _ _ hc fun _ hd => hP.dinTaken _ _ _ hd)
  | frameWait n u =>
    cases ht
    exact hP.settled _ (hP.takeFrame _ _ _ _ h fun _ hc => hP.inConnection _ _ _ hc fun _ hd => hP.waitTaken _ hd)
  | frameEnd n u status => cases ht; exact hP.settled _ (hP.takeFrame _ _ _ _ h fun _ hc => hP.endFrame _ _ _ hc)
  | memoryBurstResponse resps bytes => cases ht; exact hP.onBlocksAsking _ _ (hP.burstDone _ _ h)
  | frameSent n => cases ht; exact hP.settled _ (hP.frameSent _ h)
  | frameFirstStartBit n => cases ht; exact hP.settled _ (hP.modLane _ _ h)
  | unbrokenMarkResync n => cases ht; exact hP.settled _ (hP.modLane _ _ h)

/-- A property so kept is kept by every step, the step on an empty queue included. -/
theorem StepKept.step (hP : StepKept P) (s t : State) (h : P s.blocks) (ht : Machine.step s = .next t) : P t.blocks := by
  unfold Machine.step at ht
  split at ht
  · cases ht
    unfold State.idle
    split
    · exact hP.settled _ (hP.grantDecision h)
    · exact h
  · rename_i c rest _
    exact hP.exec c { s with pending := rest } t h ht

end

end Sys2Proof.Machine

/-!
The unit index (R3) and the report queue (R8, R149) stay sound over every step.
-/
namespace Sys2Proof.Machine

/-! ### The unit index -/

/-- No move binds a slot or frees one. -/
theorem Context.moved_free_iff {c d : Context} (h : c.moved d) : d.state = .free ↔ c.state = .free := by
  obtain ⟨-, -, -, hs | ⟨hc, hd, -⟩⟩ := h
  · rw [hs]
  · constructor <;> intro he <;> simp_all [CtxState.live]

/-- Only the index, the bindings and which slots are FREE bear on it. -/
theorem Blocks.indexSound_congr {b c : Blocks} (hi : c.index = b.index)
    (hb : ∀ k, (c.ctx k).binding = (b.ctx k).binding) (hf : ∀ k, (c.ctx k).state = .free ↔ (b.ctx k).state = .free)
    (h : b.indexSound) : c.indexSound := by
  have hl : ∀ n u, c.lookup n u = b.lookup n u := fun n u => by simp [Blocks.lookup, hi]
  simpa only [Blocks.indexSound, hl, hb, ne_eq, hf] using h

theorem Blocks.bind_ctx_same (b : Blocks) (r : Request) (k : Slot) : (b.bind r k).ctx k = openedContext r := by
  simp [Blocks.bind]

theorem Blocks.bind_ctx_ne (b : Blocks) (r : Request) (k j : Slot) (h : j ≠ k) : (b.bind r k).ctx j = b.ctx j := by
  simp [Blocks.bind, Blocks.setCtx_ctx_ne _ _ _ _ h]

theorem Blocks.bind_lookup_same (b : Blocks) (r : Request) (k : Slot) : (b.bind r k).lookup r.lane r.unit = some k := by
  simp [Blocks.bind]

theorem Blocks.bind_lookup_ne (b : Blocks) (r : Request) (k : Slot) (n : LaneId) (u : UnitAddr)
    (h : ¬(n = r.lane ∧ u = r.unit)) : (b.bind r k).lookup n u = b.lookup n u := by
  simp [Blocks.bind, Blocks.setIndex_lookup_ne _ _ _ _ _ _ h]

/-- OPEN of an unbound unit, at a FREE slot. -/
theorem Blocks.indexSound_bind (b : Blocks) (r : Request) (k : Slot) (hl : b.lookup r.lane r.unit = none)
    (hk : (b.ctx k).state = .free) (h : b.indexSound) : (b.bind r k).indexSound := by
  obtain ⟨hentry, hslot⟩ := h
  constructor
  · intro n u s hs
    by_cases hnu : n = r.lane ∧ u = r.unit
    · obtain ⟨rfl, rfl⟩ := hnu
      rw [Blocks.bind_lookup_same] at hs
      obtain rfl := Option.some.inj hs
      rw [Blocks.bind_ctx_same]
      exact ⟨nofun, _, rfl, rfl, rfl⟩
    · rw [Blocks.bind_lookup_ne _ _ _ _ _ hnu] at hs
      have hne : s ≠ k := fun e => (hentry n u s hs).1 (e ▸ hk)
      rw [Blocks.bind_ctx_ne _ _ _ _ hne]
      exact hentry n u s hs
  · intro s hs
    by_cases hsk : s = k
    · subst hsk
      refine ⟨⟨r.lane, r.unit, r.w1, r.detachLimit, r.selectRetries⟩, ?_, b.bind_lookup_same r s⟩
      rw [Blocks.bind_ctx_same]
      rfl
    · rw [Blocks.bind_ctx_ne _ _ _ _ hsk] at hs ⊢
      obtain ⟨x, hx, hxl⟩ := hslot s hs
      refine ⟨x, hx, ?_⟩
      rw [Blocks.bind_lookup_ne _ _ _ _ _ fun e => by rw [e.1, e.2, hl] at hxl; cases hxl]
      exact hxl

/-- CLOSE of a bound unit. -/
theorem Blocks.indexSound_close (b : Blocks) (r : Request) (k : Slot) (hl : b.lookup r.lane r.unit = some k)
    (h : b.indexSound) : ((b.setCtx k Context.reset).setIndex r.lane r.unit none).indexSound := by
  obtain ⟨hentry, hslot⟩ := h
  obtain ⟨-, y, hy, hyl, hyu⟩ := hentry _ _ _ hl
  constructor
  · intro n u s hs
    have hnu : ¬(n = r.lane ∧ u = r.unit) := by
      rintro ⟨rfl, rfl⟩
      rw [Blocks.setIndex_lookup_same] at hs
      cases hs
    rw [Blocks.setIndex_lookup_ne _ _ _ _ _ _ hnu, Blocks.setCtx_lookup] at hs
    obtain ⟨hfree, x, hx, hxl, hxu⟩ := hentry n u s hs
    have hsk : s ≠ k := by
      rintro rfl
      obtain rfl := Option.some.inj (hx.symm.trans hy)
      exact hnu ⟨hxl.symm.trans hyl, hxu.symm.trans hyu⟩
    rw [Blocks.setIndex_ctx, Blocks.setCtx_ctx_ne _ _ _ _ hsk]
    exact ⟨hfree, x, hx, hxl, hxu⟩
  · intro s hs
    have hsk : s ≠ k := by
      rintro rfl
      exact hs (by rw [Blocks.setIndex_ctx, Blocks.setCtx_ctx_same]; rfl)
    rw [Blocks.setIndex_ctx, Blocks.setCtx_ctx_ne _ _ _ _ hsk] at hs ⊢
    obtain ⟨x, hx, hxl⟩ := hslot s hs
    refine ⟨x, hx, ?_⟩
    rw [Blocks.setIndex_lookup_ne _ _ _ _ _ _ fun e => hsk (by rw [e.1, e.2, hl] at hxl; exact (Option.some.inj hxl).symm)]
    exact hxl

theorem Blocks.postFinal_ctx_same (b : Blocks) (s : Slot) (named : List Named) (h : (b.ctx s).state ≠ .free) :
    (b.postFinal s named).ctx s = (b.ctx s).toReported s named := by
  rw [Blocks.postFinal_eq _ _ _ h]
  exact b.modCtx_ctx_same s (·.toReported s named)

theorem Blocks.postFinal_ctx_ne (b : Blocks) (s k : Slot) (named : List Named) (h : k ≠ s) :
    (b.postFinal s named).ctx k = b.ctx k := by
  unfold Blocks.postFinal
  split
  · rfl
  · exact b.modCtx_ctx_ne s k (·.toReported s named) h

theorem Blocks.postFinal_free_slot (b : Blocks) (s : Slot) (named : List Named) (h : (b.ctx s).state = .free) :
    b.postFinal s named = b := if_pos h

theorem Blocks.postFinal_binding (b : Blocks) (s : Slot) (named : List Named) (k : Slot) :
    ((b.postFinal s named).ctx k).binding = (b.ctx k).binding := by
  by_cases hs : (b.ctx s).state = .free
  · rw [Blocks.postFinal_free_slot _ _ _ hs]
  · by_cases hk : k = s
    · subst hk; rw [Blocks.postFinal_ctx_same _ _ _ hs]; rfl
    · rw [Blocks.postFinal_ctx_ne _ _ _ _ hk]

theorem Blocks.postFinal_free (b : Blocks) (s : Slot) (named : List Named) (k : Slot) :
    ((b.postFinal s named).ctx k).state = .free ↔ (b.ctx k).state = .free := by
  by_cases hs : (b.ctx s).state = .free
  · rw [Blocks.postFinal_free_slot _ _ _ hs]
  · by_cases hk : k = s
    · subst hk; rw [Blocks.postFinal_ctx_same _ _ _ hs]; simp [Context.toReported, hs]
    · rw [Blocks.postFinal_ctx_ne _ _ _ _ hk]

/-- A note changes nothing of a record but its pending note. -/
theorem Blocks.postNoteEntry_ctx (b : Blocks) (s k : Slot) :
    ∃ note, (b.postNoteEntry s).ctx k = { b.ctx k with note := note } := by
  unfold Blocks.postNoteEntry
  simp only
  split
  · show ∃ note, (b.setCtx s _).ctx k = _
    by_cases hk : k = s
    · subst hk; exact ⟨_, Blocks.setCtx_ctx_same _ _ _⟩
    · exact ⟨_, Blocks.setCtx_ctx_ne _ _ _ _ hk⟩
  · exact ⟨_, rfl⟩

theorem Blocks.postNoteEntry_index (b : Blocks) (s : Slot) : (b.postNoteEntry s).index = b.index := by
  unfold Blocks.postNoteEntry
  simp only
  split <;> rfl

theorem Blocks.postFinal_index (b : Blocks) (s : Slot) (named : List Named) : (b.postFinal s named).index = b.index := by
  obtain ⟨c, q, h⟩ := b.postFinal_spec s named
  rw [h]

/-- The record of a slot other than the head's is as it was after COLLECT. -/
theorem Blocks.collectHead_ctx_ne (b : Blocks) (e : ReportEntry) (rest : List ReportEntry) (k : Slot) (h : k ≠ e.slot) :
    (b.collectHead e rest).ctx k = b.ctx k := Blocks.modCtx_ctx_ne _ _ _ _ h

theorem Blocks.collectHead_ctx_same (b : Blocks) (e : ReportEntry) (rest : List ReportEntry) :
    (b.collectHead e rest).ctx e.slot = (b.ctx e.slot).collectedAs e.kind := Blocks.modCtx_ctx_same _ _ _

theorem Context.collectedAs_binding (c : Context) (k : EntryKind) : (c.collectedAs k).binding = c.binding := by
  cases k <;> rfl

theorem Context.collectedAs_free (c : Context) (k : EntryKind) (h : c.state ≠ .free) :
    (c.collectedAs k).state ≠ .free := by
  cases k with
  | note => exact h
  | final => exact nofun

@[simp] theorem Blocks.pinReset_ctx (b : Blocks) (k : Slot) : b.pinReset.ctx k = Context.reset :=
  Vector.getElem_replicate (n := 40) k.isLt

@[simp] theorem Blocks.pinReset_lookup (b : Blocks) (n : LaneId) (u : UnitAddr) : b.pinReset.lookup n u = none :=
  Vector.getElem_replicate (n := 128) (indexEntry n u).isLt

/-- Every step keeps the unit index sound (R3). -/
theorem stepKept_indexSound : StepKept Blocks.indexSound where
  moved b c hm h := by
    obtain ⟨hi, -, hctx, -⟩ := hm
    exact Blocks.indexSound_congr hi (fun k => (hctx k).1) (fun k => Context.moved_free_iff (hctx k)) h
  final b s named h :=
    Blocks.indexSound_congr (b.postFinal_index s named) (b.postFinal_binding s named) (b.postFinal_free s named) h
  note b s h := by
    refine Blocks.indexSound_congr (b.postNoteEntry_index s) (fun k => ?_) (fun k => ?_) h
    all_goals obtain ⟨note, hk⟩ := b.postNoteEntry_ctx s k; rw [hk]
  bind := Blocks.indexSound_bind
  close b r k hl _ h := b.indexSound_close r k hl h
  collect b e rest _ hl h := by
    obtain ⟨n, u, hl⟩ := hl
    have hfree : (b.ctx e.slot).state ≠ .free := (h.1 n u e.slot hl).1
    refine Blocks.indexSound_congr (b := b) rfl (fun k => ?_) (fun k => ?_) h
    all_goals by_cases hk : k = e.slot
    · subst hk; rw [Blocks.collectHead_ctx_same, Context.collectedAs_binding]
    · rw [Blocks.collectHead_ctx_ne _ _ _ _ hk]
    · subst hk
      rw [Blocks.collectHead_ctx_same]
      simp [Context.collectedAs_free _ _ hfree, hfree]
    · rw [Blocks.collectHead_ctx_ne _ _ _ _ hk]
  advance b d h :=
    Blocks.indexSound_congr (b := b) rfl (fun k => by rw [Blocks.advance_ctx]; rfl) (fun k => by rw [Blocks.advance_ctx]; rfl) h
  pinReset b := ⟨fun n u s hs => by simp at hs, fun s hs => absurd (by rw [Blocks.pinReset_ctx]; rfl) hs⟩

/-! ### The reports -/

/-- The record of slot `s` agrees with the report queue `q`: the part of `Blocks.reportsSound` that speaks of one slot. -/
def Context.agrees (c : Context) (q : List ReportEntry) (s : Slot) : Prop :=
  (c.state = .reported ↔ ⟨s, .final⟩ ∈ q) ∧ (c.state = .reported ↔ c.final ≠ none) ∧ (c.note ≠ none ↔ ⟨s, .note⟩ ∈ q)
    ∧ (c.note ≠ none → c.state = .connected ∨ c.state = .detached ∨ c.state = .halting)

theorem Blocks.reportsSound_iff (b : Blocks) : b.reportsSound ↔
    (b.reports.queue.map (·.slot)).Nodup ∧ ∀ s, (b.ctx s).agrees b.reports.queue s := Iff.rfl

theorem CtxState.bearsNote_iff (x : CtxState) : x.bearsNote = true ↔ x = .connected ∨ x = .detached ∨ x = .halting := by
  cases x <;> simp [CtxState.bearsNote]

/-- A move keeps the agreement. -/
theorem Context.agrees_moved {c d : Context} {q : List ReportEntry} {s : Slot} (hm : c.moved d) (h : c.agrees q s) :
    d.agrees q s := by
  obtain ⟨-, hn, hf, hs⟩ := hm
  obtain ⟨h1, h2, h3, h4⟩ := h
  have hrep : d.state = .reported ↔ c.state = .reported := by
    rcases hs with hs | ⟨hc, hd, -⟩
    · rw [hs]
    · constructor <;> intro he <;> simp_all [CtxState.live]
  refine ⟨hrep.trans h1, hrep.trans (h2.trans (not_congr hf.symm)), hn ▸ h3, fun hne => ?_⟩
  have hc := (CtxState.bearsNote_iff _).mpr (h4 (hn ▸ hne))
  refine (CtxState.bearsNote_iff _).mp ?_
  rcases hs with hs | ⟨-, -, hb⟩
  · rw [hs]; exact hc
  · exact hb hc

/-- Entries of other slots bear on no record. -/
theorem Context.agrees_congr {c : Context} {q p : List ReportEntry} {s : Slot}
    (hq : ∀ kind, ⟨s, kind⟩ ∈ p ↔ (⟨s, kind⟩ : ReportEntry) ∈ q) (h : c.agrees q s) : c.agrees p s := by
  simpa only [Context.agrees, hq] using h

/-- A record with no entry, no report and no note, in a state that has none. -/
theorem Context.agrees_none {c : Context} {q : List ReportEntry} {s : Slot} (hs : c.state ≠ .reported)
    (hf : c.final = none) (hn : c.note = none) (hq : ∀ kind, (⟨s, kind⟩ : ReportEntry) ∉ q) : c.agrees q s := by
  simp [Context.agrees, hs, hf, hn, hq]

/-- A context in which no note may stand, and that is not REPORTED, has no entry. -/
theorem Context.agrees_noEntry {c : Context} {q : List ReportEntry} {s : Slot} (h : c.agrees q s)
    (hs : c.state ≠ .reported) (hb : c.state.bearsNote = false) (kind : EntryKind) : (⟨s, kind⟩ : ReportEntry) ∉ q := by
  obtain ⟨h1, -, h3, h4⟩ := h
  cases kind with
  | final => exact fun he => hs (h1.mpr he)
  | note =>
    intro he
    have := (CtxState.bearsNote_iff _).mpr (h4 (h3.mpr he))
    simp [hb] at this

/-- Posting a final report (R157). -/
theorem Blocks.reportsSound_postFinal (b : Blocks) (s : Slot) (named : List Named) (h : b.reportsSound) :
    (b.postFinal s named).reportsSound := by
  by_cases hs : (b.ctx s).state = .free
  · rwa [Blocks.postFinal, if_pos hs]
  obtain ⟨hnd, hag⟩ := b.reportsSound_iff.mp h
  have hq : (b.postFinal s named).reports.queue = postFinalEntry b.reports.queue s := by
    rw [b.postFinal_eq s named hs]
  rw [Blocks.reportsSound_iff, hq, postFinalEntry_slots]
  constructor
  · split
    · exact hnd
    · rename_i hmem
      exact List.nodup_append.mpr
        ⟨hnd, List.nodup_singleton _, fun a ha c hc e => hmem (List.mem_singleton.mp hc ▸ e ▸ ha)⟩
  · intro k
    by_cases hk : k = s
    · subst hk
      rw [Blocks.postFinal_ctx_same _ _ _ hs]
      simp [Context.agrees, Context.toReported, mem_postFinalEntry]
    · rw [Blocks.postFinal_ctx_ne _ _ _ _ hk]
      exact Context.agrees_congr (fun kind => by simp [mem_postFinalEntry, hk]) (hag k)

/-- Posting a note (R156). -/
theorem Blocks.reportsSound_postNoteEntry (b : Blocks) (s : Slot) (h : b.reportsSound) :
    (b.postNoteEntry s).reportsSound := by
  obtain ⟨hnd, hag⟩ := b.reportsSound_iff.mp h
  obtain ⟨h1, h2, h3, h4⟩ := hag s
  unfold Blocks.postNoteEntry
  simp only
  split
  swap
  · exact h
  rename_i hnotes
  have hrep : (b.ctx s).state ≠ .reported := fun e => by simp [e, CtxState.notes] at hnotes
  have hbears : (b.ctx s).state = .connected ∨ (b.ctx s).state = .detached ∨ (b.ctx s).state = .halting := by
    cases hst : (b.ctx s).state <;> simp_all [CtxState.notes]
  rw [Blocks.reportsSound_iff]
  by_cases hnote : (b.ctx s).note = none
  · have hno : ∀ kind, (⟨s, kind⟩ : ReportEntry) ∉ b.reports.queue := by
      rintro (_ | _) he
      · exact h3.mpr he hnote
      · exact hrep (h1.mpr he)
    simp only [hnote, Option.isSome_none, Bool.false_eq_true, if_false]
    constructor
    · rw [List.map_append]
      refine List.nodup_append.mpr ⟨hnd, List.nodup_singleton _, fun a ha c hc e => ?_⟩
      obtain ⟨x, hx, rfl⟩ := List.mem_map.mp ha
      simp at hc
      exact hno x.kind (by rw [← hc, ← e]; exact hx)
    · intro k
      show ((b.setCtx s _).ctx k).agrees (b.reports.queue ++ [⟨s, .note⟩]) k
      by_cases hk : k = s
      · subst hk
        rw [Blocks.setCtx_ctx_same]
        refine ⟨by simpa using h1, h2, by simp, fun _ => hbears⟩
      · rw [Blocks.setCtx_ctx_ne _ _ _ _ hk]
        exact Context.agrees_congr (fun kind => by simp [hk]) (hag k)
  · have hsome : (b.ctx s).note.isSome = true := Option.isSome_iff_ne_none.mpr hnote
    simp only [hsome, if_true]
    refine ⟨hnd, fun k => ?_⟩
    show ((b.setCtx s _).ctx k).agrees b.reports.queue k
    by_cases hk : k = s
    · subst hk
      rw [Blocks.setCtx_ctx_same]
      exact ⟨h1, h2, by simpa using h3.mp hnote, fun _ => hbears⟩
    · rw [Blocks.setCtx_ctx_ne _ _ _ _ hk]
      exact hag k

/-- A slot that no report and no note stands for may be bound anew or freed. -/
theorem Blocks.reportsSound_replace {b c : Blocks} (k : Slot) (hq : c.reports.queue = b.reports.queue)
    (hne : ∀ j, j ≠ k → c.ctx j = b.ctx j) (hb : (b.ctx k).state ≠ .reported) (hn : (b.ctx k).state.bearsNote = false)
    (hc : (c.ctx k).state ≠ .reported) (hf : (c.ctx k).final = none) (hnote : (c.ctx k).note = none)
    (h : b.reportsSound) : c.reportsSound := by
  obtain ⟨hnd, hag⟩ := b.reportsSound_iff.mp h
  rw [Blocks.reportsSound_iff, hq]
  refine ⟨hnd, fun j => ?_⟩
  by_cases hj : j = k
  · subst hj
    exact Context.agrees_none hc hf hnote (Context.agrees_noEntry (hag j) hb hn)
  · rw [hne j hj]
    exact hag j

/-- COLLECT of the head (R10). -/
theorem Blocks.reportsSound_collectHead (b : Blocks) (e : ReportEntry) (rest : List ReportEntry)
    (hq : b.reports.queue = e :: rest) (h : b.reportsSound) : (b.collectHead e rest).reportsSound := by
  obtain ⟨hnd, hag⟩ := b.reportsSound_iff.mp h
  rw [hq] at hnd hag
  obtain ⟨hhead, hrest⟩ := List.nodup_cons.mp hnd
  have hno : ∀ kind, (⟨e.slot, kind⟩ : ReportEntry) ∉ rest := fun kind he => hhead (List.mem_map.mpr ⟨_, he, rfl⟩)
  refine ⟨hrest, fun k => ?_⟩
  by_cases hk : k = e.slot
  · subst hk
    show ((b.collectHead e rest).ctx e.slot).agrees rest e.slot
    rw [Blocks.collectHead_ctx_same]
    obtain ⟨h1, h2, h3, h4⟩ := hag e.slot
    obtain ⟨slot, kind⟩ := e
    cases kind with
    | final =>
      have hnote : (b.ctx slot).note = none := by
        by_contra hc
        exact absurd (h3.mp hc) (by simpa using hno .note)
      exact Context.agrees_none nofun rfl hnote hno
    | note =>
      have hs : (b.ctx slot).state ≠ .reported := fun hc => absurd (h1.mp hc) (by simpa using hno .final)
      have hf : (b.ctx slot).final = none := by simpa [hs] using h2
      exact Context.agrees_none hs hf rfl hno
  · show ((b.collectHead e rest).ctx k).agrees rest k
    rw [Blocks.collectHead_ctx_ne _ _ _ _ hk]
    refine Context.agrees_congr (fun kind => ?_) (hag k)
    have : (⟨k, kind⟩ : ReportEntry) ≠ e := fun he => hk (congrArg ReportEntry.slot he)
    simp [this]

/-- Every step keeps the report queue and the records in agreement (R8, R149). -/
theorem stepKept_reportsSound : StepKept Blocks.reportsSound where
  moved b c hm h := by
    obtain ⟨-, hq, hctx, -⟩ := hm
    obtain ⟨hnd, hag⟩ := b.reportsSound_iff.mp h
    rw [Blocks.reportsSound_iff, hq]
    exact ⟨hnd, fun k => Context.agrees_moved (hctx k) (hag k)⟩
  final := Blocks.reportsSound_postFinal
  note := Blocks.reportsSound_postNoteEntry
  bind b r k _ hk h := by
    refine Blocks.reportsSound_replace (b := b) k rfl (b.bind_ctx_ne r k) (by rw [hk]; nofun) (by rw [hk]; rfl) ?_ ?_ ?_ h
    all_goals rw [Blocks.bind_ctx_same]
    · exact nofun
    · rfl
    · rfl
  close b r k _ hk h := by
    refine Blocks.reportsSound_replace (b := b) k rfl (fun j hj => ?_) (by rw [hk]; nofun) (by rw [hk]; rfl) ?_ ?_ ?_ h
    · rw [Blocks.setIndex_ctx, Blocks.setCtx_ctx_ne _ _ _ _ hj]
    all_goals rw [Blocks.setIndex_ctx, Blocks.setCtx_ctx_same]
    · exact nofun
    · rfl
    · rfl
  collect b e rest hq _ h := b.reportsSound_collectHead e rest hq h
  advance b d h := by
    obtain ⟨hnd, hag⟩ := b.reportsSound_iff.mp h
    exact ⟨hnd, fun k => by rw [Blocks.advance_ctx]; exact hag k⟩
  pinReset b := by
    refine ⟨List.nodup_nil, fun k => ?_⟩
    rw [Blocks.pinReset_ctx]
    exact Context.agrees_none nofun rfl rfl fun _ => List.not_mem_nil

/-! ### The invariants -/

/-- Settles O58: each move, and OPEN, CLOSE, COLLECT, the tick and pin reset, keep the index sound. -/
theorem everyStepKeepsTheUnitIndexSound : Obligations.EveryStepKeepsTheUnitIndexSound :=
  fun s t h ht => stepKept_indexSound.step s t h ht

/-- Settles O59: each move, and OPEN, CLOSE, COLLECT, the tick and pin reset, keep the reports sound. -/
theorem everyStepKeepsTheReportsSound : Obligations.EveryStepKeepsTheReportsSound :=
  fun s t h ht => stepKept_reportsSound.step s t h ht

end Sys2Proof.Machine

/-!
How far an event reaches: which records, lanes and tables an operation leaves alone, and what it adds to the frames a lane
has sent. Each is a relation between the blocks before and after, so that the steps of an event chain by `trans`.
-/
namespace Sys2Proof.Machine

/-! ### Records and tables -/

/-- An event of the context of slot `k` (and of lanes, the fetcher, the memory port, the window and the reports): the unit
index, the timebase, the LANE_FAULT causes, the other records and every binding stand. -/
structure Blocks.Reach (k : Slot) (b c : Blocks) : Prop where
  index : c.index = b.index
  timebase : c.timebase = b.timebase
  laneFault : c.laneFault = b.laneFault
  ctx_ne : ∀ j, j ≠ k → c.ctx j = b.ctx j
  binding : ∀ j, (c.ctx j).binding = (b.ctx j).binding

/-- As `Blocks.Reach`, the start window standing too. -/
structure Blocks.Local (k : Slot) (b c : Blocks) : Prop extends Blocks.Reach k b c where
  window : c.window = b.window

theorem Blocks.Reach.refl (k : Slot) (b : Blocks) : Blocks.Reach k b b := ⟨rfl, rfl, rfl, fun _ _ => rfl, fun _ => rfl⟩
theorem Blocks.Local.refl (k : Slot) (b : Blocks) : Blocks.Local k b b := ⟨Blocks.Reach.refl k b, rfl⟩

theorem Blocks.Reach.trans {k : Slot} {b c d : Blocks} (h : Blocks.Reach k b c) (g : Blocks.Reach k c d) :
    Blocks.Reach k b d :=
  ⟨g.index.trans h.index, g.timebase.trans h.timebase, g.laneFault.trans h.laneFault,
    fun j hj => (g.ctx_ne j hj).trans (h.ctx_ne j hj), fun j => (g.binding j).trans (h.binding j)⟩

theorem Blocks.Local.trans {k : Slot} {b c d : Blocks} (h : Blocks.Local k b c) (g : Blocks.Local k c d) :
    Blocks.Local k b d := ⟨h.toReach.trans g.toReach, g.window.trans h.window⟩

theorem Blocks.Reach.unitOf {k : Slot} {b c : Blocks} (h : Blocks.Reach k b c) (j : Slot) : c.unitOf j = b.unitOf j := by
  simp only [Blocks.unitOf, h.binding]

theorem Blocks.Reach.laneOf {k : Slot} {b c : Blocks} (h : Blocks.Reach k b c) (j : Slot) : c.laneOf j = b.laneOf j := by
  simp only [Blocks.laneOf, h.binding]

/-- The update count bears on none of them. -/
theorem Blocks.Reach.settled {k : Slot} {b c : Blocks} (a : Blocks) (h : Blocks.Reach k b c) :
    Blocks.Reach k b (a.settled c) := ⟨h.index, h.timebase, h.laneFault, h.ctx_ne, h.binding⟩

/-- An event that leaves every record and the four tables. -/
theorem Blocks.Reach.of_ctxs (k : Slot) {b c : Blocks} (hc : c.ctxs = b.ctxs) (hi : c.index = b.index)
    (ht : c.timebase = b.timebase) (hf : c.laneFault = b.laneFault) : Blocks.Reach k b c :=
  ⟨hi, ht, hf, fun j _ => by simp only [Blocks.ctx, hc], fun j => by simp only [Blocks.ctx, hc]⟩

theorem Blocks.Local.of_ctxs (k : Slot) {b c : Blocks} (hc : c.ctxs = b.ctxs) (hi : c.index = b.index)
    (ht : c.timebase = b.timebase) (hf : c.laneFault = b.laneFault) (hw : c.window = b.window) : Blocks.Local k b c :=
  ⟨Blocks.Reach.of_ctxs k hc hi ht hf, hw⟩

section
variable (b : Blocks) (k : Slot) (n : LaneId) (s : Slot)

theorem Blocks.local_modLane (f : Lane → Lane) : Blocks.Local k b (b.modLane n f) := .of_ctxs k rfl rfl rfl rfl rfl
theorem Blocks.local_send (f : PartFrame) : Blocks.Local k b (b.send n f) := .of_ctxs k rfl rfl rfl rfl rfl
theorem Blocks.local_sendDesel : Blocks.Local k b (b.sendDesel n) := .of_ctxs k rfl rfl rfl rfl rfl
theorem Blocks.local_serviceChoice : Blocks.Local k b (b.serviceChoice n) :=
  .of_ctxs k (by simp) (by simp) (by simp) (by simp) (by simp)
theorem Blocks.local_enterIdle : Blocks.Local k b (b.enterIdle n) :=
  .of_ctxs k (by simp) (by simp) (by simp) (by simp) (by simp)
theorem Blocks.local_appendReady : Blocks.Local k b (b.appendReady n s) :=
  .of_ctxs k (by simp) (by simp) (by simp) (by simp) (by simp)
theorem Blocks.local_appendHalt : Blocks.Local k b (b.appendHalt n s) :=
  .of_ctxs k (by simp) (by simp) (by simp) (by simp) (by simp)
theorem Blocks.local_dropFromLists : Blocks.Local k b (b.dropFromLists n s) := .of_ctxs k rfl rfl rfl rfl rfl
theorem Blocks.local_withdrawFetch : Blocks.Local k b (b.withdrawFetch s) :=
  .of_ctxs k (by simp) (by simp) (by simp) (by simp) (by simp)
theorem Blocks.local_appendLink : Blocks.Local k b (b.appendLink s) :=
  .of_ctxs k (by simp) (by simp) (by simp) (by simp) (by simp)
theorem Blocks.local_withdrawLane : Blocks.Local k b (b.withdrawLane n) := .of_ctxs k rfl rfl rfl rfl rfl
theorem Blocks.local_askLane (r : MemReq) : Blocks.Local k b (b.askLane n r) :=
  .of_ctxs k (by simp) (by simp) (by simp) (by simp) (by simp)
theorem Blocks.local_portNext : Blocks.Local k b b.portNext :=
  .of_ctxs k (by simp) (by simp) (by simp) (by simp) (by simp)
theorem Blocks.local_fetchBegin : Blocks.Local k b b.fetchBegin :=
  .of_ctxs k (by simp) (by simp) (by simp) (by simp) (by simp)

variable {b k}

theorem Blocks.local_modCtx (f : Context → Context) (hf : ∀ c, (f c).binding = c.binding) :
    Blocks.Local k b (b.modCtx k f) := by
  refine ⟨⟨rfl, rfl, rfl, fun j hj => b.modCtx_ctx_ne k j f hj, fun j => ?_⟩, rfl⟩
  by_cases hj : j = k
  · subst hj; rw [Blocks.modCtx_ctx_same, hf]
  · rw [b.modCtx_ctx_ne k j f hj]

theorem Blocks.local_setCtx (c : Context) (hc : c.binding = (b.ctx k).binding) : Blocks.Local k b (b.setCtx k c) := by
  refine ⟨⟨rfl, rfl, rfl, fun j hj => b.setCtx_ctx_ne k j c hj, fun j => ?_⟩, rfl⟩
  by_cases hj : j = k
  · subst hj; rw [Blocks.setCtx_ctx_same, hc]
  · rw [b.setCtx_ctx_ne k j c hj]

variable (b k)

theorem Blocks.local_endContext (named : List Named) : Blocks.Local k b (b.endContext k named) :=
  ⟨⟨by simp, by simp, by simp, fun j hj => b.endContext_ctx_ne k j named hj, fun j => by simp⟩, by simp⟩

/-- A note changes its record's pending note and the report queue alone. -/
theorem Blocks.postNoteEntry_spec : ∃ c q,
    b.postNoteEntry k = { b with ctxs := c, reports := { b.reports with queue := q } } := by
  unfold Blocks.postNoteEntry
  simp only
  split
  · exact ⟨_, _, rfl⟩
  · exact ⟨_, _, rfl⟩

theorem Blocks.postNoteEntry_ctx_ne (j : Slot) (hj : j ≠ k) : (b.postNoteEntry k).ctx j = b.ctx j := by
  unfold Blocks.postNoteEntry
  simp only
  split
  · exact b.setCtx_ctx_ne k j { b.ctx k with note := some (nextNote (b.ctx k).note (b.ctx k).chainAddr) } hj
  · rfl

theorem Blocks.local_postNoteEntry : Blocks.Local k b (b.postNoteEntry k) := by
  obtain ⟨c, q, h⟩ := b.postNoteEntry_spec k
  refine ⟨⟨by rw [h], by rw [h], by rw [h], b.postNoteEntry_ctx_ne k, fun j => ?_⟩, by rw [h]⟩
  obtain ⟨note, hj⟩ := b.postNoteEntry_ctx k j
  rw [hj]

end

/-! ### Lanes -/

/-- Every lane but `n` stands. -/
def Blocks.Apart (n : LaneId) (b c : Blocks) : Prop := ∀ m, m ≠ n → c.lane m = b.lane m

theorem Blocks.Apart.refl (n : LaneId) (b : Blocks) : Blocks.Apart n b b := fun _ _ => rfl

theorem Blocks.Apart.trans {n : LaneId} {b c d : Blocks} (h : Blocks.Apart n b c) (g : Blocks.Apart n c d) :
    Blocks.Apart n b d := fun m hm => (g m hm).trans (h m hm)

/-- An event that leaves every lane. -/
theorem Blocks.Apart.of_lanes (n : LaneId) {b c : Blocks} (h : ∀ m, c.lane m = b.lane m) : Blocks.Apart n b c :=
  fun m _ => h m

section
variable (b : Blocks) (n : LaneId) (s : Slot)

theorem Blocks.apart_modLane (f : Lane → Lane) : Blocks.Apart n b (b.modLane n f) := fun m => b.modLane_lane_ne n m f
theorem Blocks.apart_send (f : PartFrame) : Blocks.Apart n b (b.send n f) := fun m => b.modLane_lane_ne n m _
theorem Blocks.apart_serviceChoice : Blocks.Apart n b (b.serviceChoice n) := b.serviceChoice_lane_ne n
theorem Blocks.apart_enterIdle : Blocks.Apart n b (b.enterIdle n) := b.enterIdle_lane_ne n
theorem Blocks.apart_appendHalt : Blocks.Apart n b (b.appendHalt n s) := b.appendHalt_lane_ne n s
theorem Blocks.apart_endContext (named : List Named) (h : b.laneOf s = n) : Blocks.Apart n b (b.endContext s named) :=
  fun m hm => b.endContext_lane_ne s named m (h ▸ hm)

end

/-! ### The frames sent -/

/-- A frame waits only while another is on the wire or one is being received (logs 8 and 9). -/
def Lane.Driven (l : Lane) : Prop := l.rx.isAssembling = false → l.tx = none → l.txQueue = []

theorem Lane.drive_driven (l : Lane) : l.drive.Driven := by
  unfold Lane.drive
  split
  · split
    · rename_i hq; exact fun _ _ => hq
    · exact fun _ h => by cases h
  · rename_i h
    intro hr ht
    exact absurd (by rw [ht, hr]; rfl) h

/-- From lane `l` to lane `m` the frames `fs` have been sent, behind those that `l` had sent; when there are any, the first
of all those outgoing has gone out unless a reception holds it. -/
structure Lane.Sent (l m : Lane) (fs : List PartFrame) : Prop where
  outgoing : m.outgoing = l.outgoing ++ fs
  driven : fs ≠ [] ∨ l.Driven → m.Driven

/-- A change that does not touch the wire or the receiver sends nothing. -/
theorem Lane.Sent.of_wire {l m : Lane} (ht : m.tx = l.tx) (hq : m.txQueue = l.txQueue) (hr : m.rx = l.rx) :
    Lane.Sent l m [] := by
  constructor
  · simp [Lane.outgoing, ht, hq]
  · rintro (h | h)
    · exact absurd rfl h
    · intro h1 h2
      rw [hq]
      exact h (hr ▸ h1) (ht ▸ h2)

theorem Lane.Sent.refl (l : Lane) : Lane.Sent l l [] := .of_wire rfl rfl rfl

theorem Lane.Sent.of_eq {l m : Lane} (h : m = l) : Lane.Sent l m [] := h ▸ .refl _

theorem Lane.Sent.trans {l m k : Lane} {fs gs : List PartFrame} (h : Lane.Sent l m fs) (g : Lane.Sent m k gs) :
    Lane.Sent l k (fs ++ gs) := by
  refine ⟨by rw [g.outgoing, h.outgoing, List.append_assoc], fun hd => ?_⟩
  by_cases hg : gs = []
  · exact g.driven (Or.inr (h.driven (by simpa [hg] using hd)))
  · exact g.driven (Or.inl hg)

theorem Lane.sent_send (l : Lane) (f : PartFrame) : Lane.Sent l (l.send f) [f] :=
  ⟨l.send_outgoing f, fun _ => Lane.drive_driven _⟩

theorem Lane.sent_endReception (l : Lane) (rx : Receiver) : Lane.Sent l (l.endReception rx) [] :=
  ⟨by simp, fun _ => Lane.drive_driven _⟩

/-- A frame sent after a change that sends nothing. -/
theorem Lane.Sent.send {l m : Lane} (h : Lane.Sent l m []) (f : PartFrame) : Lane.Sent l (m.send f) [f] :=
  h.trans (m.sent_send f)

theorem Lane.sent_startPoll (l : Lane) : Lane.Sent l l.startPoll [.poll] := by
  simp only [Lane.startPoll]
  refine Lane.Sent.send ?_ _
  exact .of_wire rfl rfl rfl

theorem Lane.sent_startSelection (l : Lane) (s : Slot) (kind : ServiceKind) (u : UnitAddr) :
    Lane.Sent l (l.startSelection s kind u) [.sel u] := by
  simp only [Lane.startSelection]
  refine Lane.Sent.send ?_ _
  exact .of_wire rfl rfl rfl

/-- The service choice sends at most a frame of its own. -/
theorem Blocks.sent_serviceChoice (b : Blocks) (n : LaneId) :
    ∃ more, Lane.Sent (b.lane n) ((b.serviceChoice n).lane n) more := by
  rcases b.serviceChoice_lane_same n with e | e | ⟨s, k, e⟩ <;> rw [e]
  · exact ⟨[], .refl _⟩
  · exact ⟨[.poll], (b.lane n).sent_startPoll⟩
  · exact ⟨[.sel (b.unitOf s)], (b.lane n).sent_startSelection s k (b.unitOf s)⟩

theorem Blocks.sent_enterIdle (b : Blocks) (n : LaneId) :
    ∃ more, Lane.Sent (b.lane n) ((b.enterIdle n).lane n) more := by
  obtain ⟨more, h⟩ := (b.modLane n fun l => { l with state := .idle, timer := none }).sent_serviceChoice n
  refine ⟨[] ++ more, Lane.Sent.trans (.of_wire ?_ ?_ ?_) h⟩ <;> simp

/-! ### A lane after its service choice -/

/-- A service choice chooses a state and a service, and the rest of its lane stands. -/
theorem Blocks.serviceChoice_lane_spec (b : Blocks) (n : LaneId) : ∃ st sv at' mm pr tx q,
    (b.serviceChoice n).lane n =
      { b.lane n with
        state := st, served := sv, attempts := at', mismatch := mm, pollRun := pr, tx := tx, txQueue := q }
      ∧ (st = (b.lane n).state ∨ st = .polling ∨ st = .selecting) := by
  rcases b.serviceChoice_lane_same n with e | e | ⟨s, k, e⟩ <;> rw [e]
  · exact ⟨_, _, _, _, _, _, _, rfl, Or.inl rfl⟩
  · exact ⟨_, _, _, _, _, _, _, Lane.send_spec _ _, Or.inr (Or.inl rfl)⟩
  · exact ⟨_, _, _, _, _, _, _, Lane.send_spec _ _, Or.inr (Or.inr rfl)⟩

/-- A lane that enters L_IDLE. -/
theorem Blocks.enterIdle_lane_spec (b : Blocks) (n : LaneId) : ∃ st sv at' mm pr tx q,
    (b.enterIdle n).lane n =
      { b.lane n with
        state := st, served := sv, attempts := at', mismatch := mm, pollRun := pr, tx := tx, txQueue := q, timer := none }
      ∧ (st = .idle ∨ st = .polling ∨ st = .selecting) := by
  obtain ⟨st, sv, at', mm, pr, tx, q, h, hst⟩ :=
    (b.modLane n fun l => { l with state := .idle, timer := none }).serviceChoice_lane_spec n
  rw [Blocks.modLane_lane_same] at h hst
  exact ⟨st, sv, at', mm, pr, tx, q, h, hst⟩

end Sys2Proof.Machine

/-!
The course of a connection, operation by operation: write-back, the ending of the served context, its detaching, and what
the data pumps may change.
-/
namespace Sys2Proof.Machine

/-! ### The served context -/

section
variable (b : Blocks) (n : LaneId) (k : Slot)

theorem Blocks.servedUnit_eq (kind : ServiceKind) (h : (b.lane n).served = some ⟨k, kind⟩) :
    b.servedUnit n = b.unitOf k := by simp [Blocks.servedUnit, h]

theorem Lane.servedSlot_eq (l : Lane) (kind : ServiceKind) (h : l.served = some ⟨k, kind⟩) : l.servedSlot = some k := by
  simp [Lane.servedSlot, h]

theorem Blocks.writeBack_eq (h : (b.lane n).served = some ⟨k, .connection⟩) :
    b.writeBack n = b.modCtx k (·.writtenBack (b.lane n)) := by simp only [Blocks.writeBack, h]

/-- Write-back changes records alone. -/
theorem Blocks.writeBack_spec : ∃ c, b.writeBack n = { b with ctxs := c } := by
  unfold Blocks.writeBack
  split
  · exact ⟨_, rfl⟩
  all_goals exact ⟨_, rfl⟩

@[simp] theorem Blocks.writeBack_lane (m : LaneId) : (b.writeBack n).lane m = b.lane m := by
  obtain ⟨c, h⟩ := b.writeBack_spec n; rw [h]; rfl
@[simp] theorem Blocks.writeBack_reports : (b.writeBack n).reports = b.reports := by
  obtain ⟨c, h⟩ := b.writeBack_spec n; rw [h]
@[simp] theorem Blocks.writeBack_fetch : (b.writeBack n).fetch = b.fetch := by
  obtain ⟨c, h⟩ := b.writeBack_spec n; rw [h]
@[simp] theorem Blocks.writeBack_fetchQ : (b.writeBack n).fetchQ = b.fetchQ := by
  obtain ⟨c, h⟩ := b.writeBack_spec n; rw [h]
@[simp] theorem Blocks.writeBack_mem : (b.writeBack n).mem = b.mem := by
  obtain ⟨c, h⟩ := b.writeBack_spec n; rw [h]

theorem Blocks.takeStatus_eq (kind : ServiceKind) (status : Byte) (h : (b.lane n).served = some ⟨k, kind⟩) :
    b.takeStatus n status = b.modCtx k (·.takeStatus status) := by
  simp only [Blocks.takeStatus, Lane.servedSlot_eq k _ kind h]

theorem Blocks.addServedFlag_eq (kind : ServiceKind) (f : CtxFlags → CtxFlags)
    (h : (b.lane n).served = some ⟨k, kind⟩) :
    b.addServedFlag n f = b.modCtx k fun c => { c with flags := f c.flags } := by
  simp only [Blocks.addServedFlag, Lane.servedSlot_eq k _ kind h]

theorem Blocks.servedHalting_eq (kind : ServiceKind) (h : (b.lane n).served = some ⟨k, kind⟩) :
    b.servedHalting n = ((b.ctx k).state == .halting) := by
  simp only [Blocks.servedHalting, Lane.servedSlot_eq k _ kind h]

end

theorem Blocks.local_writtenBack (b : Blocks) (k : Slot) (l : Lane) : Blocks.Local k b (b.modCtx k (·.writtenBack l)) :=
  Blocks.local_modCtx (·.writtenBack l) fun _ => rfl

theorem Blocks.local_detached (b : Blocks) (k : Slot) (aw : Awaiting) : Blocks.Local k b (b.modCtx k (·.detached aw)) :=
  Blocks.local_modCtx (·.detached aw) fun c => (c.detached_moved aw).1

theorem Blocks.local_takeStatus (b : Blocks) (k : Slot) (status : Byte) :
    Blocks.Local k b (b.modCtx k (·.takeStatus status)) := Blocks.local_modCtx (·.takeStatus status) fun _ => rfl

/-! ### The ending of the served context -/

section
variable {b : Blocks} {n : LaneId} {k : Slot} (named : List Named) (h : (b.lane n).served = some ⟨k, .connection⟩)
include h

theorem Blocks.endServed_eq :
    b.endServed n named =
      (((b.modCtx k (·.writtenBack (b.lane n))).endContext k named).modLane n (·.release)).enterIdle n := by
  simp only [Blocks.endServed, Lane.servedSlot_eq k _ _ h, Blocks.writeBack_eq b n k h]

theorem Blocks.local_writeBack : Blocks.Local k b (b.writeBack n) := by
  rw [Blocks.writeBack_eq b n k h]
  exact b.local_writtenBack k _

theorem Blocks.local_endServed : Blocks.Local k b (b.endServed n named) := by
  rw [Blocks.endServed_eq named h]
  exact (((b.local_writtenBack k _).trans (Blocks.local_endContext _ _ _)).trans
    (Blocks.local_modLane _ _ _ _)).trans (Blocks.local_enterIdle _ _ _)

theorem Blocks.apart_endServed (hl : b.laneOf k = n) : Blocks.Apart n b (b.endServed n named) := by
  rw [Blocks.endServed_eq named h]
  have h1 : Blocks.Apart n b (b.modCtx k (·.writtenBack (b.lane n))) := .of_lanes n fun _ => rfl
  have hl' : (b.modCtx k (·.writtenBack (b.lane n))).laneOf k = n := by
    rw [(b.local_writtenBack k (b.lane n)).toReach.laneOf, hl]
  exact ((h1.trans (Blocks.apart_endContext _ _ _ _ hl')).trans (Blocks.apart_modLane _ _ _)).trans
    (Blocks.apart_enterIdle _ _)

/-- The ended context is REPORTED, its live fields written back. -/
theorem Blocks.endServed_ctx (hf : (b.ctx k).state ≠ .free) :
    (b.endServed n named).ctx k = ((b.ctx k).writtenBack (b.lane n)).toReported k named := by
  rw [Blocks.endServed_eq named h, Blocks.enterIdle_ctx, Blocks.modLane_ctx, Blocks.endContext_ctx_same]
  · rw [Blocks.modCtx_ctx_same]
  · rw [Blocks.modCtx_ctx_same]; exact hf

theorem Blocks.endServed_queue (hf : (b.ctx k).state ≠ .free) :
    (b.endServed n named).reports.queue = postFinalEntry b.reports.queue k := by
  rw [Blocks.endServed_eq named h, Blocks.enterIdle_reports, Blocks.modLane_reports, Blocks.endContext_queue]
  · rfl
  · rw [Blocks.modCtx_ctx_same]; exact hf

/-- Its lane is free again: no frame but that of the service choice is sent, and the memory request stands. -/
theorem Blocks.endServed_lane : (∃ more, Lane.Sent (b.lane n) ((b.endServed n named).lane n) more)
    ∧ ((b.endServed n named).lane n).memReq = (b.lane n).memReq
    ∧ ((b.endServed n named).lane n).state ≠ .fault := by
  rw [Blocks.endServed_eq named h]
  have hlists := (b.modCtx k (·.writtenBack (b.lane n))).endContext_lane_lists k named n
  generalize hc : ((b.modCtx k (·.writtenBack (b.lane n))).endContext k named).modLane n (·.release) = c
  have hl : c.lane n = (((b.modCtx k (·.writtenBack (b.lane n))).endContext k named).lane n).release := by
    rw [← hc, Blocks.modLane_lane_same]
  rw [hlists, Blocks.modCtx_lane] at hl
  obtain ⟨more, hsent⟩ := c.sent_enterIdle n
  obtain ⟨st, sv, at', mm, pr, tx, q, he, hst⟩ := c.enterIdle_lane_spec n
  refine ⟨⟨[] ++ more, Lane.Sent.trans (.of_wire ?_ ?_ ?_) hsent⟩, ?_, ?_⟩
  · rw [hl]; rfl
  · rw [hl]; rfl
  · rw [hl]; rfl
  · rw [he, hl]; rfl
  · rw [he]; rcases hst with rfl | rfl | rfl <;> exact nofun

end

/-! ### A detach -/

section
variable {b : Blocks} {n : LaneId} {k : Slot} (aw : Awaiting) (h : (b.lane n).served = some ⟨k, .connection⟩)
include h

/-- The blocks of a detach before the lane is released: write-back, DESEL, and the record's new state. -/
theorem Blocks.detachContext_eq : ∃ b1, b1 =
      ((b.modCtx k (·.writtenBack (b.lane n))).send n (.desel (b.unitOf k))).modCtx k (·.detached aw)
    ∧ b.detachContext n aw = (b1.modLane n fun l =>
        if (b1.ctx k).state = .halting then { l.release with haltList := l.release.haltList ++ [k] } else l.release).enterIdle n := by
  have hu : (b.writeBack n).servedUnit n = b.unitOf k := by
    rw [Blocks.servedUnit_eq _ n k .connection (by rw [Blocks.writeBack_lane]; exact h),
      (Blocks.local_writeBack h).toReach.unitOf]
  refine ⟨_, rfl, ?_⟩
  simp only [Blocks.detachContext, Lane.servedSlot_eq k _ _ h, Blocks.sendDesel, hu]
  rw [Blocks.writeBack_eq b n k h]

theorem Blocks.local_detachContext : Blocks.Local k b (b.detachContext n aw) := by
  obtain ⟨b1, hb1, he⟩ := Blocks.detachContext_eq aw h
  rw [he]
  have h1 : Blocks.Local k b b1 := by
    rw [hb1]
    exact ((b.local_writtenBack k _).trans (Blocks.local_send _ _ _ _)).trans (Blocks.local_detached _ k aw)
  exact (h1.trans (Blocks.local_modLane _ _ _ _)).trans (Blocks.local_enterIdle _ _ _)

theorem Blocks.apart_detachContext : Blocks.Apart n b (b.detachContext n aw) := by
  obtain ⟨b1, hb1, he⟩ := Blocks.detachContext_eq aw h
  rw [he]
  have h1 : Blocks.Apart n b b1 := by
    rw [hb1]
    exact ((Blocks.Apart.of_lanes n fun _ => rfl).trans (Blocks.apart_send _ n _)).trans (.of_lanes n fun _ => rfl)
  exact (h1.trans (Blocks.apart_modLane _ _ _)).trans (Blocks.apart_enterIdle _ _)

theorem Blocks.detachContext_ctx :
    (b.detachContext n aw).ctx k = ((b.ctx k).writtenBack (b.lane n)).detached aw := by
  obtain ⟨b1, hb1, he⟩ := Blocks.detachContext_eq aw h
  rw [he, Blocks.enterIdle_ctx, Blocks.modLane_ctx, hb1]
  simp

/-- DESEL goes first; the memory request stands, and a HALTING context joins the halt list. -/
theorem Blocks.detachContext_lane :
    (∃ more, Lane.Sent (b.lane n) ((b.detachContext n aw).lane n) (.desel (b.unitOf k) :: more))
      ∧ ((b.detachContext n aw).lane n).memReq = (b.lane n).memReq
      ∧ ((b.ctx k).state = .halting →
          ((b.detachContext n aw).lane n).haltList = (b.lane n).haltList ++ [k]) := by
  obtain ⟨b1, hb1, he⟩ := Blocks.detachContext_eq aw h
  rw [he]
  have hb1l : b1.lane n = (b.lane n).send (.desel (b.unitOf k)) := by rw [hb1]; simp
  have hb1s : (b.ctx k).state = .halting → (b1.ctx k).state = .halting := by
    intro hs
    rw [hb1]
    simp [Context.detached, Context.writtenBack, hs]
  generalize hc : b1.modLane n _ = c
  have hl : c.lane n = if (b1.ctx k).state = .halting then
      { (b1.lane n).release with haltList := (b1.lane n).haltList ++ [k] } else (b1.lane n).release := by
    rw [← hc, Blocks.modLane_lane_same]; rfl
  obtain ⟨more, hsent⟩ := c.sent_enterIdle n
  obtain ⟨st, sv, at', mm, pr, tx, q, hlane, hst⟩ := c.enterIdle_lane_spec n
  refine ⟨⟨more, ?_⟩, ?_, fun hs => ?_⟩
  · have h1 : Lane.Sent (b1.lane n) (c.lane n) [] := by
      rw [hl]
      split
      · exact .of_wire rfl rfl rfl
      · exact .of_wire rfl rfl rfl
    exact ((hb1l ▸ Lane.sent_send _ _).trans h1).trans hsent
  · rw [hlane, hl]
    split <;> simp [hb1l, Lane.release]
  · rw [hlane, hl, if_pos (hb1s hs)]
    simp [hb1l]

end

/-! ### What the data pumps may change -/

/-- From `b` to `c` only the memory port, and lane `n`'s memory request, staging and staging address, may have changed. -/
structure Blocks.MemOnly (n : LaneId) (b c : Blocks) : Prop where
  ctxs : c.ctxs = b.ctxs
  index : c.index = b.index
  fetchQ : c.fetchQ = b.fetchQ
  fetch : c.fetch = b.fetch
  window : c.window = b.window
  reports : c.reports = b.reports
  timebase : c.timebase = b.timebase
  laneFault : c.laneFault = b.laneFault
  apart : Blocks.Apart n b c
  lane : ∃ mr sa st, c.lane n = { b.lane n with memReq := mr, stagingAddr := sa, staging := st }

/-- As `Blocks.MemOnly`; besides, the lane may have sent a DOUT or a GRANT. -/
structure Blocks.Pumped (n : LaneId) (b c : Blocks) : Prop where
  ctxs : c.ctxs = b.ctxs
  index : c.index = b.index
  fetchQ : c.fetchQ = b.fetchQ
  fetch : c.fetch = b.fetch
  window : c.window = b.window
  reports : c.reports = b.reports
  timebase : c.timebase = b.timebase
  laneFault : c.laneFault = b.laneFault
  apart : Blocks.Apart n b c
  lane : ∃ mr sa st cr hn tx q, c.lane n =
    { b.lane n with
      memReq := mr, stagingAddr := sa, staging := st, credit := cr, heldNeed := hn, tx := tx, txQueue := q }

theorem Blocks.MemOnly.refl (n : LaneId) (b : Blocks) : Blocks.MemOnly n b b :=
  ⟨rfl, rfl, rfl, rfl, rfl, rfl, rfl, rfl, .refl n b, _, _, _, rfl⟩

theorem Blocks.MemOnly.pumped {n : LaneId} {b c : Blocks} (h : Blocks.MemOnly n b c) : Blocks.Pumped n b c := by
  obtain ⟨mr, sa, st, hl⟩ := h.lane
  exact ⟨h.ctxs, h.index, h.fetchQ, h.fetch, h.window, h.reports, h.timebase, h.laneFault, h.apart,
    mr, sa, st, _, _, _, _, hl⟩

theorem Blocks.MemOnly.trans {n : LaneId} {b c d : Blocks} (h : Blocks.MemOnly n b c) (g : Blocks.MemOnly n c d) :
    Blocks.MemOnly n b d := by
  obtain ⟨mr, sa, st, hl⟩ := h.lane
  obtain ⟨mr', sa', st', gl⟩ := g.lane
  exact ⟨g.ctxs.trans h.ctxs, g.index.trans h.index, g.fetchQ.trans h.fetchQ, g.fetch.trans h.fetch,
    g.window.trans h.window, g.reports.trans h.reports, g.timebase.trans h.timebase, g.laneFault.trans h.laneFault,
    h.apart.trans g.apart, mr', sa', st', by rw [gl, hl]⟩

theorem Blocks.Pumped.refl (n : LaneId) (b : Blocks) : Blocks.Pumped n b b := (Blocks.MemOnly.refl n b).pumped

theorem Blocks.Pumped.trans {n : LaneId} {b c d : Blocks} (h : Blocks.Pumped n b c) (g : Blocks.Pumped n c d) :
    Blocks.Pumped n b d := by
  obtain ⟨mr, sa, st, cr, hn, tx, q, hl⟩ := h.lane
  obtain ⟨mr', sa', st', cr', hn', tx', q', gl⟩ := g.lane
  exact ⟨g.ctxs.trans h.ctxs, g.index.trans h.index, g.fetchQ.trans h.fetchQ, g.fetch.trans h.fetch,
    g.window.trans h.window, g.reports.trans h.reports, g.timebase.trans h.timebase, g.laneFault.trans h.laneFault,
    h.apart.trans g.apart, mr', sa', st', cr', hn', tx', q', by rw [gl, hl]⟩

theorem Blocks.Pumped.toLocal {n : LaneId} {b c : Blocks} (k : Slot) (h : Blocks.Pumped n b c) : Blocks.Local k b c :=
  .of_ctxs k h.ctxs h.index h.timebase h.laneFault h.window

theorem Blocks.MemOnly.toLocal {n : LaneId} {b c : Blocks} (k : Slot) (h : Blocks.MemOnly n b c) : Blocks.Local k b c :=
  h.pumped.toLocal k

/-- Asking the memory port sends nothing. -/
theorem Blocks.MemOnly.sent {n : LaneId} {b c : Blocks} (h : Blocks.MemOnly n b c) :
    Lane.Sent (b.lane n) (c.lane n) [] := by
  obtain ⟨mr, sa, st, hl⟩ := h.lane
  exact .of_wire (by rw [hl]) (by rw [hl]) (by rw [hl])

section
variable (b : Blocks) (n : LaneId)

theorem Blocks.memOnly_askLane (r : MemReq) (f : Lane → Lane)
    (hf : ∃ mr sa st, f (b.lane n) = { b.lane n with memReq := mr, stagingAddr := sa, staging := st }) :
    Blocks.MemOnly n b ((b.modLane n f).askLane n r) := by
  refine ⟨by simp, by simp, by simp, by simp, by simp, by simp, by simp, by simp, fun m hm => ?_, ?_⟩
  · rw [Blocks.askLane_lane, Blocks.modLane_lane_ne _ _ _ _ hm]
  · rw [Blocks.askLane_lane, Blocks.modLane_lane_same]; exact hf

theorem Blocks.memOnly_askRead : Blocks.MemOnly n b (b.askRead n) := by
  unfold Blocks.askRead
  simp only
  split
  · exact b.memOnly_askLane n _ _ ⟨_, _, _, rfl⟩
  · exact .refl n b

theorem Blocks.memOnly_askWrite : Blocks.MemOnly n b (b.askWrite n) := by
  unfold Blocks.askWrite
  simp only
  split
  · exact b.memOnly_askLane n _ _ ⟨_, _, _, rfl⟩
  · exact .refl n b

theorem Blocks.pumped_send (f : PartFrame) (g : Lane → Lane)
    (hg : ∃ cr hn, g (b.lane n) = { b.lane n with credit := cr, heldNeed := hn }) :
    Blocks.Pumped n b ((b.modLane n g).send n f) := by
  obtain ⟨cr, hn, hg⟩ := hg
  refine ⟨rfl, rfl, rfl, rfl, rfl, rfl, rfl, rfl, fun m hm => ?_, ?_⟩
  · rw [Blocks.send_lane_ne _ _ _ _ hm, Blocks.modLane_lane_ne _ _ _ _ hm]
  · rw [Blocks.send_lane_same, Blocks.modLane_lane_same, hg, Lane.send_spec]
    exact ⟨_, _, _, _, _, _, _, rfl⟩

theorem Blocks.pumped_sendDout : Blocks.Pumped n b (b.sendDout n) := by
  unfold Blocks.sendDout
  simp only
  split
  · have hself : b.modLane n id = b := b.setLane_self n
    have := b.pumped_send n (.dout (b.servedUnit n) (b.lane n).outToggle
      (((b.lane n).staging.get (b.lane n).staging.drain).take 16)) id ⟨_, _, rfl⟩
    rwa [hself] at this
  · exact .refl n b

theorem Blocks.pumped_sendGrant : Blocks.Pumped n b (b.sendGrant n) := by
  unfold Blocks.sendGrant
  simp only
  split
  · exact b.pumped_send n _ _ ⟨_, _, rfl⟩
  · exact .refl n b

/-- Something holds DOUT and GRANT back: a frame on the wire or being received, or the halt notice (R75, R107, R168). -/
def Lane.heldBack (l : Lane) : Prop := l.tx ≠ none ∨ l.rx.isAssembling = true ∨ l.haltNotice = true

theorem Blocks.sendDout_heldBack (h : (b.lane n).heldBack) : b.sendDout n = b := by
  refine if_neg fun hc => ?_
  obtain ⟨-, ht, hr, hh, -⟩ := hc
  rcases h with h | h | h
  · exact h (Option.isNone_iff_eq_none.mp ht)
  · rw [h] at hr; cases hr
  · rw [h] at hh; cases hh

theorem Blocks.sendGrant_heldBack (h : (b.lane n).heldBack) : b.sendGrant n = b := by
  refine if_neg fun hc => ?_
  simp only [Lane.mayGrant, Bool.and_eq_true, Bool.not_eq_true', Option.isNone_iff_eq_none] at hc
  obtain ⟨⟨⟨-, hr⟩, ht⟩, hh⟩ := hc
  rcases h with h | h | h
  · exact h ht
  · rw [h] at hr; cases hr
  · rw [h] at hh; cases hh

/-- In L_TRANSFER the pumps do no more than ask the memory port and send. -/
theorem Blocks.pumped_transfer (h : (b.lane n).state = .transfer) : Blocks.Pumped n b (b.pump n) := by
  cases hd : (b.lane n).dir with
  | outbound => rw [b.pump_outbound n h hd]; exact (b.pumped_sendDout n).trans (Blocks.memOnly_askRead _ n).pumped
  | inbound => rw [b.pump_inbound n h hd]; exact (b.memOnly_askWrite n).pumped.trans (Blocks.pumped_sendGrant _ n)
  | noData => rw [b.pump_noData n h hd]; exact .refl n b

/-- With something to hold the frames back they only ask the memory port. -/
theorem Blocks.memOnly_transfer (h : (b.lane n).state = .transfer) (hh : (b.lane n).heldBack) :
    Blocks.MemOnly n b (b.pump n) := by
  cases hd : (b.lane n).dir with
  | outbound => rw [b.pump_outbound n h hd, b.sendDout_heldBack n hh]; exact b.memOnly_askRead n
  | inbound =>
    have ha := b.memOnly_askWrite n
    rw [b.pump_inbound n h hd, Blocks.sendGrant_heldBack]
    · exact ha
    · obtain ⟨mr, sa, st, hl⟩ := ha.lane
      rw [hl]
      exact hh
  | noData => rw [b.pump_noData n h hd]; exact .refl n b

/-- In L_ENDING awaiting END staged bytes go on being written (log 20). -/
theorem Blocks.memOnly_ending (h : (b.lane n).state = .ending) (hc : (b.lane n).closing = none ∨ (b.lane n).memReq ≠ none) :
    Blocks.MemOnly n b (b.pump n) := by
  have hp : b.pump n = b.askWrite n := by
    simp only [Blocks.pump, h]
    refine if_neg fun hx => ?_
    simp only [Bool.and_eq_true, Option.isNone_iff_eq_none, Option.isSome_iff_ne_none] at hx
    rcases hc with hc | hc
    · exact hx.1.1 hc
    · exact hc hx.1.2
  rw [hp]
  exact b.memOnly_askWrite n

/-- A closing whose memory request is outstanding waits for it. -/
theorem Blocks.pump_ending_outstanding (h : (b.lane n).state = .ending) (hm : (b.lane n).memReq ≠ none) :
    b.pump n = b := by
  have hnone : (b.lane n).memReq.isNone = false := Option.isNone_eq_false_iff.mpr (Option.isSome_iff_ne_none.mpr hm)
  simp [Blocks.pump, h, Blocks.askWrite, hnone]

/-- So does an abort. -/
theorem Blocks.pump_aborting_outstanding (h : (b.lane n).state = .aborting) (hm : (b.lane n).memReq ≠ none) :
    b.pump n = b := by
  simp only [Blocks.pump, h, Option.isNone_iff_eq_none, hm, if_false]

end

end Sys2Proof.Machine

/-!
Giving up a claim on the fetcher (R73), dropping memory work, and the ABORT (R120 to R122, R168).
-/
namespace Sys2Proof.Machine

/-! ### The fetcher -/

/-- An idle fetcher takes the head of the queue (R68). -/
theorem Blocks.fetchBegin_idle (b : Blocks) (e : FetchEntry) (rest : List FetchEntry) (hf : b.fetch = none)
    (hq : b.fetchQ = e :: rest) :
    b.fetchBegin = Blocks.askFetcher
      { b with
        fetchQ := rest
        fetch := some ⟨e.slot, e.cls, firstReadAddr e.cls (b.ctx e.slot).chainAddr, 0, false⟩ }
      (firstReadAddr e.cls (b.ctx e.slot).chainAddr) := by
  simp only [Blocks.fetchBegin, hf, hq]

/-- The blocks at which a fetch of slot `k` whose read waited has ended, before the fetcher begins its next (R73). -/
def Blocks.fetchEnded (b : Blocks) (k : Slot) : Blocks := { (b.dropFetchEntry k).withdrawFetcher with fetch := none }

section
variable (b : Blocks) (k : Slot)

theorem Blocks.withdrawFetch_other (h : ∀ f, b.fetch = some f → f.slot ≠ k) :
    b.withdrawFetch k = b.dropFetchEntry k := by
  simp only [Blocks.withdrawFetch]
  split
  · rfl
  · rename_i f hf
    exact if_neg (h f hf)

theorem Blocks.withdrawFetch_granted (f : Fetch) (hf : b.fetch = some f) (hk : f.slot = k) (hm : b.mem.fetchReq = none) :
    b.withdrawFetch k = { b.dropFetchEntry k with fetch := some { f with discard := true } } := by
  simp [Blocks.withdrawFetch, Blocks.dropFetchEntry, hf, hk, hm]

theorem Blocks.withdrawFetch_waiting (f : Fetch) (hf : b.fetch = some f) (hk : f.slot = k) (hm : b.mem.fetchReq ≠ none) :
    b.withdrawFetch k = (b.fetchEnded k).fetchBegin := by
  have hs : b.mem.fetchReq.isSome = true := Option.isSome_iff_ne_none.mpr hm
  simp [Blocks.withdrawFetch, Blocks.fetchEnded, Blocks.dropFetchEntry, hf, hk, hs]

/-- The slot has no entry in the fetch queue, and its fetch, if one is in progress, is a granted read marked for discard. -/
def Blocks.noClaim : Prop :=
  (∀ e ∈ b.fetchQ, e.slot ≠ k) ∧ ∀ f, b.fetch = some f → f.slot = k → f.discard = true ∧ b.mem.fetchReq = none

theorem Blocks.dropFetchEntry_slots : ∀ e ∈ (b.dropFetchEntry k).fetchQ, e.slot ≠ k := by
  intro e he
  simpa using (List.mem_filter.mp he).2

theorem Blocks.withdrawFetch_noClaim : (b.withdrawFetch k).noClaim k := by
  have hq := b.dropFetchEntry_slots k
  by_cases hother : ∀ f, b.fetch = some f → f.slot ≠ k
  · rw [b.withdrawFetch_other k hother]
    exact ⟨hq, fun f hf hk => absurd hk (hother f hf)⟩
  · push Not at hother
    obtain ⟨f, hf, hk⟩ := hother
    by_cases hm : b.mem.fetchReq = none
    · rw [b.withdrawFetch_granted k f hf hk hm]
      refine ⟨hq, fun g hg _ => ?_⟩
      obtain rfl := Option.some.inj hg
      exact ⟨rfl, hm⟩
    · rw [b.withdrawFetch_waiting k f hf hk hm]
      cases hqe : (b.dropFetchEntry k).fetchQ with
      | nil =>
        rw [Blocks.fetchBegin_empty (b.fetchEnded k) hqe]
        exact ⟨hq, fun g hg => by cases hg⟩
      | cons e rest =>
        rw [Blocks.fetchBegin_idle (b.fetchEnded k) e rest rfl hqe]
        have hmem : ∀ x, x = e ∨ x ∈ rest → x.slot ≠ k := fun x hx => hq x (by rw [hqe]; simpa using hx)
        constructor
        · intro x hx
          rw [Blocks.askFetcher_fetchQ] at hx
          exact hmem x (Or.inr hx)
        · intro g hg hgk
          rw [Blocks.askFetcher_fetch] at hg
          obtain rfl := Option.some.inj hg
          exact absurd hgk (hmem e (Or.inl rfl))

/-- What has been given up is not given up again. -/
theorem Blocks.withdrawFetch_of_noClaim (h : b.noClaim k) : b.withdrawFetch k = b := by
  obtain ⟨hq, hf⟩ := h
  have hd : b.dropFetchEntry k = b := by
    have : b.fetchQ.filter (fun e => e.slot != k) = b.fetchQ := List.filter_eq_self.mpr (by simpa using hq)
    simp only [Blocks.dropFetchEntry, this]
  by_cases hother : ∀ f, b.fetch = some f → f.slot ≠ k
  · rw [b.withdrawFetch_other k hother, hd]
  · push Not at hother
    obtain ⟨f, hfe, hk⟩ := hother
    obtain ⟨hdis, hm⟩ := hf f hfe hk
    have hself : { f with discard := true } = f := by rw [← hdis]
    rw [b.withdrawFetch_granted k f hfe hk hm, hd, hself, ← hfe]

theorem Blocks.endContext_noClaim (named : List Named) (h : b.noClaim k) :
    (b.endContext k named).fetch = b.fetch ∧ (b.endContext k named).fetchQ = b.fetchQ
      ∧ (b.endContext k named).mem = b.mem := by
  have hw : (b.dropFromLists (b.laneOf k) k).withdrawFetch k = b.dropFromLists (b.laneOf k) k :=
    Blocks.withdrawFetch_of_noClaim _ _ h
  obtain ⟨c, q, hp⟩ := (b.dropFromLists (b.laneOf k) k).postFinal_spec k named
  simp only [Blocks.endContext, hw, hp]
  exact ⟨rfl, rfl, rfl⟩

theorem Blocks.endServed_noClaim (n : LaneId) (named : List Named) (hs : (b.lane n).served = some ⟨k, .connection⟩)
    (h : b.noClaim k) :
    (b.endServed n named).fetch = b.fetch ∧ (b.endServed n named).fetchQ = b.fetchQ
      ∧ (b.endServed n named).mem = b.mem := by
  obtain ⟨h1, h2, h3⟩ := (b.modCtx k (·.writtenBack (b.lane n))).endContext_noClaim k named h
  rw [Blocks.endServed_eq named hs]
  exact ⟨by simpa using h1, by simpa using h2, by simpa using h3⟩

/-- A decision grants, and so empties, waiting places; it fills none. -/
theorem Blocks.portDecision_laneReq_none (n : LaneId) (h : b.mem.laneReq n = none) :
    b.portDecision.mem.laneReq n = none := by
  have hgrant : ∀ m r, (b.grantLane m r).mem.laneReq n = none := by
    intro m r
    by_cases hm : n = m
    · subst hm; exact vector_get_set_same _ _ _
    · exact (vector_get_set_ne _ _ _ _ hm).trans h
  unfold Blocks.portDecision
  split
  · exact h
  · split
    · exact h
    · exact h
    · split
      · exact h
      · split
        · exact hgrant _ _
        · exact h
    · split
      · exact hgrant _ _
      · exact h

theorem Blocks.fetchBegin_laneReq_none (n : LaneId) (h : b.mem.laneReq n = none) :
    b.fetchBegin.mem.laneReq n = none := by
  unfold Blocks.fetchBegin
  split
  · exact Blocks.portDecision_laneReq_none _ n h
  · exact h

theorem Blocks.withdrawFetch_laneReq_none (n : LaneId) (h : b.mem.laneReq n = none) :
    (b.withdrawFetch k).mem.laneReq n = none := by
  simp only [Blocks.withdrawFetch]
  split
  · exact h
  · split
    · split
      · exact Blocks.fetchBegin_laneReq_none _ n h
      · exact h
    · exact h

/-- While a transaction is in flight the lanes' waiting places stand. -/
theorem Blocks.fetchBegin_laneReqs (h : b.mem.inflight ≠ none) : b.fetchBegin.mem.laneReqs = b.mem.laneReqs := by
  unfold Blocks.fetchBegin
  split
  · simp only [Blocks.askFetcher]
    rw [Blocks.portDecision_busy]
    exact h
  · rfl

theorem Blocks.withdrawFetch_laneReqs (h : b.mem.inflight ≠ none) :
    (b.withdrawFetch k).mem.laneReqs = b.mem.laneReqs := by
  simp only [Blocks.withdrawFetch]
  split
  · rfl
  · split
    · split
      · exact Blocks.fetchBegin_laneReqs _ h
      · rfl
    · rfl

end

/-! ### Dropping memory work -/

section
variable (b : Blocks) (n : LaneId)

theorem Blocks.memOnly_dropRead : Blocks.MemOnly n b (b.dropRead n) := by
  unfold Blocks.dropRead
  split
  · split
    · exact .refl n b
    · split
      · refine ⟨rfl, rfl, rfl, rfl, rfl, rfl, rfl, rfl, fun m hm => ?_, ?_⟩
        · exact Blocks.modLane_lane_ne _ n m _ hm
        · rw [Blocks.modLane_lane_same]; exact ⟨_, _, _, rfl⟩
      · refine ⟨rfl, rfl, rfl, rfl, rfl, rfl, rfl, rfl, fun m hm => ?_, ?_⟩
        · exact Blocks.modLane_lane_ne _ n m _ hm
        · rw [Blocks.modLane_lane_same]; exact ⟨_, _, _, rfl⟩
  · exact .refl n b

theorem Blocks.memOnly_dropWrite : Blocks.MemOnly n b (b.dropWrite n) := by
  unfold Blocks.dropWrite
  split
  · split
    · refine ⟨rfl, rfl, rfl, rfl, rfl, rfl, rfl, rfl, fun m hm => ?_, ?_⟩
      · exact Blocks.modLane_lane_ne _ n m _ hm
      · rw [Blocks.modLane_lane_same]; exact ⟨_, _, _, rfl⟩
    · exact .refl n b
  · exact .refl n b

theorem Blocks.dropRead_none (h : (b.lane n).memReq = none) : b.dropRead n = b := by
  simp only [Blocks.dropRead, h]

theorem Blocks.dropWrite_none (h : (b.lane n).memReq = none) : b.dropWrite n = b := by
  simp only [Blocks.dropWrite, h]

variable (m : LaneMem) (h : (b.lane n).memReq = some m)
include h

/-- A write, or a read whose data is discarded already, is not dropped. -/
theorem Blocks.dropRead_kept (hm : m.write = true ∨ m.discard = true) : b.dropRead n = b := by
  have hc : (m.write || m.discard) = true := by simpa using hm
  simp only [Blocks.dropRead, h, hc, if_true]

theorem Blocks.dropRead_waiting (hm : m.write = false) (hd : m.discard = false) (hq : b.mem.laneReq n ≠ none) :
    b.dropRead n = (b.withdrawLane n).modLane n fun l =>
      { l with memReq := none, stagingAddr := l.stagingAddr - m.len, staging := { l.staging with fill := m.half } } := by
  simp only [Blocks.dropRead, h, hm, hd, Bool.or_self, Bool.false_eq_true, if_false,
    Option.isSome_iff_ne_none.mpr hq, if_true]

theorem Blocks.dropRead_granted (hm : m.write = false) (hd : m.discard = false) (hq : b.mem.laneReq n = none) :
    b.dropRead n = b.modLane n fun l => { l with memReq := some { m with discard := true } } := by
  simp only [Blocks.dropRead, h, hm, hd, hq, Bool.or_self, Bool.false_eq_true, if_false, Option.isSome_none]

theorem Blocks.dropWrite_kept (hm : m.write = false ∨ b.mem.laneReq n = none) : b.dropWrite n = b := by
  simp only [Blocks.dropWrite, h]
  refine if_neg fun hc => ?_
  obtain ⟨hw, hq⟩ := Bool.and_eq_true_iff.mp hc
  rcases hm with hm | hm
  · rw [hm] at hw; cases hw
  · rw [hm] at hq; cases hq

theorem Blocks.dropWrite_waiting (hm : m.write = true) (hq : b.mem.laneReq n ≠ none) :
    b.dropWrite n = (b.withdrawLane n).modLane n (·.memDone) := by
  simp only [Blocks.dropWrite, h, hm, Option.isSome_iff_ne_none.mpr hq, Bool.and_self, if_true]

end

/-! ### ABORT -/

/-- The lane's own items as it enters L_ABORTING. -/
def Lane.aborted (l : Lane) (cause : AbortCause) : Lane :=
  { l.keepWriteOnly with
    state := .aborting, abortCause := some cause, abortPhase := .awaiting, abortFault := none, closing := none
    credit := [], heldNeed := none, doutOwed := 0, timer := none }

/-- The withdrawals before an ABORT: the place in the permit queue, the claim on the fetcher, the memory work. -/
def Blocks.abortDrops (b : Blocks) (n : LaneId) (k : Slot) (cause : AbortCause) : Blocks :=
  let b1 := ((b.leavePermit n).withdrawFetch k).dropRead n
  if cause.dropsWrite then b1.dropWrite n else b1

theorem Lane.keepWriteOnly_spec (l : Lane) : ∃ st, l.keepWriteOnly = { l with staging := st } := by
  unfold Lane.keepWriteOnly
  split
  · split
    · exact ⟨_, rfl⟩
    · exact ⟨_, rfl⟩
  · exact ⟨_, rfl⟩

theorem Lane.aborted_spec (l : Lane) (cause : AbortCause) : ∃ st, l.aborted cause =
    { l with
      staging := st, state := .aborting, abortCause := some cause, abortPhase := .awaiting, abortFault := none
      closing := none, credit := [], heldNeed := none, doutOwed := 0, timer := none } := by
  obtain ⟨st, h⟩ := l.keepWriteOnly_spec
  exact ⟨st, by rw [Lane.aborted, h]⟩

theorem Staging.get_empty (h : Half) : Staging.empty.get h = [] := by cases h <;> rfl

theorem Staging.only_get_same (st : Staging) (h : Half) : (st.only h).get h = st.get h := by cases h <;> rfl

theorem Staging.only_get_other (st : Staging) (h : Half) : (st.only h).get h.other = [] := by cases h <;> rfl

/-- With no write to keep nothing staged is kept. -/
theorem Lane.aborted_staging_empty (l : Lane) (cause : AbortCause)
    (hm : ∀ m, l.memReq = some m → m.write = false ∨ m.discard = true) : (l.aborted cause).staging = .empty := by
  simp only [Lane.aborted, Lane.keepWriteOnly]
  split
  · rename_i m hl
    have hc : (m.write && !m.discard) = false := by rcases hm m hl with h | h <;> simp [h]
    simp [hc]
  · rfl

theorem Lane.aborted_staging_kept (l : Lane) (cause : AbortCause) (m : LaneMem) (hl : l.memReq = some m)
    (hw : m.write = true) (hd : m.discard = false) : (l.aborted cause).staging = l.staging.only m.half := by
  simp [Lane.aborted, Lane.keepWriteOnly, hl, hw, hd]

section
variable (b : Blocks) (n : LaneId) (k : Slot) (cause : AbortCause)

/-- After the claims on the window and the fetcher only memory work is dropped. -/
theorem Blocks.memOnly_abortDrops :
    Blocks.MemOnly n ((b.leavePermit n).withdrawFetch k) (b.abortDrops n k cause) := by
  unfold Blocks.abortDrops
  simp only
  split
  · exact (Blocks.memOnly_dropRead _ n).trans (Blocks.memOnly_dropWrite _ n)
  · exact Blocks.memOnly_dropRead _ n

@[simp] theorem Blocks.leavePermit_lane (m : LaneId) : (b.leavePermit n).lane m = b.lane m := rfl
@[simp] theorem Blocks.leavePermit_ctx (j : Slot) : (b.leavePermit n).ctx j = b.ctx j := rfl

theorem Blocks.reach_abortDrops : Blocks.Reach k b (b.abortDrops n k cause) := by
  have h1 : Blocks.Reach k b (b.leavePermit n) := .of_ctxs k rfl rfl rfl rfl
  exact (h1.trans (Blocks.local_withdrawFetch _ k k).toReach).trans ((b.memOnly_abortDrops n k cause).toLocal k).toReach

theorem Blocks.abortDrops_ctxs : (b.abortDrops n k cause).ctxs = b.ctxs := by
  rw [(b.memOnly_abortDrops n k cause).ctxs, Blocks.withdrawFetch_ctxs]; rfl

theorem Blocks.abortDrops_window : (b.abortDrops n k cause).window = (b.leavePermit n).window := by
  rw [(b.memOnly_abortDrops n k cause).window, Blocks.withdrawFetch_window]

theorem Blocks.apart_abortDrops : Blocks.Apart n b (b.abortDrops n k cause) :=
  (Blocks.Apart.of_lanes n fun m => by simp).trans (b.memOnly_abortDrops n k cause).apart

/-- Of its lane the withdrawals touch the memory request, the staging and the staging address. -/
theorem Blocks.abortDrops_lane : ∃ mr sa st,
    (b.abortDrops n k cause).lane n = { b.lane n with memReq := mr, stagingAddr := sa, staging := st } := by
  obtain ⟨mr, sa, st, h⟩ := (b.memOnly_abortDrops n k cause).lane
  exact ⟨mr, sa, st, by rw [h]; simp⟩

/-- With no memory request there is no memory work to drop. -/
theorem Blocks.abortDrops_none (hm : (b.lane n).memReq = none) :
    b.abortDrops n k cause = (b.leavePermit n).withdrawFetch k := by
  have hl : (((b.leavePermit n).withdrawFetch k).lane n).memReq = none := by simpa using hm
  simp only [Blocks.abortDrops, Blocks.dropRead_none _ n hl, Blocks.dropWrite_none _ n hl, ite_self]

variable {n k} (h : (b.lane n).served = some ⟨k, .connection⟩)
include h

theorem Blocks.enterAborting_eq :
    b.enterAborting n cause =
      ((b.abortDrops n k cause).modLane n (·.aborted cause)).send n (.abort (b.unitOf k)) := by
  obtain ⟨mr, sa, st, hl⟩ := b.abortDrops_lane n k cause
  have hserved : (((b.abortDrops n k cause).modLane n (·.aborted cause)).lane n).served = some ⟨k, .connection⟩ := by
    obtain ⟨st', ha⟩ := Lane.aborted_spec ((b.abortDrops n k cause).lane n) cause
    rw [Blocks.modLane_lane_same, ha, hl]
    exact h
  have hunit : ((b.abortDrops n k cause).modLane n (·.aborted cause)).servedUnit n = b.unitOf k := by
    rw [Blocks.servedUnit_eq _ n k .connection hserved, Blocks.modLane_unitOf,
      (b.reach_abortDrops n k cause).unitOf]
  rw [← hunit]
  have hslot : ((b.leavePermit n).lane n).servedSlot = some k := Lane.servedSlot_eq k _ .connection h
  simp only [Blocks.enterAborting, hslot]
  rfl

theorem Blocks.reach_enterAborting : Blocks.Reach k b (b.enterAborting n cause) := by
  rw [b.enterAborting_eq cause h]
  exact ((b.reach_abortDrops n k cause).trans (Blocks.local_modLane _ k n _).toReach).trans
    (Blocks.local_send _ k n _).toReach

theorem Blocks.apart_enterAborting : Blocks.Apart n b (b.enterAborting n cause) := by
  rw [b.enterAborting_eq cause h]
  exact ((b.apart_abortDrops n k cause).trans (Blocks.apart_modLane _ n _)).trans (Blocks.apart_send _ n _)

theorem Blocks.enterAborting_ctxs : (b.enterAborting n cause).ctxs = b.ctxs := by
  rw [b.enterAborting_eq cause h, Blocks.send_ctxs, Blocks.modLane_ctxs, Blocks.abortDrops_ctxs]

theorem Blocks.enterAborting_window : (b.enterAborting n cause).window = (b.leavePermit n).window := by
  rw [b.enterAborting_eq cause h, Blocks.send_window, Blocks.modLane_window, Blocks.abortDrops_window]

theorem Blocks.enterAborting_fetch : (b.enterAborting n cause).fetch = ((b.leavePermit n).withdrawFetch k).fetch := by
  rw [b.enterAborting_eq cause h, Blocks.send_fetch, Blocks.modLane_fetch, (b.memOnly_abortDrops n k cause).fetch]

theorem Blocks.enterAborting_mem : (b.enterAborting n cause).mem = (b.abortDrops n k cause).mem := by
  rw [b.enterAborting_eq cause h, Blocks.send_mem, Blocks.modLane_mem]

theorem Blocks.enterAborting_lane :
    (b.enterAborting n cause).lane n =
      (((b.abortDrops n k cause).lane n).aborted cause).send (.abort (b.unitOf k)) := by
  rw [b.enterAborting_eq cause h, Blocks.send_lane_same, Blocks.modLane_lane_same]

/-- With no memory request the claim on the fetcher is given up and nothing staged is kept. -/
theorem Blocks.enterAborting_idle (hm : (b.lane n).memReq = none) :
    (b.enterAborting n cause).fetchQ = ((b.leavePermit n).withdrawFetch k).fetchQ
      ∧ (b.enterAborting n cause).mem = ((b.leavePermit n).withdrawFetch k).mem
      ∧ ((b.enterAborting n cause).lane n).memReq = none
      ∧ ∀ half, ((b.enterAborting n cause).lane n).staging.get half = [] := by
  have hd := b.abortDrops_none n k cause hm
  have hl : ((b.abortDrops n k cause).lane n).memReq = none := by rw [hd]; simpa using hm
  refine ⟨?_, ?_, ?_, fun half => ?_⟩
  · rw [b.enterAborting_eq cause h, Blocks.send_fetchQ, Blocks.modLane_fetchQ, hd]
  · rw [b.enterAborting_mem cause h, hd]
  · obtain ⟨st, ha⟩ := Lane.aborted_spec ((b.abortDrops n k cause).lane n) cause
    rw [b.enterAborting_lane cause h, Lane.send_memReq, ha]
    exact hl
  · rw [b.enterAborting_lane cause h, Lane.send_staging, Lane.aborted_staging_empty _ _ (by simp [hl]),
      Staging.get_empty]

end

/-! ### In the words of the statements -/

section
open Sys2Proof.Claims

/-- The frames a lane has sent, in the words of the statements. -/
theorem sendsThen_of_sent {s t : State} {n : LaneId} {f : PartFrame} {more : List PartFrame}
    (h : Lane.Sent (s.blocks.lane n) (t.blocks.lane n) (f :: more)) : sendsThen s t n f more := by
  refine ⟨h.outgoing, fun h0 hr => ?_⟩
  have ho : (t.blocks.lane n).outgoing = f :: more := by
    rw [h.outgoing]
    exact congrArg (· ++ f :: more) h0
  have hd := h.driven (Or.inl nofun)
  cases hx : (t.blocks.lane n).tx with
  | none =>
    rw [Lane.outgoing, hx, hd hr hx] at ho
    cases ho
  | some x =>
    rw [Lane.outgoing, hx] at ho
    simp only [onWire, hx, Option.map_some]
    exact congrArg List.head? ho

theorem sends_of_sent {s t : State} {n : LaneId} {f : PartFrame}
    (h : Lane.Sent (s.blocks.lane n) (t.blocks.lane n) [f]) : sends s t n f := sendsThen_of_sent h

theorem sendsFirst_of_sent {s t : State} {n : LaneId} {f : PartFrame}
    (h : ∃ more, Lane.Sent (s.blocks.lane n) (t.blocks.lane n) (f :: more)) : sendsFirst s t n f := by
  obtain ⟨more, h⟩ := h
  exact ⟨more, sendsThen_of_sent h⟩

theorem elsewhere_of_local {s t : State} {k : Slot} (h : Blocks.Local k s.blocks t.blocks) (hp : t.pending = s.pending) :
    elsewhere s t := ⟨h.index, h.window, h.timebase, h.laneFault, hp⟩

/-- The update count bears on nothing that `Blocks.Local` speaks of. -/
theorem Blocks.Local.settled {k : Slot} {b c : Blocks} (a : Blocks) (h : Blocks.Local k b c) :
    Blocks.Local k b (a.settled c) := ⟨h.toReach.settled a, h.window⟩

/-- An ABORT, in the words of the statements: `b` are the blocks at which the lane enters L_ABORTING. -/
theorem aborts_of_enterAborting {s t : State} {b : Blocks} {n : LaneId} {k : Slot} (cause : AbortCause)
    (h : (b.lane n).served = some ⟨k, .connection⟩) (hsent : Lane.Sent (s.blocks.lane n) (b.lane n) [])
    (hu : b.unitOf k = s.blocks.unitOf k) (hw : b.window.ledger = s.blocks.window.ledger)
    (ha : Blocks.Apart n s.blocks b) (ht : t.blocks = s.blocks.settled (b.enterAborting n cause)) :
    aborts s t n k cause := by
  have hl : t.blocks.lane n = (((b.abortDrops n k cause).lane n).aborted cause).send (.abort (b.unitOf k)) := by
    rw [ht, Blocks.settled_lane, b.enterAborting_lane cause h]
  have hwin : t.blocks.window = (b.leavePermit n).window := by
    rw [ht, Blocks.settled_window, b.enterAborting_window cause h]
  obtain ⟨mr, sa, st, hd⟩ := b.abortDrops_lane n k cause
  obtain ⟨st', hab⟩ := Lane.aborted_spec ((b.abortDrops n k cause).lane n) cause
  have hsend : Lane.Sent (s.blocks.lane n) (t.blocks.lane n) [.abort (s.blocks.unitOf k)] := by
    rw [hl, hu]
    refine Lane.Sent.send (hsent.trans (gs := []) (.of_wire ?_ ?_ ?_)) _
    all_goals rw [hab, hd]
  refine ⟨?_, ?_, ?_, sends_of_sent hsend, ?_, ?_, ?_, ?_, ?_, ?_, ?_, fun m hm => ?_⟩
  · rw [hl, hab]; simp
  · rw [hl, hab]; simp
  · rw [hl, hab]; simp
  · rw [hl, hab]; simp
  · rw [hl, hab]; simp
  · rw [hl, hab]; simp
  · rw [hl, hab]; simp
  · rw [hwin]; simp [Blocks.leavePermit]
  · rw [hwin]; exact hw
  · show (t.blocks.lane n).served = _
    rw [hl, hab, hd, Lane.send_served]
    exact h
  · rw [ht, Blocks.settled_lane, b.apart_enterAborting cause h m hm, ha m hm]

/-- The claim of slot `k` given up, in the words of the statements. -/
theorem claimWithdrawn_of {s t : State} {b : Blocks} {k : Slot} (hf : b.fetch = s.blocks.fetch)
    (hq : b.fetchQ = s.blocks.fetchQ) (hm : b.mem = s.blocks.mem)
    (hc : ∀ j, j ≠ k → (b.ctx j).chainAddr = (s.blocks.ctx j).chainAddr)
    (htf : t.blocks.fetch = (b.withdrawFetch k).fetch) (htq : t.blocks.fetchQ = (b.withdrawFetch k).fetchQ)
    (htm : t.blocks.mem = (b.withdrawFetch k).mem) : claimWithdrawn s t k := by
  intro f q hsf hsq
  have hbf : b.fetch = some f := hf.trans hsf
  have hdq : (b.dropFetchEntry k).fetchQ = q := by rw [hsq, ← hq]; rfl
  rw [htf, htq, htm]
  refine ⟨fun hk => ?_, fun hk hr => ?_, fun hk hr => ⟨fun hnil => ?_, fun e more addr he hi haddr => ?_⟩⟩
  · rw [b.withdrawFetch_other k fun g hg => by rw [hbf] at hg; cases hg; exact hk]
    exact ⟨hbf, hdq, hm⟩
  · rw [b.withdrawFetch_granted k f hbf hk (hm ▸ hr)]
    exact ⟨rfl, hdq, hm⟩
  · rw [b.withdrawFetch_waiting k f hbf hk (hm ▸ hr), Blocks.fetchBegin_empty (b.fetchEnded k) (hdq.trans hnil)]
    exact ⟨rfl, hdq.trans hnil, by rw [← hm]; rfl⟩
  · have hek : e.slot ≠ k := b.dropFetchEntry_slots k e (by rw [hdq, he]; exact List.mem_cons_self)
    have hfirst : firstReadAddr e.cls (b.ctx e.slot).chainAddr = addr := by
      rw [haddr, ← hc _ hek]
      cases e.cls <;> simp [firstReadAddr]
    rw [b.withdrawFetch_waiting k f hbf hk (hm ▸ hr), Blocks.fetchBegin_idle (b.fetchEnded k) e more rfl (hdq.trans he)]
    have hctx : (b.fetchEnded k).ctx e.slot = b.ctx e.slot := rfl
    rw [hctx, hfirst]
    refine ⟨by simp, by simp, ?_⟩
    simp only [Blocks.askFetcher]
    rw [Blocks.portDecision_busy]
    · rw [← hm]; rfl
    · show b.mem.inflight ≠ none
      rw [hm]; exact hi

end

end Sys2Proof.Machine

/-!
The request handler: OPEN, START, COLLECT, HALT and RESET_LANE.
-/
namespace Sys2Proof.Machine

open Sys2Proof.Claims

/-! ### A request taken -/

@[simp] theorem State.answeredWith_blocks (s : State) (r : Request) (rest : List Request) (out : Blocks × Answer) :
    (s.answeredWith r rest out).blocks = s.blocks.settled out.1 := rfl
@[simp] theorem State.answeredWith_pending (s : State) (r : Request) (rest : List Request) (out : Blocks × Answer) :
    (s.answeredWith r rest out).pending = s.pending := rfl

/-- A command of the handler, its request taken. -/
theorem exec_taken {s : State} {r : Request} {rest : List Request} {code : ReqCode}
    {act : Request → Blocks → Blocks × Answer} {i : Instr} (h : taken s r rest code)
    (hi : exec i s = .next (s.handle code act)) : exec i s = .next (s.answeredWith r rest (act r s.blocks)) := by
  obtain ⟨⟨hr, hl, hp, hc⟩, hin⟩ := h
  rw [hi, State.handle_taken s code act r rest hr hl hp hc hin]

theorem answered_answeredWith (s : State) (r : Request) (rest : List Request) (out : Blocks × Answer) {result : Result}
    {d1 d2 d3 : Word} (h : out.2 = ⟨result, d1, d2, d3⟩) :
    answered s (s.answeredWith r rest out) r rest result d1 d2 d3 := by
  simp only [answered, State.answeredWith, h]

/-- A data word made of fields is the number they make. -/
theorem withFields_eq {fs : List WordField} {v : Nat} (result : Result) (h : fieldsFrom 0 fs) (hv : fieldSum fs = v) :
    withFields result fs = ⟨result, BitVec.ofNat 32 v, 0, 0⟩ := by
  rw [withFields, packWord_eq_ofNat h hv]

/-- An action that leaves the blocks leaves them, the update count included. -/
theorem State.answeredWith_same (s : State) (r : Request) (rest : List Request) (a : Answer) :
    (s.answeredWith r rest (s.blocks, a)).blocks = s.blocks := s.blocks.settled_self

/-! ### OPEN -/

/-- The bits of a lane's deferred-attention set with one unit taken out (R101). -/
theorem Lane.undefer_getLsbD (l : Lane) (u v : UnitAddr) :
    (l.undefer u).deferred.getLsbD v.val = if v = u then false else l.deferred.getLsbD v.val := by
  have hbit : ((1 : Word) <<< u.val).getLsbD v.val = decide (v = u) := by
    have hone : ∀ i, (1 : Word).getLsbD i = (decide (0 < 32) && decide (i = 0)) := fun i => BitVec.getLsbD_one
    have hu := u.isLt
    have hv := v.isLt
    rw [BitVec.getLsbD_shiftLeft, hone, Bool.eq_iff_iff]
    simp only [Bool.and_eq_true, Bool.not_eq_true', decide_eq_true_eq, decide_eq_false_iff_not, Fin.ext_iff]
    omega
  show (l.deferred &&& ~~~((1 : Word) <<< u.val)).getLsbD v.val = _
  rw [BitVec.getLsbD_and, BitVec.getLsbD_not, hbit]
  have hv : v.val < 32 := v.isLt
  by_cases h : v = u <;> simp [h]

/-- Settles O13: the lowest FREE slot is the one `lowestFree` finds, and binding it changes its record, its index entry and
the deferred-attention set. -/
theorem openBindsTheLowestFreeSlot : Obligations.OpenBindsTheLowestFreeSlot := by
  intro s r rest k htaken hl hk hmin
  have hopen : Blocks.doOpen r s.blocks = (s.blocks.bind r k,
      withFields .accepted [⟨0, 6, k.val⟩, ⟨8, 1, ((s.blocks.lane r.lane).defers r.unit).toNat⟩]) := by
    rw [Blocks.doOpen, Blocks.onBound_none _ _ _ _ hl, s.blocks.lowestFree_eq_some k hk hmin]
  have hlane : (s.blocks.bind r k).lane r.lane = (s.blocks.lane r.lane).undefer r.unit := by simp [Blocks.bind]
  refine ⟨_, exec_taken htaken rfl, answered_answeredWith s r rest _ ?_, ?_⟩
  · rw [hopen]
    refine withFields_eq _ (by simp [fieldsFrom]) ?_
    have hk40 := k.isLt
    simp only [fieldSum, Lane.defers]
    generalize (s.blocks.lane r.lane).deferred.getLsbD r.unit.val = deferred
    cases deferred <;> simp <;> omega
  · simp only [State.answeredWith_blocks, hopen]
    refine ⟨?_, fun j hj => ?_, ?_, fun n u hnu => ?_, fun u => ?_, ?_, fun m hm => ?_⟩
    · rw [Blocks.settled_ctx, Blocks.bind_ctx_same]
      simp [openedContext, Request.detachLimit, Request.selectRetries, fieldOf]
    · exact s.blocks.bind_ctx_ne r k j hj
    · exact s.blocks.bind_lookup_same r k
    · exact s.blocks.bind_lookup_ne r k n u hnu
    · rw [Blocks.settled_lane, hlane, Lane.undefer_getLsbD]
    · rw [Blocks.settled_lane, hlane]; rfl
    · show (s.blocks.bind r k).lane m = _
      exact Blocks.modLane_lane_ne _ _ _ _ hm

/-! ### START -/

/-- Settles O16: the record is `Context.started`, and the entry waits behind a busy fetcher or is taken at once by an idle
one. -/
theorem startLoadsTheContext : Obligations.StartLoadsTheContext := by
  intro s r rest k htaken hl hidle hdis hfault
  generalize hb : s.blocks.modCtx k (·.started r.chainAddr) = b
  have hstart : Blocks.doStart r s.blocks = (b.appendStart k, withFields .accepted [⟨0, 6, k.val⟩]) := by
    rw [Blocks.doStart, Blocks.onBound_some _ _ _ _ k hl]
    cases hst : (s.blocks.lane r.lane).state
    case disabled => exact absurd hst hdis
    case fault => exact absurd hst hfault
    all_goals simp only [hidle, hb]
  have hctx : b.ctx k = (s.blocks.ctx k).started r.chainAddr := by rw [← hb, Blocks.modCtx_ctx_same]
  have haddr : r.chainAddr = BitVec.ofNat 48 (r.w1.toNat + 2 ^ 32 * (r.w2.toNat % 65536)) := by
    simp only [Request.chainAddr, fieldOf]
    congr 1
    omega
  refine ⟨_, exec_taken htaken rfl, answered_answeredWith s r rest _ ?_, ?_⟩
  · rw [hstart]
    have hk40 := k.isLt
    exact withFields_eq _ (by simp [fieldsFrom]) (by simp [fieldSum]; omega)
  · simp only [State.answeredWith_blocks, hstart]
    refine ⟨?_, fun j hj => ?_, ?_, ?_, fun f hf => ?_, fun hf hq => ?_⟩
    · rw [Blocks.settled_ctx, Blocks.appendStart_ctx, hctx, haddr]; rfl
    · show (b.appendStart k).ctx j = _
      rw [Blocks.appendStart_ctx, ← hb, Blocks.modCtx_ctx_ne _ _ _ _ hj]
    · rw [Blocks.settled_index, Blocks.appendStart_index, ← hb]; rfl
    · rw [Blocks.settled_lanes, Blocks.appendStart_lanes, ← hb]; rfl
    · have hbf : b.fetch = some f := by rw [← hb]; exact hf
      have hbusy := Blocks.fetchBegin_busy { b with fetchQ := b.fetchQ ++ [⟨k, .start⟩] } (by rw [hbf]; nofun)
      rw [Blocks.settled_fetch, Blocks.settled_fetchQ, Blocks.appendStart, hbusy, ← hb]
      exact ⟨hf, rfl⟩
    · have hbq : b.fetchQ ++ [⟨k, .start⟩] = [⟨k, .start⟩] := by rw [← hb, Blocks.modCtx_fetchQ, hq]; rfl
      have hidle := Blocks.fetchBegin_idle { b with fetchQ := b.fetchQ ++ [⟨k, .start⟩] } ⟨k, .start⟩ []
        (by rw [← hb]; exact hf) hbq
      rw [Blocks.settled_fetch, Blocks.settled_fetchQ, Blocks.settled_ctx, Blocks.appendStart, hidle,
        Blocks.askFetcher_fetch, Blocks.askFetcher_fetchQ, Blocks.askFetcher_ctx]
      exact ⟨rfl, rfl⟩

/-! ### COLLECT -/

/-- Settles O20: each refusal leaves the blocks, and the head's removal acts on its record alone. -/
theorem collectRemovesTheHead : Obligations.CollectRemovesTheHead := by
  have hrefused : ∀ (s : State) (r : Request) (rest : List Request) (a : Answer), taken s r rest .collectReport →
      Blocks.doCollect r s.blocks = (s.blocks, a) →
      ∃ t, exec .collectReport s = .next t ∧ answered s t r rest a.result a.d1 a.d2 a.d3 ∧ t.blocks = s.blocks := by
    intro s r rest a htaken ha
    refine ⟨_, exec_taken htaken rfl, answered_answeredWith s r rest _ ?_, ?_⟩ <;> rw [ha]
    exact s.answeredWith_same r rest a
  refine ⟨fun s r rest htaken hl => hrefused s r rest _ htaken (s.blocks.onBound_none r _ _ hl),
    fun s r rest k htaken hl => ⟨fun hq => ?_, fun e q hq hlen => ⟨fun hne => ?_, fun heq => ?_⟩⟩⟩
  · refine hrefused s r rest (bare .nothingToCollect) htaken ?_
    rw [Blocks.doCollect, Blocks.onBound_some _ _ _ _ k hl]
    simp only [hq]
  · have hword : withFields .notHead [⟨0, 6, e.slot.val⟩, ⟨8, 2, e.kind.code⟩] =
        ⟨.notHead, BitVec.ofNat 32 (e.slot.val + 256 * e.kind.code), 0, 0⟩ := by
      have h40 := e.slot.isLt
      refine withFields_eq _ (by simp [fieldsFrom]) ?_
      cases e.kind <;> simp [fieldSum, EntryKind.code] <;> omega
    refine hrefused s r rest ⟨.notHead, BitVec.ofNat 32 (e.slot.val + 256 * e.kind.code), 0, 0⟩ htaken ?_
    rw [Blocks.doCollect, Blocks.onBound_some _ _ _ _ k hl]
    simp only [hq, hne, if_false, hword]
  · have hcollect : Blocks.doCollect r s.blocks = (s.blocks.collectHead e q,
        withFields .accepted [⟨0, 6, k.val⟩, ⟨8, 2, e.kind.code⟩, ⟨16, 6, q.length⟩]) := by
      rw [Blocks.doCollect, Blocks.onBound_some _ _ _ _ k hl]
      simp only [hq, heq, if_true]
    refine ⟨_, exec_taken htaken rfl, answered_answeredWith s r rest _ ?_, ?_⟩
    · rw [hcollect]
      have h40 := k.isLt
      refine withFields_eq _ (by simp [fieldsFrom]) ?_
      cases e.kind <;> simp [fieldSum, EntryKind.code] <;> omega
    · subst heq
      have hsame := s.blocks.collectHead_ctx_same e q
      simp only [State.answeredWith_blocks, hcollect]
      refine ⟨rfl, s.blocks.collectHead_ctx_ne e q, rfl, fun hkind => ?_, fun hkind => ?_⟩
      · rw [Blocks.settled_ctx, hsame, hkind]; rfl
      · rw [Blocks.settled_ctx, hsame, hkind]; rfl

end Sys2Proof.Machine

/-!
Time: the tick and the expiry of a detach timer.
-/
namespace Sys2Proof.Machine

open Sys2Proof.Claims

/-! ### The tick -/

/-- A tick changes nothing that the attention slot shows. -/
theorem Blocks.advance_shown (b : Blocks) (d : BitVec 8) : (b.advance d).shown = b.shown := by
  have hq : (b.advance d).reports.queue = b.reports.queue := rfl
  simp only [Blocks.shown, hq, Blocks.advance_ctx]
  rfl

theorem Blocks.settled_advance (b : Blocks) (d : BitVec 8) : b.settled (b.advance d) = b.advance d :=
  b.settled_of_shown _ (b.advance_shown d) rfl

/-- A grant decision changes nothing that the attention slot shows. -/
theorem Blocks.settled_grantDecision (b : Blocks) : b.settled b.grantDecision = b.grantDecision := by
  obtain ⟨lanes, ledger, permits, h⟩ := b.grantDecision_spec
  exact b.settled_of_same _ (by rw [h]) (by rw [h])

theorem Blocks.grantDecision_asked (b : Blocks) : b.grantDecision.window.asked = false := by
  obtain ⟨lanes, ledger, permits, h⟩ := b.grantDecision_spec
  rw [h]

/-- An owed decision taken before a tick is the decision the tick takes. -/
theorem Blocks.settled_tick_owed (b : Blocks) (d : BitVec 8) (h : b.window.asked = true) :
    b.settled (b.tick d) = b.grantDecision.advance d := by
  obtain ⟨lanes, ledger, permits, hg⟩ := b.grantDecision_spec
  have htick : b.tick d = b.grantDecision.advance d := by rw [Blocks.tick, Blocks.decideIfAsked, if_pos h]
  rw [htick]
  refine b.settled_of_shown _ ?_ ?_
  · rw [Blocks.advance_shown]
    exact b.shown_congr _ (by rw [hg]) (by rw [hg])
  · show b.grantDecision.reports.update = _
    rw [hg]

theorem Blocks.advance_lane (b : Blocks) (d : BitVec 8) (n : LaneId) : (b.advance d).lane n = (b.lane n).tick := by
  show (b.lanes.map Lane.tick)[n.val] = (b.lanes[n.val]).tick
  simp

theorem ResponseTimer.tick_eq (x : ResponseTimer) (a : Bool) :
    x.tick a = if a = true ∨ x.limit ≤ x.count then x else ⟨x.count + 1, x.limit⟩ := by
  simp [ResponseTimer.tick]

theorem DetachTimer.tick_eq (x : DetachTimer) :
    x.tick = if x.ms = 0 then x else if x.ticks < 999 then ⟨x.ms, x.ticks + 1⟩ else ⟨x.ms - 1, 0⟩ := by
  have h : x.ticks + 1 < Config.ticksPerMs ↔ x.ticks < 999 := by
    rw [Config.ticksPerMs]
    omega
  simp only [DetachTimer.tick, h]

/-- Settles O24: with a decision owed both orders take it before `Blocks.advance`; else the tick is `Blocks.advance`, field by
field. -/
theorem aTickAdvancesCountAgesAndTimers : Obligations.ATickAdvancesCountAgesAndTimers := by
  constructor
  · intro s u hasked hu
    have hidle : State.idle { s with pending := [] } = { s with pending := [], blocks := s.blocks.grantDecision } := by
      simp [State.idle, hasked, State.onBlocks, Blocks.settled_grantDecision]
    have hu' : (.next (State.idle { s with pending := [] }) : Host.Outcome State Fault Refusal) = .next u := hu
    rw [hidle] at hu'
    cases hu'
    refine ⟨{ s with blocks := s.blocks.grantDecision.advance s.port.tbdiv }, ?_, ?_⟩
    · show Host.Outcome.next (s.onBlocks fun b => b.tick s.port.tbdiv) = _
      rw [State.onBlocks, Blocks.settled_tick_owed _ _ hasked]
    · show Host.Outcome.next (State.onBlocks _ fun b => b.tick s.port.tbdiv) = _
      simp only [State.onBlocks, Blocks.tick, Blocks.decideIfAsked_of_not _ (Blocks.grantDecision_asked _),
        Blocks.settled_advance]
  · intro s hasked
    refine ⟨{ s with blocks := s.blocks.advance s.port.tbdiv }, ?_, rfl, rfl, rfl, rfl, fun n => ?_, fun k => ?_, rfl, rfl,
      rfl, rfl, rfl, rfl⟩
    · show Host.Outcome.next (s.onBlocks fun b => b.tick s.port.tbdiv) = _
      rw [State.onBlocks, Blocks.tick, Blocks.decideIfAsked_of_not _ hasked, Blocks.settled_advance]
    · show (s.blocks.advance s.port.tbdiv).lane n = _
      rw [Blocks.advance_lane]
      simp only [Lane.tick, ResponseTimer.tick_eq]
    · show (s.blocks.advance s.port.tbdiv).ctx k = _
      rw [Blocks.advance_ctx]
      simp only [Context.tick, funext DetachTimer.tick_eq]

/-! ### The expiry of a detach timer -/

/-- Settles O25: the record is `Context.expired`, and its slot joins the halt list. -/
theorem detachTimerExpiryBeginsATimeoutHalt : Obligations.DetachTimerExpiryBeginsATimeoutHalt := by
  intro s k x hs hx hms
  have hdue : (s.blocks.ctx k).timerDue = true := by simp [Context.timerDue, hs, hx, hms]
  generalize hb : s.blocks.modCtx k Context.expired = b
  have hexp : s.blocks.detachExpiry k = b.appendHalt (s.blocks.laneOf k) k := by
    rw [Blocks.detachExpiry, if_pos hdue, hb]
  have h1 : Blocks.Local k s.blocks b := by rw [← hb]; exact Blocks.local_modCtx Context.expired fun _ => rfl
  have hloc := h1.trans (b.local_appendHalt k (s.blocks.laneOf k) k)
  have hlane : ∀ n, b.lane n = s.blocks.lane n := fun n => by rw [← hb]; rfl
  refine ⟨s.onBlocks fun b => b.detachExpiry k, rfl, rfl, ?_, ?_, ?_, ?_, ?_⟩
  · exact elsewhere_of_local (k := k) (by rw [State.onBlocks_blocks, hexp]; exact hloc.settled _) rfl
  all_goals simp only [State.onBlocks_blocks, Blocks.settled_ctx, Blocks.settled_lane, otherCtxs, otherLanes, hexp]
  · rw [Blocks.appendHalt_ctx, ← hb, Blocks.modCtx_ctx_same]; rfl
  · rw [Blocks.appendHalt_haltList, hlane]
  · exact hloc.ctx_ne
  · intro m hm
    rw [Blocks.appendHalt_lane_ne _ _ _ _ hm, hlane]

end Sys2Proof.Machine

/-!
HALT of a context that is not connected (R23, R24, R26).
-/
namespace Sys2Proof.Machine

open Sys2Proof.Claims

/-! ### The ending of a context, in the words of the statements -/

theorem reportedAs_of {t : State} {k : Slot} {c : Context} {named : List Named} {cls : ReportClass}
    (h : t.blocks.ctx k = c.toReported k named) (hc : (chooseClass named).cls = cls) : reportedAs t k cls := by
  rw [reportedAs, h]
  exact ⟨rfl, _, rfl, hc⟩

theorem Blocks.endContext_fetchQ (b : Blocks) (k : Slot) (named : List Named) :
    (b.endContext k named).fetchQ = ((b.dropFromLists (b.laneOf k) k).withdrawFetch k).fetchQ := by
  obtain ⟨c, q, h⟩ := ((b.dropFromLists (b.laneOf k) k).withdrawFetch k).postFinal_spec k named
  rw [Blocks.endContext, h]

theorem Blocks.endContext_readyQ (b : Blocks) (k : Slot) (named : List Named) :
    k ∉ ((b.endContext k named).lane (b.laneOf k)).readyQ := by
  rw [Blocks.endContext_lane]
  simp [Blocks.dropFromLists]

theorem Blocks.endContext_haltList (b : Blocks) (k : Slot) (named : List Named) :
    k ∉ ((b.endContext k named).lane (b.laneOf k)).haltList := by
  rw [Blocks.endContext_lane]
  simp [Blocks.dropFromLists]

/-! ### HALT of a READY context -/

theorem Blocks.local_haltRequested (b : Blocks) (k : Slot) : Blocks.Local k b (b.modCtx k Context.haltRequested) :=
  Blocks.local_modCtx Context.haltRequested fun _ => rfl

/-- The blocks at which a READY context has been ended by a HALT (R24). -/
def Blocks.haltEnded (b : Blocks) (k : Slot) : Blocks := (b.modCtx k Context.haltRequested).endContext k [plain .halted]

section
variable (b : Blocks) (k : Slot)

theorem Blocks.local_haltEnded : Blocks.Local k b (b.haltEnded k) :=
  (b.local_haltRequested k).trans (Blocks.local_endContext _ k _)

theorem Blocks.haltEnded_ctx (h : (b.ctx k).state ≠ .free) :
    (b.haltEnded k).ctx k = (b.ctx k).haltRequested.toReported k [plain .halted] := by
  rw [Blocks.haltEnded, Blocks.endContext_ctx_same, Blocks.modCtx_ctx_same]
  rw [Blocks.modCtx_ctx_same]
  exact h

/-- Apart from its lists the lane is as it was. -/
theorem Blocks.haltEnded_lane (n : LaneId) : ∃ rq hl,
    (b.haltEnded k).lane n = { b.lane n with readyQ := rq, haltList := hl } :=
  ⟨_, _, Blocks.endContext_lane_lists _ k _ n⟩

theorem Blocks.apart_haltEnded : Blocks.Apart (b.laneOf k) b (b.haltEnded k) := by
  refine (Blocks.Apart.of_lanes (c := b.modCtx k Context.haltRequested) _ fun _ => rfl).trans ?_
  exact Blocks.apart_endContext _ _ k _ ((b.local_haltRequested k).toReach.laneOf k)

theorem Blocks.haltEnded_readyQ : k ∉ ((b.haltEnded k).lane (b.laneOf k)).readyQ := by
  have h := (b.modCtx k Context.haltRequested).endContext_readyQ k [plain .halted]
  rwa [(b.local_haltRequested k).toReach.laneOf k] at h

/-- HALT of a READY context: its ending, and a selection of it lost (R171). -/
theorem Blocks.haltReady_eq : b.haltReady k =
    if (b.lane (b.laneOf k)).servedSlot = some k then (b.haltEnded k).loseSelection (b.laneOf k) (b.unitOf k)
    else b.haltEnded k := rfl

/-- A lost selection touches its lane alone, and not the lists. -/
theorem Blocks.loseSelection_frame (n : LaneId) (u : UnitAddr) : Blocks.Local k b (b.loseSelection n u)
    ∧ Blocks.Apart n b (b.loseSelection n u) ∧ ((b.loseSelection n u).lane n).readyQ = (b.lane n).readyQ := by
  unfold Blocks.loseSelection
  split
  · refine ⟨(Blocks.local_modLane _ k n _).trans (Blocks.local_enterIdle _ k n),
      (Blocks.apart_modLane _ n _).trans (Blocks.apart_enterIdle _ n), ?_⟩
    rw [Blocks.enterIdle_readyQ, Blocks.modLane_lane_same]; rfl
  · refine ⟨Blocks.local_modLane _ k n _, Blocks.apart_modLane _ n _, ?_⟩
    rw [Blocks.modLane_lane_same]

theorem Blocks.loseSelection_ctx (n : LaneId) (u : UnitAddr) (j : Slot) : (b.loseSelection n u).ctx j = b.ctx j := by
  unfold Blocks.loseSelection
  split
  · rw [Blocks.enterIdle_ctx, Blocks.modLane_ctx]
  · rfl

theorem Blocks.haltReady_frame : Blocks.Local k b (b.haltReady k) ∧ Blocks.Apart (b.laneOf k) b (b.haltReady k)
    ∧ k ∉ ((b.haltReady k).lane (b.laneOf k)).readyQ := by
  rw [Blocks.haltReady_eq]
  split
  · obtain ⟨hloc, hap, hq⟩ := (b.haltEnded k).loseSelection_frame k (b.laneOf k) (b.unitOf k)
    exact ⟨(b.local_haltEnded k).trans hloc, (b.apart_haltEnded k).trans hap, by rw [hq]; exact b.haltEnded_readyQ k⟩
  · exact ⟨b.local_haltEnded k, b.apart_haltEnded k, b.haltEnded_readyQ k⟩

theorem Blocks.haltReady_ctx (h : (b.ctx k).state ≠ .free) :
    (b.haltReady k).ctx k = (b.ctx k).haltRequested.toReported k [plain .halted] := by
  rw [Blocks.haltReady_eq, ← b.haltEnded_ctx k h]
  split
  · exact Blocks.loseSelection_ctx _ _ _ k
  · rfl

end

/-! ### HALT -/

theorem Blocks.doHalt_bound (b : Blocks) (r : Request) (k : Slot) (h : b.lookup r.lane r.unit = some k) :
    Blocks.doHalt r b = b.haltSlot k := b.onBound_some r _ _ k h

theorem Blocks.haltSlot_loading (b : Blocks) (k : Slot) (hs : (b.ctx k).state = .loading)
    (hc : (b.ctx k).haltCause = none) : b.haltSlot k = b.haltLoading k := by
  simp [Blocks.haltSlot, hs, hc]

theorem Blocks.haltSlot_ready (b : Blocks) (k : Slot) (hs : (b.ctx k).state = .ready) :
    b.haltSlot k = (b.haltReady k, haltAnswer .accepted .ready .reported) := by
  simp [Blocks.haltSlot, hs]

theorem Blocks.haltSlot_connected (b : Blocks) (k : Slot) (hs : (b.ctx k).state = .connected) :
    b.haltSlot k = (b.haltConnected k, haltAnswer .accepted .connected .halting) := by
  simp [Blocks.haltSlot, hs]

theorem Blocks.haltSlot_detached (b : Blocks) (k : Slot) (hs : (b.ctx k).state = .detached) :
    b.haltSlot k = (b.haltDetached k, haltAnswer .accepted .detached .halting) := by
  simp [Blocks.haltSlot, hs]

/-- HALT of a LOADING context whose START entry is queued (R23). -/
theorem halt_loading_queued (s : State) (r : Request) (rest : List Request) (k : Slot) (htaken : taken s r rest .haltUnit)
    (hl : s.blocks.lookup r.lane r.unit = some k) (hs : (s.blocks.ctx k).state = .loading)
    (hc : (s.blocks.ctx k).haltCause = none) (hq : ⟨k, .start⟩ ∈ s.blocks.fetchQ) :
    ∃ t, exec .haltUnit s = .next t ∧ answered s t r rest .accepted 0x72 0 0 ∧ elsewhere s t ∧ reportedAs t k .halted
      ∧ (t.blocks.ctx k).flags.haltRequested = true ∧ (∀ e ∈ t.blocks.fetchQ, e.slot ≠ k) ∧ otherCtxs s t k := by
  have hany : s.blocks.fetchQ.any (fun e => e.slot == k) = true := List.any_eq_true.mpr ⟨_, hq, by simp⟩
  have hhalt : Blocks.doHalt r s.blocks = (s.blocks.haltEnded k, haltAnswer .accepted .loading .reported) := by
    rw [Blocks.doHalt_bound _ _ k hl, Blocks.haltSlot_loading _ k hs hc]
    simp only [Blocks.haltLoading, hany, if_true]
    rfl
  have hctx := s.blocks.haltEnded_ctx k (by rw [hs]; nofun)
  have hloc := s.blocks.local_haltEnded k
  refine ⟨_, exec_taken htaken rfl, answered_answeredWith s r rest _ (by rw [hhalt]; rfl), ?_⟩
  simp only [hhalt]
  refine ⟨elsewhere_of_local (hloc.settled _) rfl, reportedAs_of hctx rfl, ?_, ?_, hloc.ctx_ne⟩
  · show ((s.blocks.haltEnded k).ctx k).flags.haltRequested = true
    rw [hctx]; rfl
  · show ∀ e ∈ (s.blocks.haltEnded k).fetchQ, e.slot ≠ k
    rw [Blocks.haltEnded, Blocks.endContext_fetchQ]
    exact (Blocks.withdrawFetch_noClaim _ k).1

/-- HALT of a LOADING context whose fetch is in flight (R23, R72). -/
theorem halt_loading_fetched (s : State) (r : Request) (rest : List Request) (k : Slot)
    (htaken : taken s r rest .haltUnit) (hl : s.blocks.lookup r.lane r.unit = some k)
    (hs : (s.blocks.ctx k).state = .loading) (hc : (s.blocks.ctx k).haltCause = none)
    (hq : ∀ e ∈ s.blocks.fetchQ, e.slot ≠ k) :
    ∃ t, exec .haltUnit s = .next t ∧ answered s t r rest .accepted 0x22 0 0 ∧ elsewhere s t
      ∧ t.blocks.ctx k = { s.blocks.ctx k with
          haltCause := some .requested, flags := { (s.blocks.ctx k).flags with haltRequested := true } }
      ∧ otherCtxs s t k ∧ t.blocks.lanes = s.blocks.lanes ∧ t.blocks.fetch = s.blocks.fetch := by
  have hany : s.blocks.fetchQ.any (fun e => e.slot == k) = false := by simpa using hq
  have hhalt : Blocks.doHalt r s.blocks =
      (s.blocks.modCtx k Context.haltRequested, haltAnswer .accepted .loading .loading) := by
    rw [Blocks.doHalt_bound _ _ k hl, Blocks.haltSlot_loading _ k hs hc]
    simp only [Blocks.haltLoading, hany, Bool.false_eq_true, if_false]
  have hloc := s.blocks.local_haltRequested k
  refine ⟨_, exec_taken htaken rfl, answered_answeredWith s r rest _ (by rw [hhalt]; rfl), ?_⟩
  simp only [hhalt]
  refine ⟨elsewhere_of_local (hloc.settled _) rfl, ?_, hloc.ctx_ne, rfl, rfl⟩
  exact s.blocks.modCtx_ctx_same k Context.haltRequested

/-- HALT of a READY context (R24). -/
theorem halt_ready (s : State) (r : Request) (rest : List Request) (k : Slot) (htaken : taken s r rest .haltUnit)
    (hl : s.blocks.lookup r.lane r.unit = some k) (hs : (s.blocks.ctx k).state = .ready)
    (hn : s.blocks.laneOf k = r.lane) :
    ∃ t, exec .haltUnit s = .next t ∧ answered s t r rest .accepted 0x73 0 0 ∧ elsewhere s t ∧ reportedAs t k .halted
      ∧ (t.blocks.ctx k).flags.haltRequested = true ∧ k ∉ (t.blocks.lane r.lane).readyQ ∧ otherCtxs s t k
      ∧ otherLanes s t r.lane := by
  have hhalt := (Blocks.doHalt_bound _ _ k hl).trans (s.blocks.haltSlot_ready k hs)
  have hctx := s.blocks.haltReady_ctx k (by rw [hs]; nofun)
  obtain ⟨hloc, hap, hq⟩ := s.blocks.haltReady_frame k
  rw [hn] at hap hq
  refine ⟨_, exec_taken htaken rfl, answered_answeredWith s r rest _ (by rw [hhalt]; rfl), ?_⟩
  simp only [hhalt]
  refine ⟨elsewhere_of_local (hloc.settled _) rfl, reportedAs_of hctx rfl, ?_, hq, hloc.ctx_ne, hap⟩
  show ((s.blocks.haltReady k).ctx k).flags.haltRequested = true
  rw [hctx]; rfl

/-- HALT of a DETACHED context (R26). -/
theorem halt_detached (s : State) (r : Request) (rest : List Request) (k : Slot) (htaken : taken s r rest .haltUnit)
    (hl : s.blocks.lookup r.lane r.unit = some k) (hs : (s.blocks.ctx k).state = .detached)
    (hn : s.blocks.laneOf k = r.lane) :
    ∃ t, exec .haltUnit s = .next t ∧ answered s t r rest .accepted 0x65 0 0 ∧ elsewhere s t
      ∧ t.blocks.ctx k = { s.blocks.ctx k with
          state := .halting, haltCause := some .requested, awaiting := none, timer := none
          flags := { (s.blocks.ctx k).flags with haltRequested := true } }
      ∧ (t.blocks.lane r.lane).haltList = (s.blocks.lane r.lane).haltList ++ [k]
      ∧ otherCtxs s t k ∧ otherLanes s t r.lane := by
  have hhalt := (Blocks.doHalt_bound _ _ k hl).trans (s.blocks.haltSlot_detached k hs)
  have hloc : Blocks.Local k s.blocks (s.blocks.haltDetached k) :=
    (Blocks.local_modCtx (fun c => { c.haltRequested with state := .halting, awaiting := none, timer := none })
      fun _ => rfl).trans (Blocks.local_appendHalt _ k _ k)
  refine ⟨_, exec_taken htaken rfl, answered_answeredWith s r rest _ (by rw [hhalt]; rfl), ?_⟩
  simp only [hhalt]
  refine ⟨elsewhere_of_local (hloc.settled _) rfl, ?_, ?_, hloc.ctx_ne, fun m hm => ?_⟩
  · show (s.blocks.haltDetached k).ctx k = _
    rw [Blocks.haltDetached, Blocks.appendHalt_ctx, Blocks.modCtx_ctx_same]; rfl
  · show ((s.blocks.haltDetached k).lane r.lane).haltList = _
    rw [Blocks.haltDetached, hn, Blocks.appendHalt_haltList, Blocks.modCtx_lane]
  · show (s.blocks.haltDetached k).lane m = _
    rw [Blocks.haltDetached, hn, Blocks.appendHalt_lane_ne _ _ _ _ hm, Blocks.modCtx_lane]

/-- Settles O17, one lemma for each state of the context. -/
theorem haltOfAContextThatIsNotConnected : Obligations.HaltOfAContextThatIsNotConnected :=
  ⟨fun s r rest k h hl hs hc =>
      ⟨fun hq _ => halt_loading_queued s r rest k h hl hs hc hq, halt_loading_fetched s r rest k h hl hs hc⟩,
    halt_ready, halt_detached⟩

end Sys2Proof.Machine

/-!
HALT of a connected context (R25, R132, R166 to R170).
-/
namespace Sys2Proof.Machine

open Sys2Proof.Claims

/-! ### DESEL, and the served context's ending -/

section
variable {b : Blocks} {n : LaneId} {k : Slot} (named : List Named) (h : (b.lane n).served = some ⟨k, .connection⟩)
include h

theorem Blocks.sendDesel_eq : b.sendDesel n = b.send n (.desel (b.unitOf k)) := by
  rw [Blocks.sendDesel, b.servedUnit_eq n k _ h]

theorem Blocks.sendDesel_served : ((b.sendDesel n).lane n).served = some ⟨k, .connection⟩ := by
  rw [Blocks.sendDesel_eq h, Blocks.send_lane_same, Lane.send_served]
  exact h

theorem Blocks.local_deselEnd : Blocks.Local k b ((b.sendDesel n).endServed n named) :=
  (Blocks.local_sendDesel b k n).trans (Blocks.local_endServed named (Blocks.sendDesel_served h))

theorem Blocks.apart_deselEnd (hl : b.laneOf k = n) : Blocks.Apart n b ((b.sendDesel n).endServed n named) :=
  (Blocks.apart_send b n _).trans (Blocks.apart_endServed named (Blocks.sendDesel_served h) hl)

theorem Blocks.deselEnd_ctx (hf : (b.ctx k).state ≠ .free) : ∃ l, l.residual = (b.lane n).residual
    ∧ ((b.sendDesel n).endServed n named).ctx k = ((b.ctx k).writtenBack l).toReported k named := by
  refine ⟨(b.sendDesel n).lane n, ?_, Blocks.endServed_ctx named (Blocks.sendDesel_served h) hf⟩
  rw [Blocks.sendDesel_eq h, Blocks.send_lane_same, Lane.send_residual]

theorem Blocks.deselEnd_sent : ∃ more,
    Lane.Sent (b.lane n) (((b.sendDesel n).endServed n named).lane n) (.desel (b.unitOf k) :: more) := by
  obtain ⟨⟨more, hsent⟩, -⟩ := Blocks.endServed_lane named (Blocks.sendDesel_served h)
  refine ⟨more, Lane.Sent.trans (fs := [.desel (b.unitOf k)]) ?_ hsent⟩
  rw [Blocks.sendDesel_eq h, Blocks.send_lane_same]
  exact Lane.sent_send _ _

end

/-! ### What an ABORT that keeps a staging write leaves of the memory request (log 28) -/

section
variable {b : Blocks} {n : LaneId} {k : Slot} (cause : AbortCause) (hcause : cause.dropsWrite = false)
  (h : (b.lane n).served = some ⟨k, .connection⟩) (m : LaneMem) (hm : (b.lane n).memReq = some m) (hd : m.discard = false)

include hcause in
theorem Blocks.abortDrops_keepsWrite :
    b.abortDrops n k cause = ((b.leavePermit n).withdrawFetch k).dropRead n := by
  simp [Blocks.abortDrops, hcause]

include hcause hm hd

/-- A staging read is marked for discard once granted, and withdrawn while it waits. -/
theorem Blocks.abortDrops_read (hw : m.write = false) :
    (((b.leavePermit n).withdrawFetch k).mem.laneReq n = none →
        ((b.abortDrops n k cause).lane n).memReq = some { m with discard := true })
      ∧ (((b.leavePermit n).withdrawFetch k).mem.laneReq n ≠ none →
        ((b.abortDrops n k cause).lane n).memReq = none) := by
  have hl : (((b.leavePermit n).withdrawFetch k).lane n).memReq = some m := by simpa using hm
  rw [Blocks.abortDrops_keepsWrite cause hcause]
  constructor
  · intro hq
    rw [Blocks.dropRead_granted _ n m hl hw hd hq, Blocks.modLane_lane_same]
  · intro hq
    rw [Blocks.dropRead_waiting _ n m hl hw hd hq, Blocks.modLane_lane_same]

include h

/-- A staging write is kept, with the bytes it writes and no others. -/
theorem Blocks.enterAborting_write (hw : m.write = true) :
    ((b.enterAborting n cause).lane n).memReq = some m
      ∧ ((b.enterAborting n cause).lane n).staging.get m.half = (b.lane n).staging.get m.half
      ∧ ((b.enterAborting n cause).lane n).staging.get m.half.other = [] := by
  have hl : ((b.leavePermit n).withdrawFetch k).lane n = b.lane n := by simp
  have hdrop : (b.abortDrops n k cause).lane n = b.lane n := by
    rw [Blocks.abortDrops_keepsWrite cause hcause, Blocks.dropRead_kept _ n m (by rw [hl]; exact hm) (Or.inl hw), hl]
  obtain ⟨st, ha⟩ := Lane.aborted_spec (b.lane n) cause
  rw [Blocks.enterAborting_lane b cause h, hdrop, Lane.send_memReq, Lane.send_staging,
    Lane.aborted_staging_kept _ cause m hm hw hd]
  exact ⟨by rw [ha]; exact hm, Staging.only_get_same _ _, Staging.only_get_other _ _⟩

theorem Blocks.enterAborting_read (hw : m.write = false) :
    (b.mem.laneReq n = none → ((b.enterAborting n cause).lane n).memReq = some { m with discard := true })
      ∧ (b.mem.laneReq n ≠ none → b.mem.inflight ≠ none → ((b.enterAborting n cause).lane n).memReq = none)
      ∧ ∀ half, ((b.enterAborting n cause).lane n).staging.get half = [] := by
  obtain ⟨hgranted, hwaiting⟩ := Blocks.abortDrops_read cause hcause m hm hd hw
  obtain ⟨st, ha⟩ := Lane.aborted_spec ((b.abortDrops n k cause).lane n) cause
  have hmem : ((b.enterAborting n cause).lane n).memReq = ((b.abortDrops n k cause).lane n).memReq := by
    rw [Blocks.enterAborting_lane b cause h, Lane.send_memReq, ha]
  refine ⟨fun hq => ?_, fun hq hi => ?_, fun half => ?_⟩
  · rw [hmem, hgranted (Blocks.withdrawFetch_laneReq_none _ k n hq)]
  · refine hmem.trans (hwaiting ?_)
    have hreqs : ((b.leavePermit n).withdrawFetch k).mem.laneReqs = b.mem.laneReqs :=
      Blocks.withdrawFetch_laneReqs (b.leavePermit n) k hi
    simpa only [MemPort.laneReq, hreqs] using hq
  · rw [Blocks.enterAborting_lane b cause h, Lane.send_staging, Lane.aborted_staging_empty, Staging.get_empty]
    intro m' hm'
    by_cases hq : ((b.leavePermit n).withdrawFetch k).mem.laneReq n = none
    · rw [hgranted hq] at hm'
      cases hm'
      exact Or.inl hw
    · rw [hwaiting hq] at hm'
      cases hm'

end

/-! ### The halt notice -/

/-- The blocks at which the lane has been told of the halt of the context it serves (R25, R166). -/
def Blocks.noticed (b : Blocks) (n : LaneId) (k : Slot) : Blocks :=
  (b.modCtx k haltingCtx).modLane n fun l => { l with haltNotice := true }

section
variable (b : Blocks) (n : LaneId) (k : Slot)

@[simp] theorem Blocks.noticed_lane : (b.noticed n k).lane n = { b.lane n with haltNotice := true } := by
  rw [Blocks.noticed, Blocks.modLane_lane_same]; rfl

@[simp] theorem Blocks.noticed_ctx : (b.noticed n k).ctx k = haltingCtx (b.ctx k) :=
  b.modCtx_ctx_same k haltingCtx

theorem Blocks.local_noticed : Blocks.Local k b (b.noticed n k) :=
  (Blocks.local_modCtx haltingCtx fun _ => rfl).trans (Blocks.local_modLane _ k n _)

theorem Blocks.apart_noticed : Blocks.Apart n b (b.noticed n k) :=
  (Blocks.Apart.of_lanes n fun _ => rfl).trans (Blocks.apart_modLane _ n _)

theorem Blocks.noticed_unitOf : (b.noticed n k).unitOf k = b.unitOf k := (b.local_noticed n k).toReach.unitOf k

theorem Blocks.noticed_laneOf : (b.noticed n k).laneOf k = b.laneOf k := (b.local_noticed n k).toReach.laneOf k

theorem Blocks.noticed_sent : Lane.Sent (b.lane n) ((b.noticed n k).lane n) [] :=
  .of_wire (by simp) (by simp) (by simp)

variable {n k} (hn : b.laneOf k = n)
include hn

theorem Blocks.haltConnected_eq : b.haltConnected k =
    if (b.lane n).state = .permitWait then
      (((b.noticed n k).leavePermit n).sendDesel n).endServed n [haltClass (some .requested)]
    else if (b.lane n).state = .linkFetch ∧ (b.lane n).dflags.linkData = false then
      (((b.noticed n k).withdrawFetch k).sendDesel n).endServed n [haltClass (some .requested)]
    else (b.noticed n k).haltIfTurn n := by
  have hb : b.haltConnected k = (b.modCtx k haltingCtx).haltNotice n k := by subst hn; rfl
  have hl : ((b.modCtx k haltingCtx).modLane n fun l => { l with haltNotice := true }).lane n =
      { b.lane n with haltNotice := true } := b.noticed_lane n k
  have hc : ((b.modCtx k haltingCtx).modLane n fun l => { l with haltNotice := true }).ctx k = haltingCtx (b.ctx k) :=
    b.noticed_ctx n k
  rw [hb]
  simp only [Blocks.haltNotice, hl, hc]
  rfl

theorem Blocks.haltConnected_other (hp : (b.lane n).state ≠ .permitWait)
    (hf : ¬((b.lane n).state = .linkFetch ∧ (b.lane n).dflags.linkData = false)) :
    b.haltConnected k = (b.noticed n k).haltIfTurn n := by
  rw [b.haltConnected_eq hn, if_neg hp, if_neg hf]

end

/-- Off its turn the lane only goes on. -/
theorem Blocks.haltIfTurn_pump (b : Blocks) (n : LaneId)
    (h : (b.lane n).isLanesTurn = false ∨ (b.lane n).tx ≠ none ∨ (b.lane n).rx.isAssembling = true) :
    b.haltIfTurn n = b.pump n := by
  refine if_neg fun hc => ?_
  simp only [Bool.and_eq_true, Bool.not_eq_true', Option.isNone_iff_eq_none] at hc
  obtain ⟨⟨⟨-, ht⟩, hx⟩, hr⟩ := hc
  rcases h with h | h | h
  · rw [h] at ht; cases ht
  · exact h hx
  · rw [h] at hr; cases hr

/-- At its turn, with no frame sent or received, it aborts. -/
theorem Blocks.haltIfTurn_abort (b : Blocks) (n : LaneId) (hn : (b.lane n).haltNotice = true)
    (ht : (b.lane n).isLanesTurn = true) (hx : (b.lane n).tx = none) (hr : (b.lane n).rx.isAssembling = false) :
    b.haltIfTurn n = b.enterAborting n .halt := by
  simp only [Blocks.haltIfTurn, hn, ht, hx, hr]
  rfl

/-! ### HALT -/

/-- A HALT of a connected context is accepted, whatever its lane then does. -/
theorem halt_connected_exec {s : State} {r : Request} {rest : List Request} {k : Slot} (htaken : taken s r rest .haltUnit)
    (hl : s.blocks.lookup r.lane r.unit = some k) (hs : (s.blocks.ctx k).state = .connected) :
    ∃ t, exec .haltUnit s = .next t ∧ answered s t r rest .accepted 0x64 0 0 ∧ t.pending = s.pending
      ∧ t.blocks = s.blocks.settled (s.blocks.haltConnected k) := by
  have hhalt := (Blocks.doHalt_bound _ _ k hl).trans (s.blocks.haltSlot_connected k hs)
  refine ⟨_, exec_taken htaken rfl, answered_answeredWith s r rest _ (by rw [hhalt]; rfl), rfl, ?_⟩
  rw [State.answeredWith_blocks, hhalt]

section
variable {s t : State} {n : LaneId} {k : Slot}

/-- Where the lane goes on without a word and without a service choice. -/
theorem halt_pumped {c : Blocks} (hp : t.pending = s.pending)
    (hc : Blocks.MemOnly n (s.blocks.noticed n k) c) (ht : t.blocks = s.blocks.settled c) :
    elsewhere s t ∧ t.blocks.ctx k = haltingCtx (s.blocks.ctx k) ∧ otherCtxs s t k ∧ otherLanes s t n := by
  have hloc := (s.blocks.local_noticed n k).trans (hc.toLocal k)
  have hap := (s.blocks.apart_noticed n k).trans hc.apart
  refine ⟨elsewhere_of_local (k := k) (by rw [ht]; exact hloc.settled _) hp, ?_, ?_, ?_⟩
  · rw [ht, Blocks.settled_ctx, Blocks.ctx, hc.ctxs]
    exact s.blocks.noticed_ctx n k
  · rw [otherCtxs, ht]; exact hloc.ctx_ne
  · rw [otherLanes, ht]; exact hap

/-- Where the lane deselects the unit and ends the context: `c` are the blocks at which it does. -/
theorem halt_deselected {c : Blocks} (hc : Blocks.Reach k s.blocks c) (hctx : c.ctx k = haltingCtx (s.blocks.ctx k))
    (hlane : c.lane n = { s.blocks.lane n with haltNotice := true }) (hap : Blocks.Apart n s.blocks c)
    (hn : s.blocks.laneOf k = n) (hserved : serving s n k)
    (ht : t.blocks = s.blocks.settled ((c.sendDesel n).endServed n [haltClass (some .requested)])) :
    reportedAs t k .halted ∧ (t.blocks.ctx k).flags.haltRequested = true
      ∧ (t.blocks.ctx k).residual = (s.blocks.lane n).residual ∧ sendsFirst s t n (.desel (s.blocks.unitOf k))
      ∧ otherCtxs s t k ∧ otherLanes s t n := by
  have hs : (c.lane n).served = some ⟨k, .connection⟩ := by rw [hlane]; exact hserved
  have hfree : (c.ctx k).state ≠ .free := by rw [hctx]; nofun
  obtain ⟨l, hres, hend⟩ := Blocks.deselEnd_ctx [haltClass (some .requested)] hs hfree
  have htk : t.blocks.ctx k = ((haltingCtx (s.blocks.ctx k)).writtenBack l).toReported k [haltClass (some .requested)] := by
    rw [ht, Blocks.settled_ctx, hend, hctx]
  obtain ⟨more, hsent⟩ := Blocks.deselEnd_sent [haltClass (some .requested)] hs
  have hsent0 : Lane.Sent (s.blocks.lane n) (c.lane n) [] := .of_wire (by rw [hlane]) (by rw [hlane]) (by rw [hlane])
  refine ⟨reportedAs_of htk rfl, by rw [htk]; rfl, ?_, sendsFirst_of_sent ⟨more, ?_⟩, ?_, ?_⟩
  · rw [htk]
    show l.residual = _
    rw [hres, hlane]
  · rw [ht, Blocks.settled_lane, ← hc.unitOf]
    exact hsent0.trans hsent
  · rw [otherCtxs, ht]
    exact (hc.trans (Blocks.local_deselEnd _ hs).toReach).ctx_ne
  · rw [otherLanes, ht]
    exact hap.trans (Blocks.apart_deselEnd _ hs (by rw [hc.laneOf, hn]))

end

/-- The hypotheses of every clause: the handler takes a HALT of the connected context of slot `k`, on its own lane. -/
def haltOfConnected (s : State) (r : Request) (rest : List Request) (k : Slot) : Prop :=
  taken s r rest .haltUnit ∧ s.blocks.lookup r.lane r.unit = some k ∧ (s.blocks.ctx k).state = .connected
    ∧ s.blocks.laneOf k = r.lane

section
variable {s : State} {r : Request} {rest : List Request} {k : Slot} (h : haltOfConnected s r rest k)
include h

theorem halt_in_permitWait (hserved : serving s r.lane k) (hst : (s.blocks.lane r.lane).state = .permitWait) :
    ∃ t, exec .haltUnit s = .next t ∧ answered s t r rest .accepted 0x64 0 0 ∧ reportedAs t k .halted
      ∧ sendsFirst s t r.lane (.desel (s.blocks.unitOf k)) ∧ r.lane ∉ t.blocks.window.permits
      ∧ t.blocks.window.ledger = s.blocks.window.ledger ∧ otherCtxs s t k ∧ otherLanes s t r.lane := by
  obtain ⟨htaken, hl, hs, hn⟩ := h
  obtain ⟨t, hexec, hans, -, ht⟩ := halt_connected_exec htaken hl hs
  rw [s.blocks.haltConnected_eq hn, if_pos hst] at ht
  generalize hc : (s.blocks.noticed r.lane k).leavePermit r.lane = c at ht
  have hreach : Blocks.Reach k (s.blocks.noticed r.lane k) c := by rw [← hc]; exact .of_ctxs k rfl rfl rfl rfl
  have hcl : ∀ m, c.lane m = (s.blocks.noticed r.lane k).lane m := by rw [← hc]; exact fun _ => rfl
  have hck : c.ctx k = haltingCtx (s.blocks.ctx k) := by rw [← hc]; exact s.blocks.noticed_ctx r.lane k
  have hserved' : (c.lane r.lane).served = some ⟨k, .connection⟩ := by rw [hcl, Blocks.noticed_lane]; exact hserved
  obtain ⟨hrep, -, -, hsend, hother, hlanes⟩ := halt_deselected ((s.blocks.local_noticed _ k).toReach.trans hreach) hck
    (by rw [hcl, Blocks.noticed_lane]) ((s.blocks.apart_noticed _ k).trans (.of_lanes _ hcl)) hn hserved ht
  have hwin : t.blocks.window = c.window := by
    rw [ht, Blocks.settled_window, (Blocks.local_deselEnd _ hserved').window]
  refine ⟨t, hexec, hans, hrep, hsend, ?_, ?_, hother, hlanes⟩
  · rw [hwin, ← hc]; simp [Blocks.leavePermit]
  · rw [hwin, ← hc]; rfl

theorem halt_in_commanding (hst : (s.blocks.lane r.lane).state = .commanding) :
    ∃ t, exec .haltUnit s = .next t ∧ answered s t r rest .accepted 0x64 0 0 ∧ elsewhere s t
      ∧ t.blocks.lane r.lane = { s.blocks.lane r.lane with haltNotice := true }
      ∧ t.blocks.ctx k = haltingCtx (s.blocks.ctx k) ∧ otherCtxs s t k ∧ otherLanes s t r.lane := by
  obtain ⟨htaken, hl, hs, hn⟩ := h
  obtain ⟨t, hexec, hans, hp, ht⟩ := halt_connected_exec htaken hl hs
  have hl : ((s.blocks.noticed r.lane k).lane r.lane).state = .commanding := by simpa using hst
  rw [s.blocks.haltConnected_other hn (by simp [hst]) (by simp [hst]),
    Blocks.haltIfTurn_pump _ _ (Or.inl (by rw [Lane.isLanesTurn, hl])),
    Blocks.pump_quiet _ _ (by simp [hst]) (by simp [hst]) (by simp [hst])] at ht
  obtain ⟨helse, hctx, hother, hlanes⟩ := halt_pumped hp (.refl _ _) ht
  exact ⟨t, hexec, hans, helse, by rw [ht, Blocks.settled_lane, Blocks.noticed_lane], hctx, hother, hlanes⟩

theorem halt_in_linkFetch (d : Descriptor) (hserved : serving s r.lane k)
    (hst : (s.blocks.lane r.lane).state = .linkFetch) (hd : (s.blocks.lane r.lane).desc = some d)
    (hld : d.flags.linkData = false) :
    ∃ t, exec .haltUnit s = .next t ∧ answered s t r rest .accepted 0x64 0 0 ∧ elsewhere s t ∧ reportedAs t k .halted
      ∧ (t.blocks.ctx k).flags.haltRequested = true ∧ (t.blocks.ctx k).residual = (s.blocks.lane r.lane).residual
      ∧ sendsFirst s t r.lane (.desel (s.blocks.unitOf k)) ∧ claimWithdrawn s t k ∧ otherCtxs s t k
      ∧ otherLanes s t r.lane := by
  obtain ⟨htaken, hl, hs, hn⟩ := h
  obtain ⟨t, hexec, hans, hp, ht⟩ := halt_connected_exec htaken hl hs
  have hflags : (s.blocks.lane r.lane).dflags.linkData = false := by rw [Lane.dflags, hd]; exact hld
  rw [s.blocks.haltConnected_eq hn, if_neg (by rw [hst]; nofun), if_pos ⟨hst, hflags⟩] at ht
  generalize hc : (s.blocks.noticed r.lane k).withdrawFetch k = c at ht
  have hloc : Blocks.Local k s.blocks c := by
    rw [← hc]; exact (s.blocks.local_noticed r.lane k).trans (Blocks.local_withdrawFetch _ k k)
  have hcl : ∀ m, c.lane m = (s.blocks.noticed r.lane k).lane m := by rw [← hc]; simp
  have hck : c.ctx k = haltingCtx (s.blocks.ctx k) := by
    rw [← hc, Blocks.ctx, Blocks.withdrawFetch_ctxs]; exact s.blocks.noticed_ctx r.lane k
  have hserved' : (c.lane r.lane).served = some ⟨k, .connection⟩ := by rw [hcl, Blocks.noticed_lane]; exact hserved
  obtain ⟨hrep, hflag, hres, hsend, hother, hlanes⟩ := halt_deselected hloc.toReach hck
    (by rw [hcl, Blocks.noticed_lane]) ((s.blocks.apart_noticed _ k).trans (.of_lanes _ hcl)) hn hserved ht
  have hnone : (c.sendDesel r.lane).noClaim k := by
    have h0 := (s.blocks.noticed r.lane k).withdrawFetch_noClaim k
    rw [hc] at h0
    exact h0
  obtain ⟨hf, hq, hm⟩ := Blocks.endServed_noClaim (c.sendDesel r.lane) k r.lane [haltClass (some .requested)]
    (Blocks.sendDesel_served hserved') hnone
  have hclaim : claimWithdrawn s t k := by
    refine claimWithdrawn_of (b := s.blocks.noticed r.lane k) rfl rfl rfl (fun j hj => ?_) ?_ ?_ ?_
    · rw [(s.blocks.local_noticed r.lane k).ctx_ne j hj]
    · rw [ht, Blocks.settled_fetch, hf, hc]; rfl
    · rw [ht, Blocks.settled_fetchQ, hq, hc]; rfl
    · rw [ht, Blocks.settled_mem, hm, hc]; rfl
  refine ⟨t, hexec, hans, elsewhere_of_local (k := k) ?_ hp, hrep, hflag, hres, hsend, hclaim, hother, hlanes⟩
  rw [ht]
  exact (hloc.trans (Blocks.local_deselEnd _ hserved')).settled _

theorem halt_at_lanesTurn (d : Descriptor) (hserved : serving s r.lane k) (hd : (s.blocks.lane r.lane).desc = some d)
    (htx : (s.blocks.lane r.lane).tx = none) (hrx : (s.blocks.lane r.lane).rx.isAssembling = false)
    (hturn : ((s.blocks.lane r.lane).state = .transfer ∧ (s.blocks.lane r.lane).timer = none) ∨
      ((s.blocks.lane r.lane).state = .linkFetch ∧ d.flags.linkData = true)) :
    ∃ t, exec .haltUnit s = .next t ∧ answered s t r rest .accepted 0x64 0 0 ∧ aborts s t r.lane k .halt
      ∧ t.blocks.ctx k = haltingCtx (s.blocks.ctx k) ∧ otherCtxs s t k
      ∧ ((s.blocks.lane r.lane).memReq = none →
          claimWithdrawn s t k ∧ ∀ h, (t.blocks.lane r.lane).staging.get h = [])
      ∧ ∀ m, (s.blocks.lane r.lane).memReq = some m → m.discard = false →
          (m.write = true →
            (t.blocks.lane r.lane).memReq = some m
              ∧ (t.blocks.lane r.lane).staging.get m.half = (s.blocks.lane r.lane).staging.get m.half
              ∧ (t.blocks.lane r.lane).staging.get m.half.other = [])
          ∧ (m.write = false →
            (s.blocks.mem.laneReq r.lane = none →
                (t.blocks.lane r.lane).memReq = some { m with discard := true })
              ∧ (s.blocks.mem.laneReq r.lane ≠ none → s.blocks.mem.inflight ≠ none →
                (t.blocks.lane r.lane).memReq = none)
              ∧ ∀ h, (t.blocks.lane r.lane).staging.get h = []) := by
  obtain ⟨htaken, hl, hs, hn⟩ := h
  obtain ⟨t, hexec, hans, hp, ht⟩ := halt_connected_exec htaken hl hs
  have hflags : (s.blocks.lane r.lane).dflags = d.flags := by rw [Lane.dflags, hd]
  have hlane := s.blocks.noticed_lane r.lane k
  generalize hb : s.blocks.noticed r.lane k = b at hlane
  have hmine : b.haltIfTurn r.lane = b.enterAborting r.lane .halt := by
    refine b.haltIfTurn_abort r.lane (by rw [hlane]) ?_ (by rw [hlane]; exact htx) (by rw [hlane]; exact hrx)
    rw [hlane]
    rcases hturn with ⟨hst, htm⟩ | ⟨hst, hld⟩
    · simp [Lane.isLanesTurn, hst, htm, htx]
    · simp [Lane.isLanesTurn, hst, Lane.dflags, hd, hld]
  rw [s.blocks.haltConnected_other hn (by rcases hturn with ⟨h, -⟩ | ⟨h, -⟩ <;> simp [h])
    (by rcases hturn with ⟨h, -⟩ | ⟨-, h⟩ <;> simp [h, hflags]), hb, hmine] at ht
  have hserved' : (b.lane r.lane).served = some ⟨k, .connection⟩ := by rw [hlane]; exact hserved
  have htl : t.blocks.lane r.lane = (b.enterAborting r.lane .halt).lane r.lane := by rw [ht, Blocks.settled_lane]
  have hmr : (s.blocks.lane r.lane).memReq = (b.lane r.lane).memReq := by rw [hlane]
  have hsg : (s.blocks.lane r.lane).staging = (b.lane r.lane).staging := by rw [hlane]
  have hmem : s.blocks.mem = b.mem := by rw [← hb]; rfl
  have hloc : Blocks.Local k s.blocks b := by rw [← hb]; exact s.blocks.local_noticed r.lane k
  refine ⟨t, hexec, hans, ?_, ?_, ?_, fun hm => ⟨?_, ?_⟩, fun m hm hdis => ?_⟩
  · refine aborts_of_enterAborting .halt hserved' ?_ (hloc.toReach.unitOf k) (by rw [hloc.window]) ?_ ht
    · rw [← hb]; exact s.blocks.noticed_sent r.lane k
    · rw [← hb]; exact s.blocks.apart_noticed r.lane k
  · rw [ht, Blocks.settled_ctx, Blocks.ctx, b.enterAborting_ctxs .halt hserved', ← hb]
    exact s.blocks.noticed_ctx r.lane k
  · rw [otherCtxs, ht]
    exact (hloc.toReach.trans (b.reach_enterAborting .halt hserved')).ctx_ne
  · obtain ⟨hq, hm', -, -⟩ := b.enterAborting_idle .halt hserved' (hmr ▸ hm)
    refine claimWithdrawn_of (b := b.leavePermit r.lane) ?_ ?_ hmem.symm (fun j hj => ?_) ?_ ?_ ?_
    · rw [← hb]; rfl
    · rw [← hb]; rfl
    · rw [← hloc.ctx_ne j hj]; rfl
    · rw [ht, Blocks.settled_fetch, b.enterAborting_fetch .halt hserved']
    · rw [ht, Blocks.settled_fetchQ, hq]
    · rw [ht, Blocks.settled_mem, hm']
  · rw [htl]
    exact (b.enterAborting_idle .halt hserved' (hmr ▸ hm)).2.2.2
  · rw [htl, hsg, hmem]
    exact ⟨Blocks.enterAborting_write .halt rfl hserved' m (hmr ▸ hm) hdis,
      Blocks.enterAborting_read .halt rfl hserved' m (hmr ▸ hm) hdis⟩

/-- Off its turn the lane is told, and goes on asking the memory port. -/
theorem halt_off_turn
    (hcase : ((s.blocks.lane r.lane).state = .transfer ∧
        ((s.blocks.lane r.lane).timer ≠ none ∨ (s.blocks.lane r.lane).tx ≠ none ∨
          (s.blocks.lane r.lane).rx.isAssembling = true)) ∨
      ((s.blocks.lane r.lane).state = .linkFetch ∧
        (∀ d, (s.blocks.lane r.lane).desc = some d → d.flags.linkData = true) ∧ (s.blocks.lane r.lane).desc ≠ none ∧
        ((s.blocks.lane r.lane).tx ≠ none ∨ (s.blocks.lane r.lane).rx.isAssembling = true)) ∨
      ((s.blocks.lane r.lane).state = .ending ∧ (s.blocks.lane r.lane).closing = none)) :
    ∃ t, exec .haltUnit s = .next t ∧ answered s t r rest .accepted 0x64 0 0 ∧ elsewhere s t
      ∧ (t.blocks.lane r.lane).haltNotice = true
      ∧ (t.blocks.lane r.lane).state = (s.blocks.lane r.lane).state
      ∧ (t.blocks.lane r.lane).closing = (s.blocks.lane r.lane).closing
      ∧ (t.blocks.lane r.lane).timer = (s.blocks.lane r.lane).timer
      ∧ (t.blocks.lane r.lane).tx = (s.blocks.lane r.lane).tx
      ∧ (t.blocks.lane r.lane).txQueue = (s.blocks.lane r.lane).txQueue
      ∧ t.blocks.fetch = s.blocks.fetch ∧ t.blocks.fetchQ = s.blocks.fetchQ
      ∧ t.blocks.ctx k = haltingCtx (s.blocks.ctx k) ∧ otherCtxs s t k ∧ otherLanes s t r.lane := by
  obtain ⟨htaken, hl, hs, hn⟩ := h
  obtain ⟨t, hexec, hans, hp, ht⟩ := halt_connected_exec htaken hl hs
  have hlane := s.blocks.noticed_lane r.lane k
  have hgoes : s.blocks.haltConnected k = (s.blocks.noticed r.lane k).pump r.lane
      ∧ Blocks.MemOnly r.lane (s.blocks.noticed r.lane k) ((s.blocks.noticed r.lane k).pump r.lane) := by
    rcases hcase with ⟨hst, hbusy⟩ | ⟨hst, hld, hdn, hbusy⟩ | ⟨hst, hcl⟩
    · rw [s.blocks.haltConnected_other hn (by simp [hst]) (by simp [hst]), Blocks.haltIfTurn_pump]
      · refine ⟨rfl, Blocks.memOnly_transfer _ _ (by rw [hlane]; exact hst) ?_⟩
        rw [hlane]
        exact Or.inr (Or.inr rfl)
      · rw [hlane]
        rcases hbusy with htm | hbusy
        · exact Or.inl (by simp [Lane.isLanesTurn, hst, htm])
        · exact Or.inr hbusy
    · obtain ⟨d, hd⟩ := Option.ne_none_iff_exists'.mp hdn
      rw [s.blocks.haltConnected_other hn (by simp [hst]) (by simp [Lane.dflags, hd, hld d hd]), Blocks.haltIfTurn_pump,
        Blocks.pump_quiet _ _ (by simp [hst]) (by simp [hst]) (by simp [hst])]
      · exact ⟨rfl, .refl _ _⟩
      · rw [hlane]
        exact Or.inr hbusy
    · rw [s.blocks.haltConnected_other hn (by simp [hst]) (by simp [hst]), Blocks.haltIfTurn_pump]
      · exact ⟨rfl, Blocks.memOnly_ending _ _ (by rw [hlane]; exact hst) (Or.inl (by rw [hlane]; exact hcl))⟩
      · rw [hlane]
        exact Or.inl (by simp [Lane.isLanesTurn, hst])
  obtain ⟨heq, hmem⟩ := hgoes
  rw [heq] at ht
  obtain ⟨helse, hctx, hother, hlanes⟩ := halt_pumped hp hmem ht
  obtain ⟨mr, sa, st, htl⟩ := hmem.lane
  rw [hlane] at htl
  refine ⟨t, hexec, hans, helse, ?_, ?_, ?_, ?_, ?_, ?_, ?_, ?_, hctx, hother, hlanes⟩
  any_goals rw [ht, Blocks.settled_lane, htl]
  · rw [ht, Blocks.settled_fetch, hmem.fetch]; rfl
  · rw [ht, Blocks.settled_fetchQ, hmem.fetchQ]; rfl

/-- With memory work outstanding, or END awaited, the ending runs on. -/
theorem halt_in_ending
    (hcase : ((s.blocks.lane r.lane).state = .ending ∧ (s.blocks.lane r.lane).memReq ≠ none) ∨
      ((s.blocks.lane r.lane).state = .aborting ∧
        ((s.blocks.lane r.lane).abortPhase = .awaiting ∨ (s.blocks.lane r.lane).memReq ≠ none))) :
    ∃ t, exec .haltUnit s = .next t ∧ answered s t r rest .accepted 0x64 0 0 ∧ elsewhere s t
      ∧ t.blocks.lane r.lane = { s.blocks.lane r.lane with haltNotice := true }
      ∧ t.blocks.ctx k = haltingCtx (s.blocks.ctx k) ∧ otherCtxs s t k ∧ otherLanes s t r.lane := by
  obtain ⟨htaken, hl, hs, hn⟩ := h
  obtain ⟨t, hexec, hans, hp, ht⟩ := halt_connected_exec htaken hl hs
  have hlane := s.blocks.noticed_lane r.lane k
  have hgoes : s.blocks.haltConnected k = s.blocks.noticed r.lane k := by
    rcases hcase with ⟨hst, hm⟩ | ⟨hst, hphase⟩
    · rw [s.blocks.haltConnected_other hn (by simp [hst]) (by simp [hst]),
        Blocks.haltIfTurn_pump _ _ (Or.inl (by rw [hlane]; simp [Lane.isLanesTurn, hst])),
        Blocks.pump_ending_outstanding _ _ (by rw [hlane]; exact hst) (by rw [hlane]; exact hm)]
    · rw [s.blocks.haltConnected_other hn (by simp [hst]) (by simp [hst]),
        Blocks.haltIfTurn_pump _ _ (Or.inl (by rw [hlane]; simp [Lane.isLanesTurn, hst]))]
      rcases hphase with hphase | hm
      · exact Blocks.pump_awaiting _ _ (by rw [hlane]; exact hst) (by rw [hlane]; exact hphase)
      · exact Blocks.pump_aborting_outstanding _ _ (by rw [hlane]; exact hst) (by rw [hlane]; exact hm)
  rw [hgoes] at ht
  obtain ⟨helse, hctx, hother, hlanes⟩ := halt_pumped hp (.refl _ _) ht
  exact ⟨t, hexec, hans, helse, by rw [ht, Blocks.settled_lane, hlane], hctx, hother, hlanes⟩

end

/-- Settles O18, one lemma for each phase of the lane (R167, R168, R170). -/
theorem haltOfAConnectedContext : Obligations.HaltOfAConnectedContext :=
  ⟨fun _ _ _ _ h hl hs hn => halt_in_permitWait ⟨h, hl, hs, hn⟩,
    fun _ _ _ _ h hl hs hn => halt_in_commanding ⟨h, hl, hs, hn⟩,
    fun _ _ _ _ d h hl hs hn => halt_in_linkFetch ⟨h, hl, hs, hn⟩ d,
    fun _ _ _ _ d h hl hs hn hserved hd htx hrx hturn => halt_at_lanesTurn ⟨h, hl, hs, hn⟩ d hserved hd htx hrx hturn,
    fun _ _ _ _ h hl hs hn => halt_off_turn ⟨h, hl, hs, hn⟩,
    fun _ _ _ _ h hl hs hn => halt_in_ending ⟨h, hl, hs, hn⟩⟩

end Sys2Proof.Machine

/-!
The completion of a fetch: a delivery, a chain fault, a JUMP (R12 to R14, R69 to R71, R114).
-/
namespace Sys2Proof.Machine

open Sys2Proof.Claims

/-! ### An event that asks for no permit -/

/-- An event that leaves no decision owed which was not owed before is one of the blocks alone. -/
theorem State.onBlocksAsking_of_unasked (s : State) (f : Blocks → Blocks)
    (h : (f s.blocks).window.asked = true → s.blocks.window.asked = true) : s.onBlocksAsking f = s.onBlocks f := by
  cases hs : s.blocks.window.asked with
  | true => simp [State.onBlocksAsking, State.onBlocks, hs]
  | false => exact s.onBlocksAsking_of_same f (by rw [hs]; simpa [hs] using h)

/-! ### The read of a fetch completes -/

theorem isError_any_of_succeeds {resps : List BusResp} (h : burstSucceeds resps) : resps.any BusResp.isError = false := by
  rw [List.any_eq_false]
  intro p hp
  rcases h p hp with rfl | rfl <;> decide

theorem isError_any_of_errs {resps : List BusResp} (h : burstErrs resps) : resps.any BusResp.isError = true := by
  obtain ⟨p, hp, hcase⟩ := h
  rw [List.any_eq_true]
  refine ⟨p, hp, ?_⟩
  rcases hcase with rfl | rfl <;> decide

/-- The fetch `f` is in progress and its read in flight at its last burst, nothing of it marked. -/
def Blocks.reading (b : Blocks) (f : Fetch) (x : Txn) : Prop :=
  b.fetch = some f ∧ f.discard = false ∧ b.mem.inflight = some x ∧ x.requester = .fetcher ∧ x.req.kind = .descriptor
    ∧ x.toIssue = [] ∧ x.buffer = [] ∧ x.error = false ∧ x.discard = false

/-- The blocks at which the outcome of a fetch is handed on: the port has decided, the fetcher is idle. -/
def Blocks.fetchDone (b : Blocks) : Blocks := { b.portNext with fetch := none }

section
variable (b : Blocks)

@[simp] theorem Blocks.fetchDone_fetch : b.fetchDone.fetch = none := rfl
@[simp] theorem Blocks.fetchDone_fetchQ : b.fetchDone.fetchQ = b.fetchQ := by simp [Blocks.fetchDone]
@[simp] theorem Blocks.fetchDone_ctxs : b.fetchDone.ctxs = b.ctxs := by simp [Blocks.fetchDone]
@[simp] theorem Blocks.fetchDone_ctx (k : Slot) : b.fetchDone.ctx k = b.ctx k := by simp [Blocks.ctx]
@[simp] theorem Blocks.fetchDone_lane (n : LaneId) : b.fetchDone.lane n = b.lane n := by
  show b.portNext.lane n = _
  simp
@[simp] theorem Blocks.fetchDone_laneOf (k : Slot) : b.fetchDone.laneOf k = b.laneOf k := by simp [Blocks.laneOf]
@[simp] theorem Blocks.fetchDone_unitOf (k : Slot) : b.fetchDone.unitOf k = b.unitOf k := by simp [Blocks.unitOf]
@[simp] theorem Blocks.fetchDone_window : b.fetchDone.window = b.window := by simp [Blocks.fetchDone]

theorem Blocks.local_fetchDone (k : Slot) : Blocks.Local k b b.fetchDone :=
  .of_ctxs k (by simp) (by simp [Blocks.fetchDone]) (by simp [Blocks.fetchDone]) (by simp [Blocks.fetchDone]) (by simp)

variable {b}

/-- With no other entry queued the outcome is handed on, and the fetcher then looks for its next fetch. -/
theorem Blocks.burstDone_fetch {f : Fetch} {x : Txn} {resps : List BusResp} {bytes : List Byte} (h : b.reading f x)
    (ha : x.answeredBy resps bytes = true) (hq : b.fetchQ = []) {e : FetchEnd}
    (hj : f.judge (b.ctx f.slot) (resps.any BusResp.isError) bytes = .ends e) :
    b.burstDone resps bytes = (b.fetchDone.handOn f e).fetchBegin := by
  obtain ⟨hf, hfd, hx, hwho, -, hlast, hbuf, herr, hdis⟩ := h
  have hq' : b.portNext.fetchQ = [] := by simpa using hq
  rw [b.burstDone_last x resps bytes hx ha hlast]
  simp only [Blocks.completeTxn, Txn.took, hwho, hdis, hbuf, herr, List.nil_append, Bool.false_or, Bool.false_eq_true,
    if_false, Blocks.fetchRead, Blocks.portNext_fetch, Blocks.portNext_ctx, hf, hfd, hj]
  exact if_pos (by rw [hq']; rfl)

end

/-- The event at which a fetch ends with `e`: `c` are the blocks its outcome leads to. -/
theorem exec_fetch_ends {s : State} {f : Fetch} {x : Txn} {resps : List BusResp} {bytes : List Byte}
    (h : s.blocks.reading f x) (ha : x.answeredBy resps bytes = true) (hq : s.blocks.fetchQ = []) {e : FetchEnd}
    (hj : f.judge (s.blocks.ctx f.slot) (resps.any BusResp.isError) bytes = .ends e) {c : Blocks}
    (hc : s.blocks.fetchDone.handOn f e = c) (hcq : c.fetchQ = [])
    (hw : c.window.asked = true → s.blocks.window.asked = true) :
    ∃ t, exec (.memoryBurstResponse resps bytes) s = .next t ∧ t.port = s.port ∧ t.pending = s.pending
      ∧ t.blocks = s.blocks.settled c := by
  have hd : s.blocks.burstDone resps bytes = c := by
    rw [Blocks.burstDone_fetch h ha hq hj, hc, Blocks.fetchBegin_empty c hcq]
  refine ⟨s.onBlocks fun b => b.burstDone resps bytes, ?_, rfl, rfl, ?_⟩
  · rw [← s.onBlocksAsking_of_unasked _ (by rw [hd]; exact hw)]
    rfl
  · rw [State.onBlocks_blocks, hd]

/-- The read of the statements, and the responses that answer its burst. -/
theorem descriptorRead_reading {s : State} {f : Fetch} (h : descriptorRead s f) : ∃ x, s.blocks.reading f x
    ∧ s.blocks.fetchQ = []
    ∧ ∀ (resps : List BusResp) (bytes : List Byte), resps.length = 2 → bytes.length = 16 →
        x.answeredBy resps bytes = true := by
  obtain ⟨hf, hd, hq, hx⟩ := h
  refine ⟨_, ⟨hf, hd, hx, rfl, rfl, rfl, rfl, rfl, rfl⟩, hq, fun resps bytes hr hb => ?_⟩
  simp [Txn.answeredBy, Txn.isWrite, hr, hb]

/-! ### What a read leads to (R69) -/

theorem Fetch.judge_faults {f : Fetch} {linked : Option Descriptor} {resps : List BusResp} {bytes : List Byte}
    {reason : Reason} (h : faults f linked resps bytes reason) (c : Context) (hc : ∀ d, linked = some d → c.desc = some d) :
    f.judge c (resps.any BusResp.isError) bytes = .ends (.fault reason) := by
  rcases h with ⟨herr, rfl⟩ | ⟨hok, hbad, rfl⟩ | ⟨hok, ⟨target, hjump⟩, hrun, rfl⟩ | ⟨hok, hcls, rfl, d, e, he, hd, hld, hdir⟩
  · simp only [Fetch.judge, isError_any_of_errs herr, if_true]
  · simp [Fetch.judge, isError_any_of_succeeds hok, hbad]
  · simp [Fetch.judge, isError_any_of_succeeds hok, hjump, hrun]
  · simp [Fetch.judge, isError_any_of_succeeds hok, he, hcls, Context.linkDirection, hc d hd, hld, hdir]

/-- A TRANSFER is delivered, unless a link-data descriptor of another direction stands before it. -/
theorem Fetch.judge_delivers {f : Fetch} {resps : List BusResp} {bytes : List Byte} {d : Descriptor}
    (hok : burstSucceeds resps) (hr : readDescriptor f.addr bytes = some (.transfer d)) (c : Context)
    (hc : f.cls = .link → ∀ dir, c.linkDirection = some dir → d.dir = dir) :
    f.judge c (resps.any BusResp.isError) bytes = .ends (.delivery d) := by
  simp only [Fetch.judge, isError_any_of_succeeds hok, hr, Bool.false_eq_true, if_false]
  split
  · rename_i dir hcls hdir
    rw [if_pos (hc hcls dir hdir)]
  · rfl
  · rfl

theorem Fetch.judge_follows {f : Fetch} {resps : List BusResp} {bytes : List Byte} {target : Addr48}
    (hok : burstSucceeds resps) (hr : readDescriptor f.addr bytes = some (.jump target)) (hrun : f.run < 4) (c : Context) :
    f.judge c (resps.any BusResp.isError) bytes = .follow target := by
  simp [Fetch.judge, isError_any_of_succeeds hok, hr, Nat.not_le.mpr hrun]

/-! ### A chain fault -/

/-- The record with the address at fault (R14). -/
def Context.faultAt (c : Context) (addr : Addr48) : Context := { c with chainAddr := addr }

section
variable (b : Blocks) (k : Slot) (reason : Reason) (addr : Addr48)

theorem Blocks.local_faultAt : Blocks.Local k b (b.setCtx k ((b.ctx k).faultAt addr)) := Blocks.local_setCtx _ rfl

theorem Blocks.chainFault_loading (h : (b.ctx k).state = .loading) :
    b.chainFault k reason addr = (b.setCtx k ((b.ctx k).faultAt addr)).endContext k
      [if (b.ctx k).haltCause.isSome then haltClass (b.ctx k).haltCause else ⟨.chainFault, some reason⟩] := by
  simp only [Blocks.chainFault, Context.faultAt, h]

theorem Blocks.chainFault_connected (h : (b.ctx k).state = .connected) (n : LaneId) (hn : b.laneOf k = n) :
    b.chainFault k reason addr =
      if (b.lane n).dflags.linkData then (b.setCtx k ((b.ctx k).faultAt addr)).enterAborting n (.chainFault reason)
      else ((b.setCtx k ((b.ctx k).faultAt addr)).sendDesel n).endServed n [⟨.chainFault, some reason⟩] := by
  simp only [Blocks.chainFault, Context.faultAt, h, hn]

end

/-- An idle fetcher with an empty queue has no claim of any slot. -/
theorem Blocks.noClaim_of_idle {b : Blocks} (k : Slot) (hf : b.fetch = none) (hq : b.fetchQ = []) : b.noClaim k :=
  ⟨by simp [hq], fun f hf' _ => by rw [hf] at hf'; cases hf'⟩

/-- A chain fault of a LOADING context. -/
theorem chainFault_of_loading (s : State) (f : Fetch) (reason : Reason) (resps : List BusResp) (bytes : List Byte)
    (h : descriptorRead s f) (hr : resps.length = 2) (hb : bytes.length = 16) (hf : faults f none resps bytes reason)
    (hs : (s.blocks.ctx f.slot).state = .loading) :
    ∃ t rep, exec (.memoryBurstResponse resps bytes) s = .next t ∧ t.port = s.port ∧ elsewhere s t
      ∧ t.blocks.fetch = none ∧ otherCtxs s t f.slot ∧ (t.blocks.ctx f.slot).chainAddr = f.addr
      ∧ (t.blocks.ctx f.slot).desc = (s.blocks.ctx f.slot).desc
      ∧ (t.blocks.ctx f.slot).final = some rep ∧ rep.descAddr = f.addr
      ∧ ((s.blocks.ctx f.slot).haltCause = none → reportedAs t f.slot .chainFault ∧ rep.reason = some reason)
      ∧ ((s.blocks.ctx f.slot).haltCause = some .requested → reportedAs t f.slot .halted ∧ rep.reason = none) := by
  obtain ⟨x, hread, hq, hans⟩ := descriptorRead_reading h
  have hfree : (s.blocks.ctx f.slot).state ≠ .free := by rw [hs]; nofun
  have hc := s.blocks.fetchDone.chainFault_loading f.slot reason f.addr (by simpa using hs)
  generalize hb1 : s.blocks.fetchDone.setCtx f.slot ((s.blocks.fetchDone.ctx f.slot).faultAt f.addr) = b1 at hc
  generalize hnamed : [if (s.blocks.fetchDone.ctx f.slot).haltCause.isSome then _ else _] = named at hc
  have hloc1 : Blocks.Local f.slot s.blocks b1 := by
    rw [← hb1]; exact (s.blocks.local_fetchDone f.slot).trans (Blocks.local_faultAt _ _ _)
  have hctx1 : b1.ctx f.slot = (s.blocks.ctx f.slot).faultAt f.addr := by
    rw [← hb1, Blocks.setCtx_ctx_same, Blocks.fetchDone_ctx]
  obtain ⟨hfetch, hfq, -⟩ := b1.endContext_noClaim f.slot named
    (Blocks.noClaim_of_idle _ (by rw [← hb1]; rfl) (by rw [← hb1]; simpa using hq))
  have hloc := hloc1.trans (Blocks.local_endContext b1 f.slot named)
  obtain ⟨t, hexec, hport, hp, ht⟩ := exec_fetch_ends hread (hans resps bytes hr hb) hq
    (Fetch.judge_faults hf _ (by nofun)) hc (by rw [hfq, ← hb1]; simpa using hq) (by rw [hloc.window]; exact id)
  have htk : t.blocks.ctx f.slot = ((s.blocks.ctx f.slot).faultAt f.addr).toReported f.slot named := by
    rw [ht, Blocks.settled_ctx, Blocks.endContext_ctx_same _ _ _ (by rw [hctx1]; exact hfree), hctx1]
  refine ⟨t, _, hexec, hport, elsewhere_of_local (by rw [ht]; exact hloc.settled _) hp, ?_, ?_, by rw [htk]; rfl,
    by rw [htk]; rfl, by rw [htk]; rfl, rfl, fun hcause => ?_, fun hcause => ?_⟩
  · rw [ht, Blocks.settled_fetch, hfetch, ← hb1]; rfl
  · rw [otherCtxs, ht]; exact hloc.ctx_ne
  all_goals
    simp only [Blocks.fetchDone_ctx, hcause] at hnamed
    subst hnamed
    exact ⟨reportedAs_of htk rfl, rfl⟩

/-- What the statements say of a lane that waits for a fetch, at the blocks at which the fetch is handed on. -/
theorem linking_fetchDone {s : State} {n : LaneId} {k : Slot} {f : Fetch} {d : Descriptor} (h : linking s n k f d) :
    s.blocks.laneOf k = n ∧ (s.blocks.lane n).served = some ⟨k, .connection⟩ ∧ (s.blocks.lane n).dflags = d.flags
      ∧ (s.blocks.ctx k).state = .connected ∧ s.blocks.fetchQ = [] := by
  obtain ⟨⟨-, -, hq, -⟩, -, -, hserved, hn, -, hd, -, hs⟩ := h
  exact ⟨hn, hserved, by rw [Lane.dflags, hd], hs, hq⟩

theorem Blocks.enterAborting_fetchQ {b : Blocks} {n : LaneId} {k : Slot} (cause : AbortCause)
    (h : (b.lane n).served = some ⟨k, .connection⟩) :
    (b.enterAborting n cause).fetchQ = ((b.leavePermit n).withdrawFetch k).fetchQ := by
  rw [b.enterAborting_eq cause h, Blocks.send_fetchQ, Blocks.modLane_fetchQ, (b.memOnly_abortDrops n k cause).fetchQ]

theorem Blocks.leavePermit_asked (b : Blocks) (n : LaneId) (h : (b.leavePermit n).window.asked = true) :
    b.window.asked = true := (Bool.and_eq_true_iff.mp h).1

section
variable {s : State} {n : LaneId} {k : Slot} {f : Fetch} {d : Descriptor} {reason : Reason} {resps : List BusResp}
  {bytes : List Byte} (h : linking s n k f d) (hr : resps.length = 2) (hb : bytes.length = 16)
  (hf : faults f (some d) resps bytes reason)
include h hr hb hf

/-- A chain fault of a linking lane is handed on. -/
theorem exec_chainFault {c : Blocks} (hc : s.blocks.fetchDone.chainFault k reason f.addr = c) (hcq : c.fetchQ = [])
    (hw : c.window.asked = true → s.blocks.window.asked = true) :
    ∃ t, exec (.memoryBurstResponse resps bytes) s = .next t ∧ t.port = s.port ∧ t.pending = s.pending
      ∧ t.blocks = s.blocks.settled c := by
  obtain ⟨hread, -, hfk, -, -, -, -, hd, -⟩ := h
  obtain ⟨x, hx, hq, hans⟩ := descriptorRead_reading hread
  subst hfk
  refine exec_fetch_ends hx (hans resps bytes hr hb) hq (Fetch.judge_faults hf _ ?_) hc hcq hw
  rintro d' ⟨⟩
  exact hd

theorem chainFault_after_linkData (hld : d.flags.linkData = true) :
    ∃ t, exec (.memoryBurstResponse resps bytes) s = .next t ∧ t.port = s.port ∧ otherLanes s t n ∧ otherCtxs s t k
      ∧ t.blocks.ctx k = { s.blocks.ctx k with chainAddr := f.addr } ∧ (t.blocks.lane n).state = .aborting
      ∧ (t.blocks.lane n).abortCause = some (.chainFault reason) ∧ sends s t n (.abort (s.blocks.unitOf k))
      ∧ t.blocks.fetch = none := by
  obtain ⟨hn, hserved, hflags, hs, hq⟩ := linking_fetchDone h
  have hc := s.blocks.fetchDone.chainFault_connected k reason f.addr (by simpa using hs) n (by simpa using hn)
  rw [Blocks.fetchDone_lane, hflags, if_pos hld] at hc
  generalize hb1 : s.blocks.fetchDone.setCtx k ((s.blocks.fetchDone.ctx k).faultAt f.addr) = b1 at hc
  have hloc : Blocks.Local k s.blocks b1 := by
    rw [← hb1]; exact (s.blocks.local_fetchDone k).trans (Blocks.local_faultAt _ _ _)
  have hlanes : ∀ m, b1.lane m = s.blocks.lane m := by
    intro m; rw [← hb1, Blocks.setCtx_lane, Blocks.fetchDone_lane]
  have hserved1 : (b1.lane n).served = some ⟨k, .connection⟩ := by rw [hlanes]; exact hserved
  have hidle : (b1.leavePermit n).withdrawFetch k = b1.leavePermit n :=
    Blocks.withdrawFetch_of_noClaim _ _
      (Blocks.noClaim_of_idle k (by rw [← hb1]; rfl) (by rw [← hb1]; exact s.blocks.fetchDone_fetchQ.trans hq))
  obtain ⟨t, hexec, hport, hp, ht⟩ := exec_chainFault h hr hb hf hc
    (by rw [Blocks.enterAborting_fetchQ _ hserved1, hidle, ← hb1]; exact s.blocks.fetchDone_fetchQ.trans hq)
    (fun ha => by
      rw [b1.enterAborting_window _ hserved1] at ha
      have h1 := b1.leavePermit_asked n ha
      rwa [hloc.window] at h1)
  have haborts : aborts s t n k (.chainFault reason) :=
    aborts_of_enterAborting _ hserved1 (.of_eq (hlanes n)) (hloc.toReach.unitOf k) (by rw [hloc.window])
      (.of_lanes n hlanes) ht
  obtain ⟨hst, hcause, -, hsend, -, -, -, -, -, -, -, hlane⟩ := haborts
  refine ⟨t, hexec, hport, hlane, ?_, ?_, hst, hcause, hsend, ?_⟩
  · rw [otherCtxs, ht]; exact (hloc.toReach.trans (b1.reach_enterAborting _ hserved1)).ctx_ne
  · rw [ht, Blocks.settled_ctx, Blocks.ctx, b1.enterAborting_ctxs _ hserved1, ← hb1]
    exact (Blocks.setCtx_ctx_same _ _ _).trans (by rw [Blocks.fetchDone_ctx]; rfl)
  · rw [ht, Blocks.settled_fetch, b1.enterAborting_fetch _ hserved1, hidle, ← hb1]; rfl

theorem chainFault_after_linkCommand (hld : d.flags.linkData = false) :
    ∃ t rep, exec (.memoryBurstResponse resps bytes) s = .next t ∧ t.port = s.port ∧ elsewhere s t ∧ otherLanes s t n
      ∧ otherCtxs s t k ∧ sendsFirst s t n (.desel (s.blocks.unitOf k)) ∧ reportedAs t k .chainFault
      ∧ (t.blocks.ctx k).final = some rep ∧ rep.reason = some reason ∧ rep.descAddr = f.addr
      ∧ rep.residual = (s.blocks.lane n).residual ∧ t.blocks.fetch = none := by
  obtain ⟨hn, hserved, hflags, hs, hq⟩ := linking_fetchDone h
  have hc := s.blocks.fetchDone.chainFault_connected k reason f.addr (by simpa using hs) n (by simpa using hn)
  rw [Blocks.fetchDone_lane, hflags, if_neg (by rw [hld]; nofun)] at hc
  generalize hb1 : s.blocks.fetchDone.setCtx k ((s.blocks.fetchDone.ctx k).faultAt f.addr) = b1 at hc
  have hloc1 : Blocks.Local k s.blocks b1 := by
    rw [← hb1]; exact (s.blocks.local_fetchDone k).trans (Blocks.local_faultAt _ _ _)
  have hlanes : ∀ m, b1.lane m = s.blocks.lane m := by
    intro m; rw [← hb1, Blocks.setCtx_lane, Blocks.fetchDone_lane]
  have hctx1 : b1.ctx k = (s.blocks.ctx k).faultAt f.addr := by
    rw [← hb1, Blocks.setCtx_ctx_same, Blocks.fetchDone_ctx]
  have hserved1 : (b1.lane n).served = some ⟨k, .connection⟩ := by rw [hlanes]; exact hserved
  have hidle : b1.noClaim k :=
    Blocks.noClaim_of_idle k (by rw [← hb1]; rfl) (by rw [← hb1]; exact s.blocks.fetchDone_fetchQ.trans hq)
  obtain ⟨hfetch, hfq, -⟩ := Blocks.endServed_noClaim (b1.sendDesel n) k n [⟨.chainFault, some reason⟩]
    (Blocks.sendDesel_served hserved1) hidle
  have hloc := hloc1.trans (Blocks.local_deselEnd [⟨.chainFault, some reason⟩] hserved1)
  obtain ⟨t, hexec, hport, hp, ht⟩ := exec_chainFault h hr hb hf hc
    (by rw [hfq, ← hb1]; exact s.blocks.fetchDone_fetchQ.trans hq) (by rw [hloc.window]; exact id)
  obtain ⟨l, hres, hend⟩ := Blocks.deselEnd_ctx [⟨.chainFault, some reason⟩] hserved1
    (by rw [hctx1]; exact (by rw [hs]; nofun : (s.blocks.ctx k).state ≠ .free))
  have htk : t.blocks.ctx k =
      (((s.blocks.ctx k).faultAt f.addr).writtenBack l).toReported k [⟨.chainFault, some reason⟩] := by
    rw [ht, Blocks.settled_ctx, hend, hctx1]
  obtain ⟨more, hsent⟩ := Blocks.deselEnd_sent [⟨.chainFault, some reason⟩] hserved1
  refine ⟨t, _, hexec, hport, elsewhere_of_local (k := k) (by rw [ht]; exact hloc.settled _) hp, ?_, ?_,
    sendsFirst_of_sent ⟨more, ?_⟩, reportedAs_of htk rfl, by rw [htk]; rfl, rfl, rfl, ?_, ?_⟩
  · rw [otherLanes, ht]
    exact (Blocks.Apart.of_lanes n hlanes).trans (Blocks.apart_deselEnd _ hserved1 (by rw [hloc1.toReach.laneOf, hn]))
  · rw [otherCtxs, ht]; exact hloc.ctx_ne
  · rw [ht, Blocks.settled_lane, ← hloc1.toReach.unitOf, ← hlanes]
    exact hsent
  · show l.residual = _
    rw [hres, hlanes]
  · rw [ht, Blocks.settled_fetch, hfetch, ← hb1]; rfl

end

/-- Settles O48, one lemma for each state in which the fault finds the context. -/
theorem aChainFaultEndsTheFetchByTheContextsState : Obligations.AChainFaultEndsTheFetchByTheContextsState :=
  ⟨chainFault_of_loading, fun _ _ _ _ _ _ _ _ h hr hb hf =>
    ⟨chainFault_after_linkData h hr hb hf, chainFault_after_linkCommand h hr hb hf⟩⟩

end Sys2Proof.Machine

/-!
The sixteen bytes of a descriptor (R56, TABLE 19, TABLE 64, TABLE 65).
-/
namespace Sys2Proof.Machine

open Sys2Proof.Claims

theorem leNat_six (a0 a1 a2 a3 a4 a5 : Byte) : leNat [a0, a1, a2, a3, a4, a5] = le6 a0 a1 a2 a3 a4 a5 := by
  simp only [leNat, le6]
  omega

theorem leNat_two (c0 c1 : Byte) : leNat [c0, c1] = c0.toNat + 256 * c1.toNat := by
  simp only [leNat]
  omega

theorem le6_lt (a0 a1 a2 a3 a4 a5 : Byte) : le6 a0 a1 a2 a3 a4 a5 < 2 ^ 48 := by
  have h0 := a0.isLt
  have h1 := a1.isLt
  have h2 := a2.isLt
  have h3 := a3.isLt
  have h4 := a4.isLt
  have h5 := a5.isLt
  simp only [le6]
  omega

/-- The direction byte of each direction (TABLE 64). -/
def Direction.byte : Direction → Byte
  | .noData => 0
  | .outbound => 1
  | .inbound => 2

theorem Direction.eq_iff_byte (d e : Direction) : d = e ↔ d.byte = e.byte := by
  cases d <;> cases e <;> decide

theorem directionOf_eq_some (dir : Byte) (d : Direction) : directionOf dir = some d ↔ dir = d.byte := by
  revert dir
  cases d <;> decide

theorem directionOf_eq_none (dir : Byte) : directionOf dir = none ↔ 2 < dir.toNat := by
  revert dir
  decide

theorem spareFlags_clear_iff (flags : Byte) : flags &&& 0xE0 = 0 ↔ flags.toNat < 32 := by
  revert flags
  decide

theorem eq_topDescriptor_iff (a : Addr48) : a = topDescriptor ↔ a.toNat = 2 ^ 48 - 16 :=
  ⟨fun h => by rw [h]; decide, fun h => BitVec.eq_of_toNat_eq h⟩

/-- The checks of a TRANSFER, in the words of the statements. -/
theorem transferValid_iff (at_ : Addr48) (flags code : Byte) (d : Direction) (count addr : Nat) :
    transferValid at_ flags ⟨d, code, descFlagsOf flags, count, addr⟩ = true ↔
      validTransfer at_ d.byte flags count addr := by
  have htop := eq_topDescriptor_iff at_
  simp only [transferValid, validTransfer, descFlagsOf, Bool.and_eq_true, beq_iff_eq, spareFlags_clear_iff]
  cases d <;> simp [Direction.byte, htop] <;> grind

/-! ### Reading -/

section
variable (at_ : Addr48) (kind dir code flags c0 c1 s0 s1 a0 a1 a2 a3 a4 a5 u0 u1 : Byte)

/-- A TRANSFER whose spare bytes are clear. -/
theorem readDescriptor_transfer :
    readDescriptor at_ [1, dir, code, flags, c0, c1, 0, 0, a0, a1, a2, a3, a4, a5, 0, 0] =
      match directionOf dir with
      | none => none
      | some d =>
        if transferValid at_ flags
            ⟨d, code, descFlagsOf flags, c0.toNat + 256 * c1.toNat, le6 a0 a1 a2 a3 a4 a5⟩ then
          some (.transfer ⟨d, code, descFlagsOf flags, c0.toNat + 256 * c1.toNat, le6 a0 a1 a2 a3 a4 a5⟩)
        else none := by
  simp only [readDescriptor, leNat_two, leNat_six]
  rfl

/-- A JUMP whose spare bytes are clear. -/
theorem readDescriptor_jump :
    readDescriptor at_ [2, dir, code, flags, c0, c1, 0, 0, a0, a1, a2, a3, a4, a5, 0, 0] =
      if dir = 0 ∧ code = 0 ∧ flags = 0 ∧ c0.toNat + 256 * c1.toNat = 0 ∧ le6 a0 a1 a2 a3 a4 a5 % 16 = 0 then
        some (.jump (BitVec.ofNat 48 (le6 a0 a1 a2 a3 a4 a5)))
      else none := by
  simp [readDescriptor, leNat_two, leNat_six]

theorem readDescriptor_spare (h : s0 ≠ 0 ∨ s1 ≠ 0 ∨ u0 ≠ 0 ∨ u1 ≠ 0) :
    readDescriptor at_ [kind, dir, code, flags, c0, c1, s0, s1, a0, a1, a2, a3, a4, a5, u0, u1] = none := by
  simp only [readDescriptor, h, if_true]

theorem readDescriptor_kind (h1 : kind ≠ 1) (h2 : kind ≠ 2) :
    readDescriptor at_ [kind, dir, code, flags, c0, c1, s0, s1, a0, a1, a2, a3, a4, a5, u0, u1] = none := by
  simp only [readDescriptor]
  rw [if_neg h1, if_neg h2, ite_self]

/-- The bytes that pass the checks are a TRANSFER of what they spell. -/
theorem readDescriptor_valid
    (h : validTransfer at_ dir flags (c0.toNat + 256 * c1.toNat) (le6 a0 a1 a2 a3 a4 a5)) :
    ∃ d, dir = d.byte ∧ readDescriptor at_ [1, dir, code, flags, c0, c1, 0, 0, a0, a1, a2, a3, a4, a5, 0, 0] =
      some (.transfer ⟨d, code, descFlagsOf flags, c0.toNat + 256 * c1.toNat, le6 a0 a1 a2 a3 a4 a5⟩) := by
  have ⟨hdir, _⟩ := h
  cases hd : directionOf dir with
  | none =>
    have := (directionOf_eq_none dir).mp hd
    omega
  | some d =>
    obtain rfl := (directionOf_eq_some dir d).mp hd
    refine ⟨d, rfl, ?_⟩
    rw [readDescriptor_transfer, hd]
    exact if_pos ((transferValid_iff ..).mpr h)

theorem readDescriptor_invalid
    (h : ¬validTransfer at_ dir flags (c0.toNat + 256 * c1.toNat) (le6 a0 a1 a2 a3 a4 a5)) :
    readDescriptor at_ [1, dir, code, flags, c0, c1, 0, 0, a0, a1, a2, a3, a4, a5, 0, 0] = none := by
  rw [readDescriptor_transfer]
  cases hd : directionOf dir with
  | none => rfl
  | some d =>
    obtain rfl := (directionOf_eq_some dir d).mp hd
    exact if_neg fun hv => h ((transferValid_iff ..).mp hv)

end

/-- A TRANSFER that moves data moves at least one byte, and its area lies below the top of memory. -/
theorem readDescriptor_count {at_ : Addr48} {bytes : List Byte} {d : Descriptor}
    (h : readDescriptor at_ bytes = some (.transfer d)) (hd : d.dir ≠ .noData) : d.count ≠ 0 := by
  unfold readDescriptor at h
  split at h
  · simp only at h
    split at h
    · cases h
    · split at h
      · split at h
        · cases h
        · split at h
          · rename_i hv
            cases h
            simp only [transferValid, Bool.and_eq_true, Bool.or_eq_true, beq_iff_eq, bne_iff_ne] at hv
            tauto
          · cases h
      · split at h
        · split at h <;> cases h
        · cases h
  · cases h

end Sys2Proof.Machine

/-!
A delivery reaches its context (R12, R13, R70, R114); a JUMP is followed (R69).
-/
namespace Sys2Proof.Machine

open Sys2Proof.Claims

/-! ### The delivery to a LOADING context -/

theorem Blocks.deliver_loading (b : Blocks) (k : Slot) (d : Descriptor) (addr : Addr48)
    (hs : (b.ctx k).state = .loading) (hc : (b.ctx k).haltCause = none) :
    b.deliver k d addr = (b.setCtx k { (b.ctx k).delivered d addr with state := .ready }).appendReady (b.laneOf k) k := by
  simp only [Blocks.deliver, hs, hc]
  rfl

/-- A valid TRANSFER makes a LOADING context READY (R12). -/
theorem deliver_to_loading (s : State) (x : Txn) (f : Fetch) (d : Descriptor) (resps : List BusResp) (bytes : List Byte)
    (h : s.blocks.reading f x) (hans : x.answeredBy resps bytes = true) (hok : burstSucceeds resps) (hcls : f.cls = .start)
    (hq : s.blocks.fetchQ = []) (hr : readDescriptor f.addr bytes = some (.transfer d))
    (hs : (s.blocks.ctx f.slot).state = .loading) (hcause : (s.blocks.ctx f.slot).haltCause = none) :
    ∃ t, exec (.memoryBurstResponse resps bytes) s = .next t ∧ t.port = s.port ∧ elsewhere s t
      ∧ t.blocks.ctx f.slot = { s.blocks.ctx f.slot with
          state := .ready, desc := some d, residual := d.count, dataAddr := d.addr, chainAddr := f.addr
          lengthCond := false }
      ∧ (t.blocks.lane (s.blocks.laneOf f.slot)).readyQ =
          (s.blocks.lane (s.blocks.laneOf f.slot)).readyQ ++ [f.slot]
      ∧ otherCtxs s t f.slot ∧ otherLanes s t (s.blocks.laneOf f.slot) ∧ t.blocks.fetch = none := by
  have hc := s.blocks.fetchDone.deliver_loading f.slot d f.addr (by simpa using hs) (by simpa using hcause)
  rw [Blocks.fetchDone_laneOf, Blocks.fetchDone_ctx] at hc
  generalize hb1 : s.blocks.fetchDone.setCtx f.slot _ = b1 at hc
  have hloc1 : Blocks.Local f.slot s.blocks b1 := by
    rw [← hb1]
    refine (s.blocks.local_fetchDone f.slot).trans (Blocks.local_setCtx _ ?_)
    rw [Blocks.fetchDone_ctx]
    rfl
  have hlanes : ∀ m, b1.lane m = s.blocks.lane m := by
    intro m; rw [← hb1, Blocks.setCtx_lane, Blocks.fetchDone_lane]
  have hloc := hloc1.trans (Blocks.local_appendReady b1 f.slot (s.blocks.laneOf f.slot) f.slot)
  obtain ⟨t, hexec, hport, hp, ht⟩ := exec_fetch_ends h hans hq
    (Fetch.judge_delivers hok hr _ (fun hl => by rw [hcls] at hl; cases hl)) hc
    (by rw [Blocks.appendReady_fetchQ, ← hb1]; exact s.blocks.fetchDone_fetchQ.trans hq) (by rw [hloc.window]; exact id)
  refine ⟨t, hexec, hport, elsewhere_of_local (by rw [ht]; exact hloc.settled _) hp, ?_, ?_, ?_, ?_, ?_⟩
  · rw [ht, Blocks.settled_ctx, Blocks.appendReady_ctx, ← hb1, Blocks.setCtx_ctx_same]
    rfl
  · rw [ht, Blocks.settled_lane, Blocks.appendReady_readyQ, hlanes]
  · rw [otherCtxs, ht]; exact hloc.ctx_ne
  · intro m hm
    rw [ht, Blocks.settled_lane, Blocks.appendReady_lane_ne _ _ _ _ hm, hlanes]
  · rw [ht, Blocks.settled_fetch, Blocks.appendReady_fetch, ← hb1]
    rfl

/-! ### A JUMP -/

/-- The fetcher asks for one more read of the fetch in progress (R69). -/
def Blocks.followed (b : Blocks) (f : Fetch) (target : Addr48) : Blocks :=
  Blocks.askFetcher { b with fetch := some { f with addr := target, run := f.run + 1 } } target

theorem Blocks.burstDone_follows {b : Blocks} {f : Fetch} {x : Txn} {resps : List BusResp} {bytes : List Byte}
    (h : b.reading f x) (ha : x.answeredBy resps bytes = true) {target : Addr48}
    (hj : f.judge (b.ctx f.slot) (resps.any BusResp.isError) bytes = .follow target) :
    b.burstDone resps bytes = b.portNext.followed f target := by
  obtain ⟨hf, hfd, hx, hwho, -, hlast, hbuf, herr, hdis⟩ := h
  rw [b.burstDone_last x resps bytes hx ha hlast]
  simp only [Blocks.completeTxn, Txn.took, hwho, hdis, hbuf, herr, List.nil_append, Bool.false_or, Bool.false_eq_true,
    if_false, Blocks.fetchRead, Blocks.portNext_fetch, Blocks.portNext_ctx, hf, hfd, hj,
    Blocks.followed]

/-- With nothing else waiting at the port the read of the target is granted at once. -/
theorem Blocks.followed_granted (b : Blocks) (f : Fetch) (target : Addr48) (hi : b.mem.inflight = none)
    (hl : ∀ j, b.mem.laneReq j = none) :
    (b.followed f target).mem.inflight =
      some ⟨.fetcher, ⟨.descriptor, target.toNat, 16⟩, [], ⟨target.toNat, 2, 8, 16⟩, [], false, false⟩ := by
  have hgrant : b.followed f target = Blocks.grantFetcher _ ⟨.descriptor, target.toNat, 16⟩ :=
    Blocks.portDecision_fetcher _ ⟨.descriptor, target.toNat, 16⟩ hi rfl (Or.inr hl)
  rw [hgrant]
  rfl

/-- A JUMP is followed by the same fetch (R69). -/
theorem jump_followed (s : State) (f : Fetch) (target : Addr48) (resps : List BusResp) (bytes : List Byte)
    (h : descriptorRead s f) (hfr : s.blocks.mem.fetchReq = none) (hlr : ∀ j, s.blocks.mem.laneReq j = none)
    (hr : resps.length = 2) (hb : bytes.length = 16) (hok : burstSucceeds resps)
    (hd : readDescriptor f.addr bytes = some (.jump target)) (hrun : f.run < 4) :
    ∃ t, exec (.memoryBurstResponse resps bytes) s = .next t ∧ t.port = s.port ∧ elsewhere s t
      ∧ descriptorRead t { f with addr := target, run := f.run + 1 } ∧ t.blocks.ctxs = s.blocks.ctxs
      ∧ t.blocks.lanes = s.blocks.lanes := by
  obtain ⟨x, hread, hq, hans⟩ := descriptorRead_reading h
  have hdone := Blocks.burstDone_follows hread (hans resps bytes hr hb) (Fetch.judge_follows hok hd hrun _)
  have hwin : (s.blocks.portNext.followed f target).window = s.blocks.window := by simp [Blocks.followed]
  refine ⟨s.onBlocks fun b => b.burstDone resps bytes, ?_, rfl, ?_, ⟨?_, ?_, ?_, ?_⟩, ?_, ?_⟩
  · rw [← s.onBlocksAsking_of_same _ (by rw [hdone, hwin])]
    rfl
  all_goals simp only [elsewhere, State.onBlocks_blocks, hdone]
  · exact ⟨by simp [Blocks.followed], hwin, by simp [Blocks.followed], by simp [Blocks.followed], rfl⟩
  · simp [Blocks.followed]
  · exact hread.2.1
  · simpa [Blocks.followed] using hq
  · rw [Blocks.settled_mem, Blocks.followed_granted]
    · rw [s.blocks.portNext_quiet hfr hlr]
    · rw [s.blocks.portNext_quiet hfr hlr]
      exact hlr
  · simp [Blocks.followed]
  · simp [Blocks.followed]

/-- Settles O46: the delivery, the bytes of TRANSFER and JUMP, and the JUMP followed. -/
theorem aFetchDeliversATransferAndFollowsAJump : Obligations.AFetchDeliversATransferAndFollowsAJump := by
  refine ⟨?_, ?_, ?_, jump_followed⟩
  · intro s x f d bytes hx hwho hkind hlast hbuf herr hdis hbeats hbytes hlen hf hfd hcls hq hr hs hcause
    refine deliver_to_loading s x f d _ bytes ⟨hf, hfd, hx, hwho, hkind, hlast, hbuf, herr, hdis⟩ ?_ ?_ hcls hq hr hs hcause
    · simp [Txn.answeredBy, Txn.isWrite, hkind, hbeats, hbytes, hlen]
    · simp [burstSucceeds]
  · rintro at_ kind dir code flags c0 c1 s0 s1 a0 a1 a2 a3 a4 a5 u0 u1 count addr bytes rfl rfl rfl
    constructor
    · rintro rfl rfl rfl rfl rfl hv
      obtain ⟨d, rfl, hd⟩ := readDescriptor_valid at_ dir code flags c0 c1 a0 a1 a2 a3 a4 a5 hv
      exact ⟨_, hd, d.eq_iff_byte .noData, d.eq_iff_byte .outbound, d.eq_iff_byte .inbound, rfl, rfl, rfl, rfl, rfl, rfl,
        rfl, rfl⟩
    · intro hbad
      by_cases hspare : s0 ≠ 0 ∨ s1 ≠ 0 ∨ u0 ≠ 0 ∨ u1 ≠ 0
      · exact readDescriptor_spare at_ kind dir code flags c0 c1 s0 s1 a0 a1 a2 a3 a4 a5 u0 u1 hspare
      · push Not at hspare
        obtain ⟨rfl, rfl, rfl, rfl⟩ := hspare
        by_cases h1 : kind = 1
        · subst h1
          exact readDescriptor_invalid at_ dir code flags c0 c1 a0 a1 a2 a3 a4 a5 (by simpa using hbad)
        · by_cases h2 : kind = 2
          · subst h2
            rw [readDescriptor_jump]
            exact if_neg (by simpa using hbad)
          · exact readDescriptor_kind at_ kind dir code flags c0 c1 0 0 a0 a1 a2 a3 a4 a5 0 0 h1 h2
  · intro at_ a0 a1 a2 a3 a4 a5 ha
    have hmod : le6 a0 a1 a2 a3 a4 a5 % 16 = 0 := by
      simp only [le6]
      omega
    refine ⟨BitVec.ofNat 48 (le6 a0 a1 a2 a3 a4 a5), ?_, ?_⟩
    · rw [readDescriptor_jump, if_pos ⟨rfl, rfl, rfl, rfl, hmod⟩]
    · rw [BitVec.toNat_ofNat, Nat.mod_eq_of_lt (le6_lt a0 a1 a2 a3 a4 a5)]

end Sys2Proof.Machine

/-!
The closing phase of L_ENDING and what it ends with (R116, R118, R119); the permit queue (R130, R131).
-/
namespace Sys2Proof.Machine

open Sys2Proof.Claims

/-! ### Closing -/

/-- The lane as its closing phase begins (R116, R118, R119). -/
def Lane.closingWith (l : Lane) (cl : Closing) : Lane :=
  { l with
    state := .ending, closing := some cl, credit := [], heldNeed := none, doutOwed := 0, timer := none
    staging := if l.dir = .outbound then .empty else l.staging }

section
variable (b : Blocks) (n : LaneId) (cl : Closing)

/-- With no memory work outstanding and nothing staged to be written, the closing ends at once. -/
theorem Blocks.beginClosing_ends (hm : (b.lane n).memReq = none)
    (hst : (b.lane n).dir = .outbound ∨ (b.lane n).staging.held = 0) :
    b.beginClosing n cl = (b.modLane n (·.closingWith cl)).closingEnd n := by
  have hd : b.beginClosing n cl = (b.modLane n (·.closingWith cl)).pump n := by
    simp only [Blocks.beginClosing, b.dropRead_none n hm]
    rfl
  have hheld : ((b.lane n).closingWith cl).staging.held = 0 := by
    rcases hst with hst | hst
    · simp [Lane.closingWith, hst, Staging.empty, Staging.held]
    · by_cases ho : (b.lane n).dir = .outbound
      · simp [Lane.closingWith, ho, Staging.empty, Staging.held]
      · simp [Lane.closingWith, ho, hst]
  rw [hd]
  simp only [Blocks.pump, Blocks.modLane_lane_same]
  refine if_pos ?_
  rw [hheld]
  simp [Lane.closingWith, hm]

/-- A pending detach, but for a link-data descriptor of IN that is written whole, detaches (R116). -/
theorem Blocks.closingEnd_detach (hc : (b.lane n).closing = some .detach)
    (h : ¬((b.lane n).dir = .inbound ∧ (b.lane n).dflags.linkData = true ∧ (b.lane n).residual = 0)) :
    b.closingEnd n = b.detachContext n .resume := by
  simp only [Blocks.closingEnd, hc]
  exact if_neg fun ⟨h1, h2, h3, _⟩ => h ⟨h1, h2, h3⟩

theorem Blocks.closingEnd_outcome (named : List Named) (hc : (b.lane n).closing = some (.outcome named)) :
    b.closingEnd n = (b.sendDesel n).endServed n named := by
  simp only [Blocks.closingEnd, hc]

end

/-- A detach leaves the fetcher and its queue. -/
theorem Blocks.detachContext_fetchQ {b : Blocks} {n : LaneId} {k : Slot} (aw : Awaiting)
    (h : (b.lane n).served = some ⟨k, .connection⟩) :
    (b.detachContext n aw).fetchQ = b.fetchQ ∧ (b.detachContext n aw).fetch = b.fetch := by
  obtain ⟨b1, hb1, he⟩ := Blocks.detachContext_eq aw h
  rw [he]
  constructor
  · simp [hb1]
  · simp [hb1]

/-! ### The permit queue -/

section
variable (b : Blocks) (n : LaneId)

theorem Blocks.reach_joinPermit (k : Slot) : Blocks.Reach k b (b.joinPermit n) := .of_ctxs k rfl rfl rfl rfl

theorem Blocks.apart_joinPermit : Blocks.Apart n b (b.joinPermit n) := fun m hm =>
  b.modLane_lane_ne n m (fun l => { l with state := .permitWait, timer := none }) hm

theorem Blocks.joinPermit_lane :
    (b.joinPermit n).lane n = { b.lane n with state := .permitWait, timer := none } :=
  b.modLane_lane_same n fun l => { l with state := .permitWait, timer := none }

/-- With the window full no decision is owed (R131). -/
theorem Blocks.joinPermit_window (h : b.window.startLimit ≤ b.window.youngCount) :
    (b.joinPermit n).window = { b.window with permits := b.window.permits ++ [n] } := by
  have hg : Window.mayGrant { b.window with permits := b.window.permits ++ [n] } = false := by
    have hy : Window.youngCount { b.window with permits := b.window.permits ++ [n] } = b.window.youngCount := rfl
    simp [Window.mayGrant, hy, h]
  simp only [Blocks.joinPermit, Blocks.modLane_window, hg, Bool.or_false]

end

/-! ### What the pumps do at the start of a data phase -/

section
variable (b : Blocks) (n : LaneId)

/-- With nothing staged no DOUT can be sent. -/
theorem Blocks.sendDout_unstaged (h : (b.lane n).staging.get (b.lane n).staging.drain = []) : b.sendDout n = b := by
  refine if_neg fun hc => ?_
  obtain ⟨-, -, -, -, hb⟩ := hc
  exact hb (by rw [h]; rfl)

theorem Blocks.askRead_asks (hm : (b.lane n).memReq = none)
    (hst : (b.lane n).staging.get (b.lane n).staging.fill = []) (ha : (b.lane n).stagingAddr < (b.lane n).areaEnd) :
    (b.askRead n).lane n =
      { b.lane n with
        stagingAddr := (b.lane n).stagingAddr + min 64 ((b.lane n).areaEnd - (b.lane n).stagingAddr)
        staging := { (b.lane n).staging with fill := (b.lane n).staging.fill.other }
        memReq := some ⟨false, (b.lane n).staging.fill, min 64 ((b.lane n).areaEnd - (b.lane n).stagingAddr), false⟩ } := by
  simp only [Blocks.askRead]
  rw [if_pos ⟨by simp [hm], hst, ha⟩, Blocks.askLane_lane, Blocks.modLane_lane_same]

/-- The lane as it sends GRANT (R109). -/
theorem Blocks.sendGrant_sends (h : (b.lane n).mayGrant = true) : (b.sendGrant n).lane n =
    Lane.send
      { b.lane n with
        credit := List.replicate ((b.lane n).grantChunks - 1) 16 ++ [(b.lane n).grantTail], heldNeed := none }
      (.grant (b.servedUnit n) (b.lane n).grantChunks (b.lane n).grantTail) := by
  simp only [Blocks.sendGrant, h, if_true, Blocks.send_lane_same, Blocks.modLane_lane_same]

end

theorem Lane.takeHeldNeed_spec (l : Lane) : ∃ owed held, l.takeHeldNeed = { l with doutOwed := owed, heldNeed := held } := by
  unfold Lane.takeHeldNeed
  split
  · split
    · exact ⟨_, _, rfl⟩
    · exact ⟨_, _, rfl⟩
  · exact ⟨_, _, rfl⟩

end Sys2Proof.Machine

/-!
A LINK-class delivery (R13, R60, R104, R113, R114, R116).
-/
namespace Sys2Proof.Machine

open Sys2Proof.Claims

/-- The blocks at which record and lane have the descriptor a LINK-class fetch delivers in effect (R13, R114). -/
def Blocks.linkDelivered (b : Blocks) (n : LaneId) (k : Slot) (e : Descriptor) (addr : Addr48) : Blocks :=
  (b.setCtx k ((b.ctx k).delivered e addr)).modLane n (·.delivered e)

section
variable (b : Blocks) (n : LaneId) (k : Slot) (e : Descriptor) (addr : Addr48)

theorem Blocks.deliver_connected (hs : (b.ctx k).state = .connected) (hn : b.laneOf k = n) :
    b.deliver k e addr = (b.linkDelivered n k e addr).afterDelivery n (b.lane n).dflags.linkData := by
  simp only [Blocks.deliver, hs, hn]
  rfl

theorem Blocks.linkDelivered_lane : (b.linkDelivered n k e addr).lane n = (b.lane n).delivered e := by
  rw [Blocks.linkDelivered, Blocks.modLane_lane_same, Blocks.setCtx_lane]

theorem Blocks.linkDelivered_ctx : (b.linkDelivered n k e addr).ctx k = (b.ctx k).delivered e addr := by
  rw [Blocks.linkDelivered, Blocks.modLane_ctx, Blocks.setCtx_ctx_same]

theorem Blocks.apart_linkDelivered : Blocks.Apart n b (b.linkDelivered n k e addr) :=
  (Blocks.Apart.of_lanes n fun _ => rfl).trans (Blocks.apart_modLane _ n _)

theorem Blocks.local_linkDelivered : Blocks.Local k b (b.linkDelivered n k e addr) :=
  (Blocks.local_setCtx ((b.ctx k).delivered e addr) rfl).trans (Blocks.local_modLane _ k n _)

end

/-- The same, of the blocks of a state at which its fetch ends. -/
def Blocks.linked (b : Blocks) (n : LaneId) (k : Slot) (e : Descriptor) (addr : Addr48) : Blocks :=
  b.fetchDone.linkDelivered n k e addr

section
variable (b : Blocks) (n : LaneId) (k : Slot) (e : Descriptor) (addr : Addr48)

theorem Blocks.linked_lane : (b.linked n k e addr).lane n = (b.lane n).delivered e := by
  rw [Blocks.linked, Blocks.linkDelivered_lane, Blocks.fetchDone_lane]

theorem Blocks.linked_ctx : (b.linked n k e addr).ctx k = (b.ctx k).delivered e addr := by
  rw [Blocks.linked, Blocks.linkDelivered_ctx, Blocks.fetchDone_ctx]

theorem Blocks.apart_linked : Blocks.Apart n b (b.linked n k e addr) :=
  (Blocks.Apart.of_lanes n fun m => by simp).trans (Blocks.apart_linkDelivered _ n k e addr)

theorem Blocks.local_linked : Blocks.Local k b (b.linked n k e addr) :=
  (b.local_fetchDone k).trans (Blocks.local_linkDelivered _ n k e addr)

theorem Blocks.linked_fetch : (b.linked n k e addr).fetch = none := rfl

theorem Blocks.linked_fetchQ : (b.linked n k e addr).fetchQ = b.fetchQ := b.fetchDone_fetchQ

end

/-- The blocks of a link-data delivery at which the lane is in L_TRANSFER again, before it acts (R114). -/
def Blocks.relinked (b : Blocks) (n : LaneId) (k : Slot) (e : Descriptor) (addr : Addr48) : Blocks :=
  (b.linked n k e addr).modLane n fun l => ({ l with state := .transfer } : Lane).takeHeldNeed

theorem Blocks.relinked_lane (b : Blocks) (n : LaneId) (k : Slot) (e : Descriptor) (addr : Addr48) : ∃ owed held,
    (b.relinked n k e addr).lane n =
      { (b.lane n).delivered e with state := .transfer, doutOwed := owed, heldNeed := held } := by
  rw [Blocks.relinked, Blocks.modLane_lane_same, Blocks.linked_lane]
  exact Lane.takeHeldNeed_spec _

section
variable {s : State} {n : LaneId} {k : Slot} {f : Fetch} {d e : Descriptor} {resps : List BusResp} {bytes : List Byte}
  (h : linking s n k f d) (hr : resps.length = 2) (hb : bytes.length = 16) (hok : burstSucceeds resps)
  (he : readDescriptor f.addr bytes = some (.transfer e)) (hdir : d.flags.linkData = true → e.dir = d.dir)
include h hr hb hok he hdir

/-- The event of a LINK-class delivery: `c` are the blocks it leads to. -/
theorem exec_linkDelivery {c : Blocks} (hc : (s.blocks.linked n k e f.addr).afterDelivery n d.flags.linkData = c)
    (hcq : c.fetchQ = []) (hw : c.window.asked = s.blocks.window.asked) :
    ∃ t, exec (.memoryBurstResponse resps bytes) s = .next t ∧ t.port = s.port ∧ t.pending = s.pending
      ∧ t.blocks = s.blocks.settled c := by
  obtain ⟨hn, -, hflags, hs, -⟩ := linking_fetchDone h
  obtain ⟨hread, -, hfk, -, -, -, -, hd, -⟩ := h
  obtain ⟨x, hx, hq, hans⟩ := descriptorRead_reading hread
  have hdeliver := s.blocks.fetchDone.deliver_connected n k e f.addr (by simpa using hs) (by simpa using hn)
  rw [Blocks.fetchDone_lane, hflags] at hdeliver
  subst hfk
  refine exec_fetch_ends hx (hans resps bytes hr hb) hq (Fetch.judge_delivers hok he _ fun _ dir hl => ?_)
    (hdeliver.trans hc) hcq (by rw [hw]; exact id)
  simp only [Context.linkDirection, hd] at hl
  split at hl
  · rename_i hld
    cases hl
    exact hdir hld
  · cases hl

/-- After link-data the lane is in L_TRANSFER with the new descriptor, and its pumps run. -/
theorem linkData_continues (hld : d.flags.linkData = true) (hcl : (s.blocks.lane n).closing = none) :
    ∃ t, exec (.memoryBurstResponse resps bytes) s = .next t ∧ t.port = s.port ∧ elsewhere s t ∧ otherLanes s t n
      ∧ otherCtxs s t k ∧ t.blocks.fetch = none ∧ t.blocks.ctx k = (s.blocks.ctx k).delivered e f.addr
      ∧ Blocks.Pumped n (s.blocks.relinked n k e f.addr) ((s.blocks.relinked n k e f.addr).pump n)
      ∧ ∀ m, t.blocks.lane m = ((s.blocks.relinked n k e f.addr).pump n).lane m := by
  obtain ⟨hn, -, -, -, hq⟩ := linking_fetchDone h
  have hc : (s.blocks.linked n k e f.addr).afterDelivery n d.flags.linkData = (s.blocks.relinked n k e f.addr).pump n := by
    rw [Blocks.afterDelivery, if_neg, if_pos hld]
    · rfl
    · rw [Blocks.linked_lane]
      simp [Lane.delivered, hcl]
  obtain ⟨owed, held, hlane⟩ := s.blocks.relinked_lane n k e f.addr
  have hpumped := (s.blocks.relinked n k e f.addr).pumped_transfer n (by rw [hlane])
  have hloc := ((s.blocks.local_linked n k e f.addr).trans (Blocks.local_modLane _ k n _)).trans (hpumped.toLocal k)
  obtain ⟨t, hexec, hport, hp, ht⟩ := exec_linkDelivery h hr hb hok he hdir hc
    (by rw [hpumped.fetchQ]; exact (Blocks.linked_fetchQ s.blocks n k e f.addr).trans hq) (by rw [hloc.window])
  refine ⟨t, hexec, hport, elsewhere_of_local (k := k) (by rw [ht]; exact hloc.settled _) hp, ?_, ?_, ?_, ?_, hpumped, ?_⟩
  · rw [otherLanes, ht]
    exact ((s.blocks.apart_linked n k e f.addr).trans (Blocks.apart_modLane _ n _)).trans hpumped.apart
  · rw [otherCtxs, ht]; exact hloc.ctx_ne
  · rw [ht, Blocks.settled_fetch, hpumped.fetch]; rfl
  · rw [ht, Blocks.settled_ctx, Blocks.ctx, hpumped.ctxs]
    exact s.blocks.linked_ctx n k e f.addr
  · rw [ht]; exact fun _ => rfl

/-- With a detach pending the context detaches, the whole of the new descriptor before it (R116, R117). -/
theorem linkData_detaches (hld : d.flags.linkData = true) (hdata : d.dir ≠ .noData)
    (hcl : (s.blocks.lane n).closing = some .detach) (hst : (s.blocks.lane n).staging = .empty)
    (hm : (s.blocks.lane n).memReq = none) :
    ∃ t, exec (.memoryBurstResponse resps bytes) s = .next t ∧ t.port = s.port ∧ elsewhere s t ∧ otherLanes s t n
      ∧ otherCtxs s t k ∧ sendsFirst s t n (.desel (s.blocks.unitOf k)) ∧ (t.blocks.ctx k).state = .detached
      ∧ (t.blocks.ctx k).awaiting = some .resume ∧ (t.blocks.ctx k).desc = some e
      ∧ (t.blocks.ctx k).residual = e.count ∧ (t.blocks.ctx k).dataAddr = e.addr
      ∧ (t.blocks.ctx k).chainAddr = f.addr := by
  obtain ⟨hn, hserved, -, hs, hq⟩ := linking_fetchDone h
  have hcount : e.count ≠ 0 := readDescriptor_count he (by rw [hdir hld]; exact hdata)
  generalize hb1 : (s.blocks.linked n k e f.addr).modLane n (·.closingWith .detach) = b1
  have hlane : b1.lane n = ((s.blocks.lane n).delivered e).closingWith .detach := by
    rw [← hb1, Blocks.modLane_lane_same, Blocks.linked_lane]
  have hloc1 : Blocks.Local k s.blocks b1 := by
    rw [← hb1]; exact (s.blocks.local_linked n k e f.addr).trans (Blocks.local_modLane _ k n _)
  have hap1 : Blocks.Apart n s.blocks b1 := by
    rw [← hb1]; exact (s.blocks.apart_linked n k e f.addr).trans (Blocks.apart_modLane _ n _)
  have hserved1 : (b1.lane n).served = some ⟨k, .connection⟩ := by rw [hlane]; exact hserved
  have hctx1 : b1.ctx k = (s.blocks.ctx k).delivered e f.addr := by
    rw [← hb1, Blocks.modLane_ctx, Blocks.linked_ctx]
  have hc : (s.blocks.linked n k e f.addr).afterDelivery n d.flags.linkData = b1.detachContext n .resume := by
    rw [Blocks.afterDelivery, if_pos, Blocks.beginClosing_ends, hb1, Blocks.closingEnd_detach]
    · rw [hlane]; rfl
    · rw [hlane]; exact fun ⟨_, _, h0⟩ => hcount h0
    · rw [Blocks.linked_lane]; exact hm
    · rw [Blocks.linked_lane]
      exact Or.inr (by simp [Lane.delivered, hst, Staging.empty, Staging.held])
    · rw [Blocks.linked_lane]; exact hcl
  have hloc := hloc1.trans (Blocks.local_detachContext .resume hserved1)
  obtain ⟨hfq, -⟩ := Blocks.detachContext_fetchQ .resume hserved1
  obtain ⟨t, hexec, hport, hp, ht⟩ := exec_linkDelivery h hr hb hok he hdir hc
    (by rw [hfq, ← hb1]; exact (Blocks.linked_fetchQ s.blocks n k e f.addr).trans hq) (by rw [hloc.window])
  have htk : t.blocks.ctx k = (((s.blocks.ctx k).delivered e f.addr).writtenBack (b1.lane n)).detached .resume := by
    rw [ht, Blocks.settled_ctx, Blocks.detachContext_ctx .resume hserved1, hctx1]
  have hconn : (((s.blocks.ctx k).delivered e f.addr).writtenBack (b1.lane n)).state = .connected := hs
  rw [Context.detached, if_pos hconn, hlane] at htk
  obtain ⟨⟨more, hsent⟩, -, -⟩ := Blocks.detachContext_lane .resume hserved1
  have hsent1 : Lane.Sent (s.blocks.lane n) (b1.lane n) [] := .of_wire (by rw [hlane]; rfl) (by rw [hlane]; rfl)
    (by rw [hlane]; rfl)
  refine ⟨t, hexec, hport, elsewhere_of_local (k := k) (by rw [ht]; exact hloc.settled _) hp, ?_, ?_,
    sendsFirst_of_sent ⟨more, ?_⟩, by rw [htk], by rw [htk], by rw [htk]; rfl, by rw [htk]; rfl, by rw [htk]; rfl,
    by rw [htk]; rfl⟩
  · rw [otherLanes, ht]; exact hap1.trans (Blocks.apart_detachContext .resume hserved1)
  · rw [otherCtxs, ht]; exact hloc.ctx_ne
  · rw [ht, Blocks.settled_lane, ← hloc1.toReach.unitOf]
    exact hsent1.trans hsent

/-- After link-command the lane joins the permit queue (R104, R114). -/
theorem linkCommand_joins (hld : d.flags.linkData = false) (hcl : (s.blocks.lane n).closing = none)
    (hfull : s.blocks.window.startLimit ≤ s.blocks.window.youngCount) :
    ∃ t, exec (.memoryBurstResponse resps bytes) s = .next t ∧ t.port = s.port ∧ otherLanes s t n ∧ otherCtxs s t k
      ∧ t.blocks.ctx k = (s.blocks.ctx k).delivered e f.addr
      ∧ (t.blocks.lane n).state = .permitWait ∧ (t.blocks.lane n).desc = some e ∧ (t.blocks.lane n).residual = e.count
      ∧ t.blocks.window = { s.blocks.window with permits := s.blocks.window.permits ++ [n] } := by
  obtain ⟨hn, -, -, -, hq⟩ := linking_fetchDone h
  generalize hb1 : s.blocks.linked n k e f.addr = b1
  have hlane : b1.lane n = (s.blocks.lane n).delivered e := by rw [← hb1, Blocks.linked_lane]
  have hloc : Blocks.Local k s.blocks b1 := by rw [← hb1]; exact s.blocks.local_linked n k e f.addr
  have hc : b1.afterDelivery n d.flags.linkData = b1.joinPermit n := by
    rw [Blocks.afterDelivery, if_neg, if_neg (by rw [hld]; nofun)]
    rw [hlane]
    simp [Lane.delivered, hcl]
  have hwin := b1.joinPermit_window n (by rw [hloc.window]; exact hfull)
  rw [hloc.window] at hwin
  obtain ⟨t, hexec, hport, -, ht⟩ := exec_linkDelivery h hr hb hok he hdir (c := b1.joinPermit n) (by rw [hb1, hc])
    (by show b1.fetchQ = []; rw [← hb1]; exact (Blocks.linked_fetchQ s.blocks n k e f.addr).trans hq) (by rw [hwin])
  refine ⟨t, hexec, hport, ?_, ?_, ?_, ?_, ?_, ?_, ?_⟩
  · rw [otherLanes, ht]
    exact (hb1 ▸ s.blocks.apart_linked n k e f.addr).trans (b1.apart_joinPermit n)
  · rw [otherCtxs, ht]; exact (hloc.toReach.trans (b1.reach_joinPermit n k)).ctx_ne
  · rw [ht, Blocks.settled_ctx]
    show b1.ctx k = _
    rw [← hb1, Blocks.linked_ctx]
  · rw [ht, Blocks.settled_lane, Blocks.joinPermit_lane]
  · rw [ht, Blocks.settled_lane, Blocks.joinPermit_lane, hlane]; rfl
  · rw [ht, Blocks.settled_lane, Blocks.joinPermit_lane, hlane]; rfl
  · rw [ht, Blocks.settled_window, hwin]

end

section
variable {s : State} {n : LaneId} {k : Slot} {f : Fetch} {d e : Descriptor} {bytes : List Byte}
  (he : readDescriptor f.addr bytes = some (.transfer e)) (hst : (s.blocks.lane n).staging = .empty)
include he hst

/-- For OUT the first staging read is asked for (R106). -/
theorem linkData_reads (hdo : e.dir = .outbound)
    (hm : (s.blocks.lane n).memReq = none) :
    (((s.blocks.relinked n k e f.addr).pump n).lane n).memReq = some ⟨false, .h0, min 64 e.count, false⟩
      ∧ (((s.blocks.relinked n k e f.addr).pump n).lane n).stagingAddr = e.addr + min 64 e.count
      ∧ (((s.blocks.relinked n k e f.addr).pump n).lane n).outgoing = (s.blocks.lane n).outgoing := by
  have hcount : e.count ≠ 0 := readDescriptor_count he (by rw [hdo]; nofun)
  obtain ⟨owed, held, hlane⟩ := s.blocks.relinked_lane n k e f.addr
  generalize s.blocks.relinked n k e f.addr = b at hlane
  have hend : (b.lane n).areaEnd = e.addr + e.count := by rw [hlane]; rfl
  have haddr : (b.lane n).stagingAddr = e.addr := by rw [hlane]; rfl
  have hstg : (b.lane n).staging = .empty := by rw [hlane]; exact hst
  have hlen : e.addr + e.count - e.addr = e.count := by omega
  rw [Blocks.pump_outbound b n (by rw [hlane]) (by rw [hlane]; exact hdo),
    Blocks.sendDout_unstaged b n (by rw [hstg, Staging.get_empty]),
    Blocks.askRead_asks b n (by rw [hlane]; exact hm) (by rw [hstg, Staging.get_empty]) (by rw [hend, haddr]; omega),
    hend, haddr, hstg, hlen]
  refine ⟨rfl, rfl, ?_⟩
  rw [hlane]
  rfl

/-- For IN, GRANT is sent (R109). -/
theorem linkData_grants (h : linking s n k f d) (hdi : e.dir = .inbound)
    (hcr : (s.blocks.lane n).credit = []) (htx : (s.blocks.lane n).tx = none)
    (hrx : (s.blocks.lane n).rx.isAssembling = false) (hnotice : (s.blocks.lane n).haltNotice = false) {chunks tail : Nat}
    (hch : chunks = min 8 ((e.count + 15) / 16)) (hta : tail = min 16 (e.count - 16 * (chunks - 1))) :
    Lane.Sent (s.blocks.lane n) (((s.blocks.relinked n k e f.addr).pump n).lane n)
        [.grant (s.blocks.unitOf k) chunks tail]
      ∧ (((s.blocks.relinked n k e f.addr).pump n).lane n).credit = List.replicate (chunks - 1) 16 ++ [tail] := by
  have hcount : e.count ≠ 0 := readDescriptor_count he (by rw [hdi]; nofun)
  obtain ⟨-, hserved, -, -, -⟩ := linking_fetchDone h
  obtain ⟨owed, held, hlane⟩ := s.blocks.relinked_lane n k e f.addr
  have hunit : (s.blocks.relinked n k e f.addr).servedUnit n = s.blocks.unitOf k := by
    rw [Blocks.servedUnit_eq _ n k .connection (by rw [hlane]; exact hserved)]
    exact (s.blocks.local_linked n k e f.addr).toReach.unitOf k
  generalize s.blocks.relinked n k e f.addr = b at hlane hunit
  have hstg : (b.lane n).staging = .empty := by rw [hlane]; exact hst
  have hunc : (b.lane n).uncovered = e.count := by
    rw [hlane]
    simp [Lane.uncovered, Lane.delivered, hcr]
  have hfree : (b.lane n).freePlaces = 8 := by
    have hcr' : (b.lane n).credit = [] := by rw [hlane]; exact hcr
    simp [Lane.freePlaces, hstg, hcr', Staging.held, Staging.empty]
  have hchunks : (b.lane n).grantChunks = chunks := by rw [Lane.grantChunks, hfree, hunc, hch, Nat.min_self]
  have htail : (b.lane n).grantTail = tail := by rw [Lane.grantTail, hunc, hchunks, hta]
  have hmay : (b.lane n).mayGrant = true := by
    have hd' : (b.lane n).dir = .inbound := by rw [hlane]; exact hdi
    have hcr' : (b.lane n).credit = [] := by rw [hlane]; exact hcr
    have htx' : (b.lane n).tx = none := by rw [hlane]; exact htx
    have hrx' : (b.lane n).rx.isAssembling = false := by rw [hlane]; exact hrx
    have hn' : (b.lane n).haltNotice = false := by rw [hlane]; exact hnotice
    simp only [Lane.mayGrant, hd', hcr', hunc, hfree, hrx', htx', hn']
    simpa using Nat.pos_of_ne_zero hcount
  rw [Blocks.pump_inbound b n (by rw [hlane]) (by rw [hlane]; exact hdi),
    Blocks.askWrite_none b n (by rw [hstg, Staging.get_empty]), Blocks.sendGrant_sends b n hmay, hchunks, htail, hunit]
  refine ⟨Lane.Sent.send (.of_wire ?_ ?_ ?_) _, by rw [Lane.send_credit]⟩
  all_goals rw [hlane]; rfl

end

/-- Settles O47, one lemma for each of the lane's ways on, and two for the data phase of a link-data delivery. -/
theorem aLinkDeliveryContinuesTheConnection : Obligations.ALinkDeliveryContinuesTheConnection := by
  intro s n k f d e resps bytes h hr hb hok he
  refine ⟨fun hld hdir hcl hst hm => ?_, fun hld hdir hdata hcl hst hm => ?_, fun hld hcl hfull => ?_⟩
  · obtain ⟨t, hexec, hport, helse, hlanes, hother, hfetch, hctx, hpumped, hlane⟩ :=
      linkData_continues h hr hb hok he (fun _ => hdir) hld hcl
    obtain ⟨owed, held, hl⟩ := s.blocks.relinked_lane n k e f.addr
    obtain ⟨mr, sa, st, cr, hn, tx, q, hp⟩ := hpumped.lane
    rw [hl, Lane.delivered] at hp
    refine ⟨t, hexec, hport, helse, hlanes, hother, hfetch, hctx, ?_, ?_, ?_, ?_, ?_, ?_, ?_, ?_, ?_, ?_, fun hdo => ?_,
      fun hdi hcr htx hrx hnotice chunks tail hch hta => ?_⟩
    any_goals (rw [hlane, hp]; done)
    · obtain ⟨hmr, hsa, hout⟩ := linkData_reads (k := k) he hst hdo hm
      simp only [outgoing, hlane]
      exact ⟨hmr, hsa, hout⟩
    · obtain ⟨hsent, hcredit⟩ := linkData_grants he hst h hdi hcr htx hrx hnotice hch hta
      refine ⟨sends_of_sent ?_, ?_⟩
      · rw [hlane]; exact hsent
      · rw [hlane]; exact hcredit
  · exact linkData_detaches h hr hb hok he (fun _ => hdir) hld hdata hcl hst hm
  · exact linkCommand_joins h hr hb hok he (fun hl => by rw [hl] at hld; cases hld) hld hcl hfull

end Sys2Proof.Machine

/-!
RESET_LANE (R28, R47, R125, R134, R158).
-/
namespace Sys2Proof.Machine

open Sys2Proof.Claims

/-! ### Many contexts end -/

theorem Blocks.finaliseAll_cons (b : Blocks) (k : Slot) (slots : List Slot) :
    b.finaliseAll (k :: slots) = (b.endContext k [plain .laneReset]).finaliseAll slots := rfl

theorem Blocks.finaliseAll_ctx_other (slots : List Slot) (b : Blocks) (j : Slot) (h : j ∉ slots) :
    (b.finaliseAll slots).ctx j = b.ctx j := by
  induction slots generalizing b with
  | nil => rfl
  | cons k slots ih =>
    rw [List.mem_cons, not_or] at h
    rw [Blocks.finaliseAll_cons, ih _ h.2, Blocks.endContext_ctx_ne _ _ _ _ h.1]

theorem Blocks.finaliseAll_ctx_ended (slots : List Slot) (b : Blocks) (j : Slot) (hd : slots.Nodup) (h : j ∈ slots)
    (hf : (b.ctx j).state ≠ .free) : (b.finaliseAll slots).ctx j = (b.ctx j).toReported j [plain .laneReset] := by
  induction slots generalizing b with
  | nil => cases h
  | cons k slots ih =>
    obtain ⟨hk, hd⟩ := List.nodup_cons.mp hd
    rw [Blocks.finaliseAll_cons]
    by_cases hj : j = k
    · subst hj
      rw [Blocks.finaliseAll_ctx_other _ _ _ hk, Blocks.endContext_ctx_same _ _ _ hf]
    · have hmem : j ∈ slots := (List.mem_cons.mp h).resolve_left hj
      have hsame := Blocks.endContext_ctx_ne b k j [plain .laneReset] hj
      rw [ih _ hd hmem (by rw [hsame]; exact hf), hsame]

/-- Beside the records only the lists of lanes, the fetcher and the reports change. -/
theorem Blocks.finaliseAll_tables (slots : List Slot) (b : Blocks) : (b.finaliseAll slots).index = b.index
    ∧ (b.finaliseAll slots).window = b.window ∧ (b.finaliseAll slots).laneFault = b.laneFault
    ∧ ∀ m, ∃ rq hl, (b.finaliseAll slots).lane m = { b.lane m with readyQ := rq, haltList := hl } := by
  induction slots generalizing b with
  | nil => exact ⟨rfl, rfl, rfl, fun m => ⟨_, _, rfl⟩⟩
  | cons k slots ih =>
    obtain ⟨hi, hw, hf, hl⟩ := ih (b.endContext k [plain .laneReset])
    rw [Blocks.finaliseAll_cons]
    refine ⟨hi.trans (by simp), hw.trans (by simp), hf.trans (by simp), fun m => ?_⟩
    obtain ⟨rq, hal, h⟩ := hl m
    exact ⟨rq, hal, by rw [h, b.endContext_lane_lists]⟩

theorem Blocks.finaliseAll_apart (slots : List Slot) (b : Blocks) (n : LaneId) (h : ∀ k ∈ slots, b.laneOf k = n) :
    Blocks.Apart n b (b.finaliseAll slots) := by
  induction slots generalizing b with
  | nil => exact .refl n b
  | cons k slots ih =>
    rw [Blocks.finaliseAll_cons]
    refine (Blocks.apart_endContext b n k _ (h k List.mem_cons_self)).trans (ih _ fun j hj => ?_)
    rw [Blocks.endContext_laneOf, h j (List.mem_cons_of_mem k hj)]

theorem Blocks.finaliseAll_queue (slots : List Slot) (b : Blocks) (hd : slots.Nodup)
    (hf : ∀ k ∈ slots, (b.ctx k).state ≠ .free) :
    (b.finaliseAll slots).reports.queue = slots.foldl postFinalEntry b.reports.queue := by
  induction slots generalizing b with
  | nil => rfl
  | cons k slots ih =>
    obtain ⟨hk, hd⟩ := List.nodup_cons.mp hd
    rw [Blocks.finaliseAll_cons, ih _ hd, Blocks.endContext_queue _ _ _ (hf k List.mem_cons_self), List.foldl_cons]
    intro j hj
    have hne : j ≠ k := fun h => hk (by rw [← h]; exact hj)
    rw [Blocks.endContext_ctx_ne _ _ _ _ hne]
    exact hf j (List.mem_cons_of_mem k hj)

/-! ### Many FINAL entries -/

/-- An entry once the reports of `slots` are final. -/
def ReportEntry.finalIn (slots : List Slot) (e : ReportEntry) : ReportEntry :=
  if e.slot ∈ slots then ⟨e.slot, .final⟩ else e

/-- The slot has no entry in the queue. -/
def unreported (q : List ReportEntry) (k : Slot) : Bool := q.all fun e => e.slot != k

/-- The queue after the FINAL entries of `slots`: those that have an entry convert it in its place, the others join in
order (R157, R158). -/
def finalEntries (q : List ReportEntry) (slots : List Slot) : List ReportEntry :=
  q.map (·.finalIn slots) ++ (slots.filter (unreported q)).map fun k => ⟨k, .final⟩

theorem unreported_iff (q : List ReportEntry) (k : Slot) : unreported q k = true ↔ ∀ e ∈ q, e.slot ≠ k := by
  simp [unreported]

theorem ReportEntry.finalIn_slot (slots : List Slot) (e : ReportEntry) : (e.finalIn slots).slot = e.slot := by
  unfold ReportEntry.finalIn
  split <;> rfl

theorem ReportEntry.finalIn_cons_other (k : Slot) (slots : List Slot) (e : ReportEntry) (h : e.slot ≠ k) :
    e.finalIn (k :: slots) = e.finalIn slots := by simp [ReportEntry.finalIn, h]

theorem ReportEntry.finalIn_final (k : Slot) (slots : List Slot) :
    ReportEntry.finalIn slots ⟨k, .final⟩ = ⟨k, .final⟩ := by simp [ReportEntry.finalIn]

theorem finalEntries_nil (q : List ReportEntry) : finalEntries q [] = q := by simp [finalEntries, ReportEntry.finalIn]

theorem postFinalEntry_reported (q : List ReportEntry) (k : Slot) (h : unreported q k = false) :
    postFinalEntry q k = q.map (·.finalIn [k]) := by
  have hany : q.any (fun e => e.slot == k) = true := by simpa [unreported] using h
  rw [postFinalEntry, if_pos hany]
  refine List.map_congr_left fun e _ => ?_
  by_cases he : e.slot = k <;> simp [ReportEntry.finalIn, he]

theorem postFinalEntry_unreported (q : List ReportEntry) (k : Slot) (h : unreported q k = true) :
    postFinalEntry q k = q ++ [⟨k, .final⟩] := by
  have hany : ¬q.any (fun e => e.slot == k) = true := by simpa [unreported] using h
  rw [postFinalEntry, if_neg hany]

theorem finalEntries_cons (q : List ReportEntry) (k : Slot) (slots : List Slot) (hk : k ∉ slots) :
    finalEntries (postFinalEntry q k) slots = finalEntries q (k :: slots) := by
  cases hun : unreported q k with
  | false =>
    rw [postFinalEntry_reported q k hun, finalEntries, finalEntries, List.filter_cons_of_neg (by rw [hun]; nofun)]
    congr 1
    · rw [List.map_map]
      refine List.map_congr_left fun e _ => ?_
      by_cases he : e.slot = k <;> simp [ReportEntry.finalIn, he, hk]
    · congr 1
      refine List.filter_congr fun j _ => ?_
      rw [Bool.eq_iff_iff, unreported_iff, unreported_iff]
      simp [ReportEntry.finalIn_slot]
  | true =>
    have hne := (unreported_iff q k).mp hun
    rw [postFinalEntry_unreported q k hun, finalEntries, finalEntries, List.filter_cons_of_pos hun, List.map_append,
      List.append_assoc]
    congr 1
    · exact List.map_congr_left fun e he => (e.finalIn_cons_other k slots (hne e he)).symm
    · simp only [List.map_cons, List.map_nil, ReportEntry.finalIn_final, List.singleton_append]
      congr 2
      refine List.filter_congr fun j hj => ?_
      have hjk : k ≠ j := fun h => hk (by rw [h]; exact hj)
      simp [unreported, hjk]

theorem foldl_postFinalEntry (slots : List Slot) (q : List ReportEntry) (hd : slots.Nodup) :
    slots.foldl postFinalEntry q = finalEntries q slots := by
  induction slots generalizing q with
  | nil => rw [finalEntries_nil]; rfl
  | cons k slots ih =>
    obtain ⟨hk, hd⟩ := List.nodup_cons.mp hd
    rw [List.foldl_cons, ih _ hd, finalEntries_cons q k slots hk]

/-! ### The reset of a lane -/

section
variable (b : Blocks) (n : LaneId)

theorem Blocks.mem_finalisedOn (k : Slot) :
    k ∈ b.finalisedOn n ↔ b.onLane k n = true ∧ (b.ctx k).state.finalised = true := by
  simp [Blocks.finalisedOn, allSlots]

theorem Blocks.finalisedOn_nodup : (b.finalisedOn n).Nodup := (List.nodup_finRange 40).filter _

theorem Blocks.laneOf_of_onLane (k : Slot) (h : b.onLane k n = true) : b.laneOf k = n := by
  unfold Blocks.onLane at h
  unfold Blocks.laneOf
  split at h
  · exact beq_iff_eq.mp h
  · cases h

/-- Write-back leaves state, binding and note of every record, and every record but that of the served context. -/
theorem Blocks.writeBack_ctx (k : Slot) : (b.writeBack n).ctx k = b.ctx k
    ∨ ((b.lane n).served = some ⟨k, .connection⟩ ∧ (b.writeBack n).ctx k = (b.ctx k).writtenBack (b.lane n)) := by
  unfold Blocks.writeBack
  split
  · rename_i j hs
    by_cases hk : k = j
    · subst hk
      exact Or.inr ⟨hs, Blocks.modCtx_ctx_same _ _ _⟩
    · exact Or.inl (Blocks.modCtx_ctx_ne _ _ _ _ hk)
  all_goals exact Or.inl rfl

theorem Blocks.writeBack_state (k : Slot) : ((b.writeBack n).ctx k).state = (b.ctx k).state := by
  rcases b.writeBack_ctx n k with h | ⟨-, h⟩ <;> rw [h]
  rfl

theorem Blocks.writeBack_laneOf (k : Slot) : (b.writeBack n).laneOf k = b.laneOf k := by
  have hb : ((b.writeBack n).ctx k).binding = (b.ctx k).binding := by
    rcases b.writeBack_ctx n k with h | ⟨-, h⟩ <;> rw [h]
    rfl
  simp only [Blocks.laneOf, hb]

theorem Blocks.writeBack_tables : (b.writeBack n).index = b.index ∧ (b.writeBack n).window = b.window
    ∧ (b.writeBack n).laneFault = b.laneFault := by
  obtain ⟨c, h⟩ := b.writeBack_spec n
  rw [h]
  exact ⟨rfl, rfl, rfl⟩

/-- The blocks at which the contexts of the lane have ended. -/
def Blocks.finalisedBy : Blocks := (b.writeBack n).finaliseAll (b.finalisedOn n)

theorem Blocks.finalisedOn_not_free : ∀ k ∈ b.finalisedOn n, ((b.writeBack n).ctx k).state ≠ .free := by
  intro k hk hfree
  rw [Blocks.writeBack_state] at hfree
  obtain ⟨-, hfin⟩ := (b.mem_finalisedOn n k).mp hk
  rw [hfree] at hfin
  cases hfin

theorem Blocks.finalisedBy_ended (k : Slot) (h : k ∈ b.finalisedOn n) :
    (b.finalisedBy n).ctx k = ((b.writeBack n).ctx k).toReported k [plain .laneReset] :=
  Blocks.finaliseAll_ctx_ended _ _ _ (b.finalisedOn_nodup n) h (b.finalisedOn_not_free n k h)

theorem Blocks.finalisedBy_other (k : Slot) (h : k ∉ b.finalisedOn n)
    (hs : (b.lane n).served = some ⟨k, .connection⟩ → k ∈ b.finalisedOn n) : (b.finalisedBy n).ctx k = b.ctx k := by
  rw [Blocks.finalisedBy, Blocks.finaliseAll_ctx_other _ _ _ h]
  exact (b.writeBack_ctx n k).resolve_right fun ⟨hserved, _⟩ => h (hs hserved)

theorem Blocks.finalisedBy_apart : Blocks.Apart n b (b.finalisedBy n) := by
  refine (Blocks.Apart.of_lanes n fun m => b.writeBack_lane n m).trans (Blocks.finaliseAll_apart _ _ n fun k hk => ?_)
  rw [Blocks.writeBack_laneOf]
  exact b.laneOf_of_onLane n k ((b.mem_finalisedOn n k).mp hk).1

theorem Blocks.finalisedBy_queue : (b.finalisedBy n).reports.queue = finalEntries b.reports.queue (b.finalisedOn n) := by
  rw [Blocks.finalisedBy, Blocks.finaliseAll_queue _ _ (b.finalisedOn_nodup n) (b.finalisedOn_not_free n),
    foldl_postFinalEntry _ _ (b.finalisedOn_nodup n), Blocks.writeBack_reports]

theorem Blocks.laneReset_eq : b.laneReset n = ((((b.finalisedBy n).leavePermit n).portLaneReset n)).modLane n
    (·.afterReset (b.memAfterReset n)) := rfl

theorem Blocks.laneReset_ctx (k : Slot) : (b.laneReset n).ctx k = (b.finalisedBy n).ctx k := rfl

theorem Blocks.laneReset_reports : (b.laneReset n).reports = (b.finalisedBy n).reports := rfl

/-- The reset engine keeps the bit rate, the response limit and STRAY_FRAME (R125). -/
theorem Blocks.laneReset_lane : ∃ l : Lane, (b.laneReset n).lane n = l.afterReset (b.memAfterReset n)
    ∧ l.rate = (b.lane n).rate ∧ l.limit = (b.lane n).limit ∧ l.strayFrame = (b.lane n).strayFrame := by
  obtain ⟨-, -, -, hlane⟩ := Blocks.finaliseAll_tables (b.finalisedOn n) (b.writeBack n)
  obtain ⟨rq, hl, h⟩ := hlane n
  refine ⟨(b.finalisedBy n).lane n, ?_, ?_⟩
  · rw [Blocks.laneReset_eq, Blocks.modLane_lane_same]
    rfl
  · rw [Blocks.finalisedBy, h, Blocks.writeBack_lane]
    exact ⟨rfl, rfl, rfl⟩

theorem Blocks.apart_laneReset : Blocks.Apart n b (b.laneReset n) := by
  refine (b.finalisedBy_apart n).trans (Blocks.Apart.trans (c := ((b.finalisedBy n).leavePermit n).portLaneReset n) ?_ ?_)
  · exact .of_lanes n fun _ => rfl
  · exact Blocks.apart_modLane _ n _

end

/-! ### RESET_LANE -/

theorem exec_resetLane {s : State} {r : Request} {rest : List Request} (h : taken s r rest .resetLane)
    (hs : (s.blocks.lane r.lane).state ≠ .disabled) : ∃ t, exec .resetLane s = .next t
      ∧ answered s t r rest .accepted
          (BitVec.ofNat 32 ((s.blocks.lane r.lane).state.code + 256 * (s.blocks.finalisedOn r.lane).length)) 0 0
      ∧ t.blocks = s.blocks.settled (s.blocks.laneReset r.lane) := by
  have hreset : Blocks.doResetLane r s.blocks = (s.blocks.laneReset r.lane,
      withFields .accepted [⟨0, 4, (s.blocks.lane r.lane).state.code⟩,
        ⟨8, 6, (s.blocks.finalisedOn r.lane).length⟩]) := if_neg hs
  refine ⟨_, exec_taken h rfl, answered_answeredWith s r rest _ ?_, ?_⟩
  · rw [hreset]
    have hlen : (s.blocks.finalisedOn r.lane).length ≤ 40 := by
      refine (List.length_filter_le _ _).trans ?_
      rw [allSlots, List.length_finRange]
    have hcode : (s.blocks.lane r.lane).state.code < 16 := by cases (s.blocks.lane r.lane).state <;> decide
    refine withFields_eq _ (by simp [fieldsFrom]) ?_
    simp [fieldSum]
    omega
  · rw [State.answeredWith_blocks, hreset]

/-- Settles O22: the ended contexts are those of `Blocks.finalisedOn`, and the engine is `Lane.afterReset`. -/
theorem resetLaneFinalisesTheLanesContexts : Obligations.ResetLaneFinalisesTheLanesContexts := by
  refine ⟨fun s r rest h hs => ?_, fun s r rest h hs hserved => ?_⟩
  · have hrefused : Blocks.doResetLane r s.blocks = (s.blocks, withFields .laneUnavailable [⟨0, 4, 0⟩]) := by
      rw [Blocks.doResetLane, hs]; rfl
    refine ⟨_, exec_taken h rfl, answered_answeredWith s r rest _ (by rw [hrefused]; rfl), ?_⟩
    rw [hrefused]
    exact s.answeredWith_same r rest _
  · obtain ⟨t, hexec, hans, ht⟩ := exec_resetLane h hs
    have hmem := s.blocks.mem_finalisedOn r.lane
    obtain ⟨l, hlane, hrate, hlimit, hstray⟩ := s.blocks.laneReset_lane r.lane
    obtain ⟨hindex, hwindow, hfault, -⟩ := Blocks.finaliseAll_tables (s.blocks.finalisedOn r.lane) (s.blocks.writeBack r.lane)
    obtain ⟨hindex', hwindow', hfault'⟩ := s.blocks.writeBack_tables r.lane
    refine ⟨t, hexec, ?_, fun k hon hfin => ?_, fun k hk => ?_, ?_⟩
    · rw [List.countP_eq_length_filter]
      exact hans
    · refine reportedAs_of (c := (s.blocks.writeBack r.lane).ctx k) (named := [plain .laneReset]) ?_ rfl
      rw [ht, Blocks.settled_ctx, Blocks.laneReset_ctx]
      exact s.blocks.finalisedBy_ended r.lane k ((hmem k).mpr ⟨hon, hfin⟩)
    · rw [ht, Blocks.settled_ctx, Blocks.laneReset_ctx]
      refine s.blocks.finalisedBy_other r.lane k (fun h => ?_) fun h => (hmem k).mpr (hserved k h)
      obtain ⟨hon, hfin⟩ := (hmem k).mp h
      rcases hk with hk | hk
      · rw [hk] at hon; cases hon
      · rw [hk] at hfin; cases hfin
    · rw [ht, Blocks.settled_lane, hlane, ← hrate, ← hlimit, ← hstray]
      refine ⟨rfl, rfl, rfl, rfl, rfl, rfl, rfl, rfl, rfl, ?_, ?_, ?_, ?_, ?_⟩
      · rw [otherLanes, ht]; exact s.blocks.apart_laneReset r.lane
      · exact hindex.trans hindex'
      · exact hfault.trans hfault'
      · show (Blocks.finaliseAll _ _).window.ledger = _
        rw [hwindow, hwindow']
      · show r.lane ∉ List.filter _ _
        simp

end Sys2Proof.Machine

/-!
Events of one lane: a frame taken, the poll and the selection (R75, R82, R99 to R103).
-/
namespace Sys2Proof.Machine

open Sys2Proof.Claims

/-! ### Events that change one lane alone -/

/-- Between `b` and `c` lane `n` alone may have changed. -/
def Blocks.LaneOnly (n : LaneId) (b c : Blocks) : Prop := ∃ l, c = b.setLane n l

theorem Blocks.setLane_setLane (b : Blocks) (n : LaneId) (l m : Lane) : (b.setLane n l).setLane n m = b.setLane n m := by
  simp [Blocks.setLane]

section
variable {n : LaneId} {b c d : Blocks}

theorem Blocks.LaneOnly.refl (n : LaneId) (b : Blocks) : Blocks.LaneOnly n b b := ⟨b.lane n, (b.setLane_self n).symm⟩

theorem Blocks.LaneOnly.trans (h : Blocks.LaneOnly n b c) (g : Blocks.LaneOnly n c d) : Blocks.LaneOnly n b d := by
  obtain ⟨l, rfl⟩ := h
  obtain ⟨m, rfl⟩ := g
  exact ⟨m, b.setLane_setLane n l m⟩

theorem Blocks.laneOnly_modLane (b : Blocks) (n : LaneId) (f : Lane → Lane) : Blocks.LaneOnly n b (b.modLane n f) :=
  ⟨_, rfl⟩

theorem Blocks.laneOnly_send (b : Blocks) (n : LaneId) (f : PartFrame) : Blocks.LaneOnly n b (b.send n f) := ⟨_, rfl⟩

theorem Blocks.laneOnly_serviceChoice (b : Blocks) (n : LaneId) : Blocks.LaneOnly n b (b.serviceChoice n) :=
  b.serviceChoice_spec n

theorem Blocks.laneOnly_enterIdle (b : Blocks) (n : LaneId) : Blocks.LaneOnly n b (b.enterIdle n) :=
  (b.laneOnly_modLane n _).trans (Blocks.laneOnly_serviceChoice _ n)

theorem Blocks.LaneOnly.toLocal (h : Blocks.LaneOnly n b c) (k : Slot) : Blocks.Local k b c := by
  obtain ⟨l, rfl⟩ := h
  exact .of_ctxs k rfl rfl rfl rfl rfl

theorem Blocks.LaneOnly.apart (h : Blocks.LaneOnly n b c) : Blocks.Apart n b c := by
  obtain ⟨l, rfl⟩ := h
  exact fun m hm => b.setLane_lane_ne n m l hm

theorem Blocks.LaneOnly.ctxs (h : Blocks.LaneOnly n b c) : c.ctxs = b.ctxs := by
  obtain ⟨l, rfl⟩ := h
  rfl

theorem Blocks.LaneOnly.window (h : Blocks.LaneOnly n b c) : c.window = b.window := by
  obtain ⟨l, rfl⟩ := h
  rfl

theorem Blocks.LaneOnly.reports (h : Blocks.LaneOnly n b c) : c.reports = b.reports := by
  obtain ⟨l, rfl⟩ := h
  rfl

/-- The update count bears on no lane. -/
theorem Blocks.Apart.settled (a : Blocks) (h : Blocks.Apart n b c) : Blocks.Apart n b (a.settled c) := h

/-- Such an event, in the words of the statements. -/
theorem laneOnly_claims {s t : State} (h : Blocks.LaneOnly n s.blocks c) (ht : t.blocks = s.blocks.settled c)
    (hp : t.pending = s.pending) : elsewhere s t ∧ sameTables s t ∧ otherLanes s t n := by
  have hsame : s.blocks.settled c = c := s.blocks.settled_of_same c h.reports h.ctxs
  have hap := h.apart
  obtain ⟨l, rfl⟩ := h
  rw [hsame] at ht
  refine ⟨?_, ?_, ?_⟩
  · rw [elsewhere, ht, hp]
    exact ⟨rfl, rfl, rfl, rfl, rfl⟩
  · rw [sameTables, ht]
    exact ⟨rfl, rfl, rfl, rfl, rfl, rfl⟩
  · rw [otherLanes, ht]
    exact hap

end

/-! ### A frame taken -/

/-- The blocks at which the receiver listens again after a frame (R75; log 9). -/
def Blocks.heard (b : Blocks) (n : LaneId) : Blocks := b.modLane n (·.endReception .listening)

section
variable (b : Blocks) (n : LaneId)

theorem Blocks.heard_lane : (b.heard n).lane n = (b.lane n).endReception .listening := b.modLane_lane_same n _

theorem Blocks.laneOnly_heard : Blocks.LaneOnly n b (b.heard n) := b.laneOnly_modLane n _

theorem Blocks.sent_heard : Lane.Sent (b.lane n) ((b.heard n).lane n) [] := by
  rw [Blocks.heard_lane]
  exact Lane.sent_endReception _ _

@[simp] theorem Blocks.heard_ctx (k : Slot) : (b.heard n).ctx k = b.ctx k := rfl
@[simp] theorem Blocks.heard_unitOf (k : Slot) : (b.heard n).unitOf k = b.unitOf k := rfl
@[simp] theorem Blocks.heard_laneOf (k : Slot) : (b.heard n).laneOf k = b.laneOf k := rfl
@[simp] theorem Blocks.heard_retriesOf (k : Slot) : (b.heard n).retriesOf k = b.retriesOf k := rfl
@[simp] theorem Blocks.heard_lookup (m : LaneId) (u : UnitAddr) : (b.heard n).lookup m u = b.lookup m u := rfl
@[simp] theorem Blocks.heard_window : (b.heard n).window = b.window := rfl

/-- Of its lane, taking a frame touches the receiver and the transmitter. -/
theorem Blocks.heard_lane_spec : ∃ tx q,
    (b.heard n).lane n = { b.lane n with rx := .listening, tx := tx, txQueue := q } := by
  rw [Blocks.heard_lane, Lane.endReception_spec]
  exact ⟨_, _, rfl⟩

end

section
variable {s : State} {n : LaneId} {c : Blocks}

/-- A frame of a valid format is taken; it asks for no permit. -/
theorem exec_frame {i : Instr} {f : Blocks → Blocks} (hrx : receiving s n)
    (hi : exec i s = .next (s.onBlocks fun b => b.takeFrame n true false f)) (hc : f (s.blocks.heard n) = c) :
    ∃ t, exec i s = .next t ∧ t.port = s.port ∧ t.pending = s.pending ∧ t.blocks = s.blocks.settled c := by
  refine ⟨_, hi, rfl, rfl, ?_⟩
  rw [State.onBlocks_blocks, Blocks.takeFrame_valid _ _ _ _ hrx, ← hc]
  rfl

/-- The same of a frame that may ask for a permit but does not. -/
theorem exec_frame_unasked {i : Instr} {f : Blocks → Blocks} (hrx : receiving s n)
    (hi : exec i s = .next (s.onBlocksAsking fun b => b.takeFrame n true false f)) (hc : f (s.blocks.heard n) = c)
    (hw : c.window.asked = true → s.blocks.window.asked = true) :
    ∃ t, exec i s = .next t ∧ t.port = s.port ∧ t.pending = s.pending ∧ t.blocks = s.blocks.settled c := by
  refine exec_frame (f := f) hrx ?_ hc
  rw [hi, s.onBlocksAsking_of_unasked]
  rw [Blocks.takeFrame_valid _ _ _ _ hrx]
  intro h
  exact hw (hc ▸ h)

end

theorem statusValid_of {status : Byte} (h : status &&& 0xE0 = 0) : statusValid status = true := beq_iff_eq.mpr h

/-! ### The end of a poll or of a selection -/

/-- A selection ends without a connection, or a poll with an ending: the context ends and the lane is free (R7, R102). -/
def Blocks.endSelection (b : Blocks) (n : LaneId) (k : Slot) (named : List Named) : Blocks :=
  ((b.endContext k named).modLane n (·.release)).enterIdle n

section
variable (b : Blocks) (n : LaneId) (k : Slot) (named : List Named)

theorem Blocks.local_endSelection : Blocks.Local k b (b.endSelection n k named) :=
  ((Blocks.local_endContext b k named).trans (Blocks.local_modLane _ k n _)).trans (Blocks.local_enterIdle _ k n)

theorem Blocks.apart_endSelection (h : b.laneOf k = n) : Blocks.Apart n b (b.endSelection n k named) :=
  ((Blocks.apart_endContext b n k named h).trans (Blocks.apart_modLane _ n _)).trans (Blocks.apart_enterIdle _ n)

theorem Blocks.endSelection_ctx (h : (b.ctx k).state ≠ .free) :
    (b.endSelection n k named).ctx k = (b.ctx k).toReported k named := by
  rw [Blocks.endSelection, Blocks.enterIdle_ctx, Blocks.modLane_ctx, Blocks.endContext_ctx_same _ _ _ h]

theorem Blocks.endSelection_lane (h : b.laneOf k = n) : k ∉ ((b.endSelection n k named).lane n).readyQ
    ∧ k ∉ ((b.endSelection n k named).lane n).haltList ∧ ((b.endSelection n k named).lane n).state ≠ .fault := by
  have hready := b.endContext_readyQ k named
  have hhalt := b.endContext_haltList k named
  rw [h] at hready hhalt
  obtain ⟨st, sv, at', mm, pr, tx, q, hl, hst⟩ := ((b.endContext k named).modLane n (·.release)).enterIdle_lane_spec n
  refine ⟨?_, ?_, ?_⟩
  · rw [Blocks.endSelection, Blocks.enterIdle_readyQ, Blocks.modLane_lane_same]
    exact hready
  · rw [Blocks.endSelection, Blocks.enterIdle_haltList, Blocks.modLane_lane_same]
    exact hhalt
  · rw [Blocks.endSelection, hl]
    rcases hst with rfl | rfl | rfl <;> exact nofun

/-- The frame of a service choice alone may follow. -/
theorem Blocks.endSelection_sent : ∃ more, Lane.Sent (b.lane n) ((b.endSelection n k named).lane n) more := by
  obtain ⟨more, hsent⟩ := ((b.endContext k named).modLane n (·.release)).sent_enterIdle n
  refine ⟨[] ++ more, Lane.Sent.trans (.of_wire ?_ ?_ ?_) hsent⟩
  all_goals rw [Blocks.modLane_lane_same, Blocks.endContext_lane_lists]; rfl

theorem Blocks.selectionFailed_ready (h : (b.lane n).served = some ⟨k, .readySelection⟩) :
    b.selectionFailed n =
      b.endSelection n k [plain (if (b.lane n).mismatch then ReportClass.linkError else ReportClass.noUnit)] := by
  simp only [Blocks.selectionFailed, h]
  rfl

/-- The record of a context whose halt selection has failed (R27). -/
def Context.unconfirmed (c : Context) : Context := { c with flags := c.flags.addAbortUnconfirmed }

theorem Blocks.selectionFailed_halt (h : (b.lane n).served = some ⟨k, .haltSelection⟩) :
    b.selectionFailed n = (b.modCtx k Context.unconfirmed).endSelection n k [haltClass (b.ctx k).haltCause] := by
  have hc : ((b.modCtx k Context.unconfirmed).ctx k).haltCause = (b.ctx k).haltCause := by
    rw [Blocks.modCtx_ctx_same]; rfl
  simp only [Blocks.selectionFailed, h]
  rw [← hc]
  rfl

theorem Blocks.attemptsRemain_iff (kind : ServiceKind) (h : (b.lane n).served = some ⟨k, kind⟩) :
    b.attemptsRemain n = decide ((b.lane n).attempts < 1 + b.retriesOf k) := by
  simp only [Blocks.attemptsRemain, Lane.servedSlot_eq k _ kind h]

end

end Sys2Proof.Machine

/-!
The expiry of the response timer (R27, R93, R99, R102, R120, R169, R171).
-/
namespace Sys2Proof.Machine

open Sys2Proof.Claims

theorem Blocks.responseTimeout_due (b : Blocks) (n : LaneId) (x : ResponseTimer) (h : (b.lane n).timer = some x)
    (hx : x.limit ≤ x.count) : b.responseTimeout n = b.timedOut n := by
  simp [Blocks.responseTimeout, Lane.timerDue, h, hx]

/-- The expiry, of which `c` are the blocks. -/
theorem exec_timedOut {s : State} {n : LaneId} {x : ResponseTimer} {c : Blocks} (h : (s.blocks.lane n).timer = some x)
    (hx : x.limit ≤ x.count) (hc : s.blocks.timedOut n = c) :
    ∃ t, exec (.responseTimeout n) s = .next t ∧ t.port = s.port ∧ t.pending = s.pending
      ∧ t.blocks = s.blocks.settled c := by
  refine ⟨s.onBlocks fun b => b.responseTimeout n, rfl, rfl, rfl, ?_⟩
  rw [State.onBlocks_blocks, s.blocks.responseTimeout_due n x h hx, hc]

/-! ### L_POLLING -/

theorem Lane.emptyPoll_counts (l : Lane) (h : l.emptyPolls < 3) : l.emptyPoll.emptyPolls = (l.emptyPolls + 1) % 3
    ∧ (l.emptyPoll.lineStuck = true ↔ l.lineStuck = true ∨ l.emptyPolls = 2) := by
  unfold Lane.emptyPoll
  split
  · have h2 : l.emptyPolls = 2 := by omega
    simp [h2]
  · have h2 : l.emptyPolls ≠ 2 := by omega
    have hmod : (l.emptyPolls + 1) % 3 = l.emptyPolls + 1 := by omega
    simp [h2, hmod]

theorem timeout_in_polling (s : State) (n : LaneId) (x : ResponseTimer) (hst : (s.blocks.lane n).state = .polling)
    (htm : (s.blocks.lane n).timer = some x) (hx : x.limit ≤ x.count) (he : (s.blocks.lane n).emptyPolls < 3) :
    ∃ t, exec (.responseTimeout n) s = .next t ∧ t.port = s.port ∧ elsewhere s t
      ∧ (t.blocks.lane n).emptyPolls = ((s.blocks.lane n).emptyPolls + 1) % 3
      ∧ ((t.blocks.lane n).lineStuck = true ↔
          (s.blocks.lane n).lineStuck = true ∨ (s.blocks.lane n).emptyPolls = 2)
      ∧ otherLanes s t n ∧ sameTables s t := by
  have hc : s.blocks.timedOut n = (s.blocks.modLane n (·.emptyPoll)).enterIdle n := by simp only [Blocks.timedOut, hst]
  obtain ⟨t, hexec, hport, hp, ht⟩ := exec_timedOut htm hx hc
  have honly := (s.blocks.laneOnly_modLane n (·.emptyPoll)).trans (Blocks.laneOnly_enterIdle _ n)
  obtain ⟨helse, hsame, hlanes⟩ := laneOnly_claims honly ht hp
  obtain ⟨st, sv, at', mm, pr, tx, q, hl, -⟩ := (s.blocks.modLane n (·.emptyPoll)).enterIdle_lane_spec n
  rw [Blocks.modLane_lane_same] at hl
  obtain ⟨hcount, hstuck⟩ := (s.blocks.lane n).emptyPoll_counts he
  refine ⟨t, hexec, hport, helse, ?_, ?_, hlanes, hsame⟩
  · rw [ht, Blocks.settled_lane, hl]; exact hcount
  · rw [ht, Blocks.settled_lane, hl]; exact hstuck

/-! ### L_COMMANDING -/

/-- A link error of a lane that does not close (R120, R169). -/
theorem Blocks.linkError_eq (b : Blocks) (n : LaneId) (h : (b.lane n).state ≠ .ending) :
    b.linkError n = b.enterAborting n (if (b.lane n).haltNotice = true then .halt else .linkError) := by
  have hcl : (b.lane n).isClosing = false := by simp [Lane.isClosing, h]
  simp [Blocks.linkError, hcl]

theorem timeout_in_commanding (s : State) (n : LaneId) (k : Slot) (x : ResponseTimer)
    (hst : (s.blocks.lane n).state = .commanding) (hserved : serving s n k) (htm : (s.blocks.lane n).timer = some x)
    (hx : x.limit ≤ x.count) (_hm : (s.blocks.lane n).memReq = none) :
    ∃ t, exec (.responseTimeout n) s = .next t ∧ t.port = s.port
      ∧ (t.blocks.lane n).state = .aborting ∧ sends s t n (.abort (s.blocks.unitOf k))
      ∧ (t.blocks.lane n).abortCause =
          some (if (s.blocks.lane n).haltNotice = true then AbortCause.halt else AbortCause.linkError)
      ∧ (t.blocks.lane n).timer = none ∧ t.blocks.ctxs = s.blocks.ctxs ∧ otherLanes s t n
      ∧ t.blocks.window.ledger = s.blocks.window.ledger := by
  generalize hcause : (if (s.blocks.lane n).haltNotice = true then AbortCause.halt else AbortCause.linkError) = cause
  have hc : s.blocks.timedOut n = s.blocks.enterAborting n cause := by
    rw [← hcause, ← s.blocks.linkError_eq n (by rw [hst]; nofun)]
    simp only [Blocks.timedOut, hst]
  obtain ⟨t, hexec, hport, -, ht⟩ := exec_timedOut htm hx hc
  obtain ⟨hs, hab, -, hsend, -, -, -, htimer, -, hledger, -, hlanes⟩ : aborts s t n k cause :=
    aborts_of_enterAborting cause hserved (.refl _) rfl rfl (.refl n _) ht
  exact ⟨t, hexec, hport, hs, hsend, hab, htimer, by rw [ht]; exact s.blocks.enterAborting_ctxs cause hserved, hlanes,
    hledger⟩

/-! ### L_SELECTING -/

theorem Blocks.timedOut_selecting (b : Blocks) (n : LaneId) (k : Slot) (kind : ServiceKind)
    (hst : (b.lane n).state = .selecting) (hs : (b.lane n).served = some ⟨k, kind⟩) :
    b.timedOut n = if (b.lane n).attempts < 1 + b.retriesOf k then b.nextAttempt n else b.selectionFailed n := by
  simp only [Blocks.timedOut, hst, Blocks.attemptTimedOut, hs, b.attemptsRemain_iff n k kind hs, decide_eq_true_eq]
  rfl

theorem timeout_attempts_remain (s : State) (n : LaneId) (k : Slot) (kind : ServiceKind) (x : ResponseTimer)
    (hst : (s.blocks.lane n).state = .selecting) (hs : (s.blocks.lane n).served = some ⟨k, kind⟩)
    (htm : (s.blocks.lane n).timer = some x) (hx : x.limit ≤ x.count)
    (hat : (s.blocks.lane n).attempts < 1 + s.blocks.retriesOf k) :
    ∃ t, exec (.responseTimeout n) s = .next t ∧ t.port = s.port ∧ elsewhere s t ∧ sameTables s t
      ∧ otherLanes s t n ∧ (t.blocks.lane n).state = .selecting ∧ (t.blocks.lane n).served = some ⟨k, kind⟩
      ∧ (t.blocks.lane n).attempts = (s.blocks.lane n).attempts + 1 ∧ (t.blocks.lane n).timer = none
      ∧ sends s t n (.sel (s.blocks.unitOf k)) := by
  have hc : s.blocks.timedOut n = s.blocks.nextAttempt n := by
    rw [s.blocks.timedOut_selecting n k kind hst hs, if_pos hat]
  obtain ⟨t, hexec, hport, hp, ht⟩ := exec_timedOut htm hx hc
  obtain ⟨helse, hsame, hlanes⟩ :=
    laneOnly_claims ((s.blocks.laneOnly_modLane n _).trans (Blocks.laneOnly_send _ n _)) ht hp
  have hl : t.blocks.lane n =
      Lane.send { s.blocks.lane n with attempts := (s.blocks.lane n).attempts + 1, selOwed := false, timer := none }
        (.sel (s.blocks.unitOf k)) := by
    rw [ht, Blocks.settled_lane, Blocks.nextAttempt, Blocks.send_lane_same, Blocks.modLane_lane_same,
      s.blocks.servedUnit_eq n k kind hs]
  refine ⟨t, hexec, hport, helse, hsame, hlanes, ?_, ?_, ?_, ?_, sends_of_sent ?_⟩
  any_goals rw [hl]
  · rw [Lane.send_state]; exact hst
  · rw [Lane.send_served]; exact hs
  · rw [Lane.send_attempts]
  · rw [Lane.send_timer]
  · refine Lane.Sent.send ?_ _
    exact .of_wire rfl rfl rfl

theorem timeout_no_attempt_remains (s : State) (n : LaneId) (k : Slot) (kind : ServiceKind) (x : ResponseTimer)
    (hst : (s.blocks.lane n).state = .selecting) (hs : (s.blocks.lane n).served = some ⟨k, kind⟩)
    (hkind : kind ≠ .connection) (htm : (s.blocks.lane n).timer = some x) (hx : x.limit ≤ x.count)
    (hat : 1 + s.blocks.retriesOf k ≤ (s.blocks.lane n).attempts) (hfree : (s.blocks.ctx k).state ≠ .free)
    (hn : s.blocks.laneOf k = n) :
    ∃ t, exec (.responseTimeout n) s = .next t ∧ t.port = s.port ∧ elsewhere s t ∧ otherCtxs s t k
      ∧ otherLanes s t n ∧ k ∉ (t.blocks.lane n).readyQ ∧ k ∉ (t.blocks.lane n).haltList
      ∧ (t.blocks.lane n).state ≠ .fault
      ∧ (kind = .readySelection → reportedAs t k
          (if (s.blocks.lane n).mismatch = true then .linkError else .noUnit))
      ∧ (kind = .haltSelection → (t.blocks.ctx k).flags.abortUnconfirmed = true
          ∧ ((s.blocks.ctx k).haltCause = some .requested → reportedAs t k .halted)
          ∧ ((s.blocks.ctx k).haltCause = some .timeout → reportedAs t k .timeout)) := by
  have hc : s.blocks.timedOut n = s.blocks.selectionFailed n := by
    rw [s.blocks.timedOut_selecting n k kind hst hs, if_neg (Nat.not_lt.mpr hat)]
  cases kind with
  | connection => exact absurd rfl hkind
  | readySelection =>
    rw [s.blocks.selectionFailed_ready n k hs] at hc
    obtain ⟨t, hexec, hport, hp, ht⟩ := exec_timedOut htm hx hc
    generalize hcls : (if (s.blocks.lane n).mismatch = true then ReportClass.linkError else ReportClass.noUnit) = cls at ht ⊢
    have hloc := s.blocks.local_endSelection n k [plain cls]
    obtain ⟨hready, hhalt, hfault⟩ := s.blocks.endSelection_lane n k [plain cls] hn
    refine ⟨t, hexec, hport, elsewhere_of_local (k := k) (by rw [ht]; exact hloc.settled _) hp, ?_, ?_, ?_, ?_, ?_,
      fun _ => ?_, fun h => by cases h⟩
    · rw [otherCtxs, ht]; exact (hloc.settled _).ctx_ne
    · rw [otherLanes, ht]; exact (s.blocks.apart_endSelection n k _ hn).settled _
    · rw [ht, Blocks.settled_lane]; exact hready
    · rw [ht, Blocks.settled_lane]; exact hhalt
    · rw [ht, Blocks.settled_lane]; exact hfault
    · refine reportedAs_of (c := s.blocks.ctx k) (named := [plain cls]) ?_ rfl
      rw [ht, Blocks.settled_ctx, Blocks.endSelection_ctx _ _ _ _ hfree]
  | haltSelection =>
    rw [s.blocks.selectionFailed_halt n k hs] at hc
    obtain ⟨t, hexec, hport, hp, ht⟩ := exec_timedOut htm hx hc
    generalize hnamed : haltClass (s.blocks.ctx k).haltCause = named at ht
    have hloc1 : Blocks.Local k s.blocks (s.blocks.modCtx k Context.unconfirmed) :=
      Blocks.local_modCtx Context.unconfirmed fun _ => rfl
    have hn1 : (s.blocks.modCtx k Context.unconfirmed).laneOf k = n := by rw [hloc1.toReach.laneOf, hn]
    have hloc := hloc1.trans (Blocks.local_endSelection _ n k [named])
    obtain ⟨hready, hhalt, hfault⟩ := Blocks.endSelection_lane _ n k [named] hn1
    have htk : t.blocks.ctx k = (s.blocks.ctx k).unconfirmed.toReported k [named] := by
      rw [ht, Blocks.settled_ctx, Blocks.endSelection_ctx, Blocks.modCtx_ctx_same]
      rw [Blocks.modCtx_ctx_same]
      exact hfree
    refine ⟨t, hexec, hport, elsewhere_of_local (k := k) (by rw [ht]; exact hloc.settled _) hp, ?_, ?_, ?_, ?_, ?_,
      fun h => (by cases h), fun _ => ⟨by rw [htk]; rfl, fun hcause => ?_, fun hcause => ?_⟩⟩
    · rw [otherCtxs, ht]; exact (hloc.settled _).ctx_ne
    · rw [otherLanes, ht]
      exact ((Blocks.Apart.of_lanes n fun _ => rfl).trans (Blocks.apart_endSelection _ n k _ hn1)).settled _
    · rw [ht, Blocks.settled_lane]; exact hready
    · rw [ht, Blocks.settled_lane]; exact hhalt
    · rw [ht, Blocks.settled_lane]; exact hfault
    all_goals
      rw [hcause] at hnamed
      subst hnamed
      exact reportedAs_of htk rfl

/-! ### A lost attempt (R171) -/

theorem halt_makes_attempt_lost (s : State) (r : Request) (rest : List Request) (k : Slot)
    (htaken : taken s r rest .haltUnit) (hl : s.blocks.lookup r.lane r.unit = some k)
    (hs : (s.blocks.ctx k).state = .ready) (hn : s.blocks.laneOf k = r.lane)
    (hserved : (s.blocks.lane r.lane).served = some ⟨k, .readySelection⟩)
    (howed : (s.blocks.lane r.lane).selOwed = false) :
    ∃ t, exec .haltUnit s = .next t ∧ reportedAs t k .halted
      ∧ (t.blocks.lane r.lane).state = (s.blocks.lane r.lane).state ∧ (t.blocks.lane r.lane).served = none
      ∧ (t.blocks.lane r.lane).lostAttempt = some (s.blocks.unitOf k)
      ∧ (t.blocks.lane r.lane).timer = (s.blocks.lane r.lane).timer
      ∧ (t.blocks.lane r.lane).tx = (s.blocks.lane r.lane).tx
      ∧ (t.blocks.lane r.lane).txQueue = (s.blocks.lane r.lane).txQueue := by
  have hhalt := (Blocks.doHalt_bound _ _ k hl).trans (s.blocks.haltSlot_ready k hs)
  have hctx := s.blocks.haltReady_ctx k (by rw [hs]; nofun)
  obtain ⟨rq, ha, hlane⟩ := s.blocks.haltEnded_lane k r.lane
  have hlost : (s.blocks.haltReady k).lane r.lane =
      { (s.blocks.haltEnded k).lane r.lane with
        served := none, attempts := 0, mismatch := false, lostAttempt := some (s.blocks.unitOf k) } := by
    rw [Blocks.haltReady_eq, hn, if_pos (Lane.servedSlot_eq k _ _ hserved), Blocks.loseSelection, if_neg,
      Blocks.modLane_lane_same]
    rw [hlane]
    simp [howed]
  rw [hlane] at hlost
  refine ⟨_, exec_taken htaken rfl, ?_⟩
  simp only [State.answeredWith_blocks, hhalt, Blocks.settled_lane, hlost]
  exact ⟨reportedAs_of hctx rfl, trivial, trivial, trivial, trivial, trivial, trivial⟩

/-- With no attention and no work the service choice chooses nothing. -/
theorem Blocks.enterIdle_unchosen (b : Blocks) (n : LaneId) (ha : (b.lane n).atn = false) (hr : (b.lane n).readyQ = [])
    (hh : (b.lane n).haltList = []) : (b.enterIdle n).lane n = { b.lane n with state := .idle, timer := none } := by
  have hl := b.modLane_lane_same n fun l => { l with state := .idle, timer := none }
  rw [Blocks.enterIdle, ← hl]
  simp [Blocks.serviceChoice, Lane.wantsPoll, ha, hr, hh]

/-- The end of a lost attempt changes its lane alone. -/
theorem Blocks.laneOnly_endLostAttempt (b : Blocks) (n : LaneId) : Blocks.LaneOnly n b (b.endLostAttempt n) :=
  (b.laneOnly_modLane n _).trans (Blocks.laneOnly_enterIdle _ n)

theorem Blocks.endLostAttempt_lane (b : Blocks) (n : LaneId) : ((b.endLostAttempt n).lane n).lostAttempt = none
    ∧ ∃ more, Lane.Sent (b.lane n) ((b.endLostAttempt n).lane n) more := by
  obtain ⟨st, sv, at', mm, pr, tx, q, hl, -⟩ :=
    (b.modLane n fun l => { l with lostAttempt := none }).enterIdle_lane_spec n
  obtain ⟨more, hsent⟩ := (b.modLane n fun l => { l with lostAttempt := none }).sent_enterIdle n
  rw [Blocks.modLane_lane_same] at hl hsent
  refine ⟨?_, [] ++ more, ?_⟩
  · rw [Blocks.endLostAttempt, hl]
  · refine Lane.Sent.trans ?_ hsent
    exact .of_wire rfl rfl rfl

theorem timeout_of_lost_attempt (s : State) (n : LaneId) (x : ResponseTimer) (hst : (s.blocks.lane n).state = .selecting)
    (hs : (s.blocks.lane n).served = none) (htm : (s.blocks.lane n).timer = some x) (hx : x.limit ≤ x.count) :
    ∃ t, exec (.responseTimeout n) s = .next t ∧ t.port = s.port ∧ elsewhere s t ∧ sameTables s t
      ∧ otherLanes s t n ∧ (t.blocks.lane n).lostAttempt = none
      ∧ ((s.blocks.lane n).atn = false → (s.blocks.lane n).readyQ = [] → (s.blocks.lane n).haltList = [] →
          (t.blocks.lane n).state = .idle ∧ (t.blocks.lane n).timer = none ∧ outgoing t n = outgoing s n) := by
  have hc : s.blocks.timedOut n = s.blocks.endLostAttempt n := by
    simp only [Blocks.timedOut, hst, Blocks.attemptTimedOut, hs]
    rfl
  obtain ⟨t, hexec, hport, hp, ht⟩ := exec_timedOut htm hx hc
  obtain ⟨helse, hsame, hlanes⟩ := laneOnly_claims (s.blocks.laneOnly_endLostAttempt n) ht hp
  refine ⟨t, hexec, hport, helse, hsame, hlanes, ?_, fun ha hr hh => ?_⟩
  · rw [ht, Blocks.settled_lane]
    exact (s.blocks.endLostAttempt_lane n).1
  · have hl := s.blocks.modLane_lane_same n fun l => { l with lostAttempt := none }
    have hidle : t.blocks.lane n = { s.blocks.lane n with lostAttempt := none, state := .idle, timer := none } := by
      rw [ht, Blocks.settled_lane, Blocks.endLostAttempt, Blocks.enterIdle_unchosen, hl]
      · rw [hl]; exact ha
      · rw [hl]; exact hr
      · rw [hl]; exact hh
    simp only [outgoing, hidle]
    exact ⟨trivial, trivial, trivial⟩

theorem echo_of_lost_attempt (s : State) (n : LaneId) (addr : UnitAddr) (hrx : receiving s n)
    (hst : (s.blocks.lane n).state = .selecting) (hs : (s.blocks.lane n).served = none) :
    ∃ t, exec (.frameEcho n addr) s = .next t ∧ t.port = s.port ∧ elsewhere s t ∧ sameTables s t
      ∧ otherLanes s t n ∧ (t.blocks.lane n).lostAttempt = none ∧ sendsFirst s t n (.desel addr) := by
  have hlane := s.blocks.heard_lane_spec n
  have hsent := s.blocks.sent_heard n
  have honly := s.blocks.laneOnly_heard n
  have hc : (s.blocks.heard n).echoFrame n addr = ((s.blocks.heard n).send n (.desel addr)).endLostAttempt n := by
    obtain ⟨tx, q, hl⟩ := hlane
    have h1 : ((s.blocks.heard n).lane n).state = .selecting := by rw [hl]; exact hst
    have h2 : ((s.blocks.heard n).lane n).served = none := by rw [hl]; exact hs
    rw [Blocks.echoFrame, if_pos h1]
    simp only [Blocks.echoTaken, h2]
  have honly' := (honly.trans (Blocks.laneOnly_send _ n (.desel addr))).trans (Blocks.laneOnly_endLostAttempt _ n)
  obtain ⟨t, hexec, hport, hp, ht⟩ := exec_frame_unasked (i := .frameEcho n addr) hrx rfl hc
    (by rw [honly'.window]; exact id)
  obtain ⟨helse, hsame, hlanes⟩ := laneOnly_claims honly' ht hp
  obtain ⟨hlost, more, hmore⟩ := ((s.blocks.heard n).send n (.desel addr)).endLostAttempt_lane n
  refine ⟨t, hexec, hport, helse, hsame, hlanes, ?_, sendsFirst_of_sent ⟨more, ?_⟩⟩
  · rw [ht, Blocks.settled_lane]; exact hlost
  · rw [ht, Blocks.settled_lane]
    refine (hsent.send (.desel addr)).trans ?_
    rw [Blocks.send_lane_same] at hmore
    exact hmore

/-- Settles O27, one lemma for each state in which the expiry finds the lane, and three for the lost attempt. -/
theorem aTimeoutIsAnEmptyPollAFailedAttemptOrALinkError : Obligations.ATimeoutIsAnEmptyPollAFailedAttemptOrALinkError :=
  ⟨timeout_in_polling, timeout_in_commanding, timeout_attempts_remain, timeout_no_attempt_remains,
    halt_makes_attempt_lost, timeout_of_lost_attempt, echo_of_lost_attempt⟩

end Sys2Proof.Machine

/-!
An ECHO: a selection succeeds, or is deselected (R15, R102, R103, R131, R132).
-/
namespace Sys2Proof.Machine

open Sys2Proof.Claims

/-! ### A connection begins -/

/-- The lane as a connection with slot `k` begins, its live fields those of the record `c` (R16). -/
def Lane.connectedTo (l : Lane) (k : Slot) (c : Context) : Lane :=
  ({ l with served := some ⟨k, .connection⟩, timer := none } : Lane).loadLive c

theorem Blocks.connect_lane (b : Blocks) (n : LaneId) (k : Slot) :
    (b.connect n k).lane n = (b.lane n).connectedTo k (b.ctx k) :=
  b.modLane_lane_same n fun l => ({ l with served := some ⟨k, .connection⟩, timer := none } : Lane).loadLive (b.ctx k)

theorem Blocks.laneOnly_connect (b : Blocks) (n : LaneId) (k : Slot) : Blocks.LaneOnly n b (b.connect n k) :=
  b.laneOnly_modLane n _

/-! ### A selection succeeds -/

section
variable (b : Blocks) (n : LaneId) (k : Slot)

/-- The blocks at which a ready selection has succeeded and the lane has not yet asked for its permit (R15, R103). -/
def Blocks.selectedBy : Blocks :=
  ((((b.modCtx k Context.selected).dropFromLists n k).modLane n (·.release)).connect n k)

theorem Blocks.readySelected_eq : b.readySelected n k = (b.selectedBy n k).joinPermit n := rfl

theorem Blocks.local_selectedBy : Blocks.Local k b (b.selectedBy n k) := by
  refine Blocks.Local.trans (Blocks.local_modCtx Context.selected fun c => ?_) ?_
  · unfold Context.selected
    split <;> rfl
  · exact ((Blocks.local_dropFromLists _ k n k).trans (Blocks.local_modLane _ k n (·.release))).trans
      ((Blocks.laneOnly_connect _ n k).toLocal k)

theorem Blocks.apart_selectedBy : Blocks.Apart n b (b.selectedBy n k) :=
  (((Blocks.Apart.of_lanes (c := b.modCtx k Context.selected) n fun _ => rfl).trans (Blocks.apart_modLane _ n _)).trans
    (Blocks.apart_modLane _ n (·.release))).trans (Blocks.laneOnly_connect _ n k).apart

theorem Blocks.selectedBy_ctx (h : (b.ctx k).state = .ready) :
    (b.selectedBy n k).ctx k = { b.ctx k with state := .connected } := by
  have hc : (b.modCtx k Context.selected).ctx k = { b.ctx k with state := .connected } := by
    rw [Blocks.modCtx_ctx_same, Context.selected, if_pos h]
  exact hc

theorem Blocks.selectedBy_lane (h : (b.ctx k).state = .ready) : ∃ l : Lane, l.tx = (b.lane n).tx
    ∧ l.txQueue = (b.lane n).txQueue ∧ l.rx = (b.lane n).rx ∧ k ∉ l.readyQ
    ∧ (b.selectedBy n k).lane n = l.connectedTo k { b.ctx k with state := .connected } := by
  have hl := Blocks.connect_lane (((b.modCtx k Context.selected).dropFromLists n k).modLane n (·.release)) n k
  have hc : (((b.modCtx k Context.selected).dropFromLists n k).modLane n (·.release)).ctx k =
      { b.ctx k with state := .connected } := b.selectedBy_ctx n k h
  refine ⟨_, ?_, ?_, ?_, ?_, hl.trans (by rw [hc])⟩
  all_goals rw [Blocks.modLane_lane_same, Blocks.dropFromLists, Blocks.modLane_lane_same]
  · rfl
  · rfl
  · rfl
  · simp [Lane.release]

section
variable (hs : (b.lane n).state = .selecting) (hsv : (b.lane n).served = some ⟨k, .readySelection⟩)
include hs hsv

theorem Blocks.echoFrame_selected : b.echoFrame n (b.unitOf k) = b.readySelected n k := by
  rw [Blocks.echoFrame, if_pos hs]
  simp only [Blocks.echoTaken, hsv, if_true]

theorem Blocks.echoFrame_mismatch (addr : UnitAddr) (ha : addr ≠ b.unitOf k) :
    b.echoFrame n addr = b.echoMismatch n addr := by
  rw [Blocks.echoFrame, if_pos hs]
  simp only [Blocks.echoTaken, hsv, ha, if_false]

end

end

/-! ### The permit asked for -/

/-- A decision asked for in the event is taken in it, or left owed where a withdrawal waits (R131, R132; log 38). -/
theorem State.onBlocksAsking_asked (s : State) (f : Blocks → Blocks) (h : s.blocks.window.asked = false)
    (hf : (f s.blocks).window.asked = true) :
    (∃ ch, s.onBlocksAsking f = s.onBlocks fun b => Blocks.grantDecision { f b with choice := ch })
      ∨ (s.withdrawalWaits (f s.blocks).window = true
          ∧ s.onBlocksAsking f = s.onBlocks fun b => { f b with choice := (f b).choice + 1 }) := by
  cases hw : s.withdrawalWaits (f s.blocks).window with
  | false =>
    refine Or.inl ⟨(f s.blocks).choice, ?_⟩
    simp [State.onBlocksAsking, State.onBlocks, h, hw, Blocks.decideIfAsked, hf]
  | true =>
    cases hc : Config.grantWaits (f s.blocks).choice with
    | true => exact Or.inr ⟨rfl, s.onBlocksAsking_of_waits f h hf hw hc⟩
    | false =>
      refine Or.inl ⟨(f s.blocks).choice + 1, ?_⟩
      simp [State.onBlocksAsking, State.onBlocks, h, hw, hf, Blocks.answerAsking, hc]

/-- A frame of a valid format is taken, and a decision asked for. -/
theorem exec_frame_asked {s : State} {n : LaneId} {c : Blocks} {i : Instr} {f : Blocks → Blocks} (hrx : receiving s n)
    (hi : exec i s = .next (s.onBlocksAsking fun b => b.takeFrame n true false f)) (hc : f (s.blocks.heard n) = c)
    (h : s.blocks.window.asked = false) (hw : c.window.asked = true) :
    ∃ t ch, exec i s = .next t ∧ t.port = s.port
      ∧ (t.blocks = s.blocks.settled (Blocks.grantDecision { c with choice := ch })
        ∨ (s.withdrawalWaits c.window = true ∧ t.blocks = s.blocks.settled { c with choice := ch })) := by
  have hf : s.blocks.takeFrame n true false f = c := by
    rw [Blocks.takeFrame_valid _ _ _ _ hrx, ← hc]
    rfl
  rcases s.onBlocksAsking_asked (fun b => b.takeFrame n true false f) h (by rw [hf]; exact hw) with ⟨ch, he⟩ | ⟨hwait, he⟩
  · refine ⟨_, ch, hi.trans (congrArg _ he), rfl, Or.inl ?_⟩
    rw [State.onBlocks_blocks, hf]
  · refine ⟨_, c.choice + 1, hi.trans (congrArg _ he), rfl, Or.inr ⟨by rw [← hf]; exact hwait, ?_⟩⟩
    rw [State.onBlocks_blocks, hf]

/-- The decision grants the lane that waits alone (R131). -/
theorem Blocks.grantDecision_alone (b : Blocks) (n : LaneId) (hp : b.window.permits = [n])
    (hy : b.window.youngCount < b.window.startLimit) :
    b.grantDecision = Blocks.modLane
      { b with
        window := { b.window with
          asked := false, permits := [], ledger := appendRecord b.window.ledger ⟨b.timebase.count, 0⟩ } }
      n (·.command (b.servedUnit n)) := by
  have hmay : Window.mayGrant { b.window with asked := false } = true := by
    simp only [Window.mayGrant, hp, List.isEmpty_cons, Bool.not_false, Bool.true_and]
    exact decide_eq_true hy
  have hlen : b.window.permits.length = 1 := by rw [hp]; rfl
  have hrun : b.grantDecision = Blocks.grantHead { b with window := { b.window with asked := false } } := by
    rw [Blocks.grantDecision, hlen]
    exact if_pos hmay
  rw [hrun]
  simp only [Blocks.grantHead, hp]
  rfl

theorem Lane.command_eq (l : Lane) (u : UnitAddr) (d : Descriptor) (h : l.desc = some d) :
    l.command u = Lane.send { l with state := .commanding, outToggle := false, inToggle := false, lastIn := none }
      (cmdFrame u d) := by
  simp only [Lane.command, h]

theorem Blocks.grantDecision_lane (b : Blocks) (n : LaneId) (d : Descriptor) (hp : b.window.permits = [n])
    (hy : b.window.youngCount < b.window.startLimit) (hd : (b.lane n).desc = some d) :
    b.grantDecision.lane n =
      Lane.send { b.lane n with state := .commanding, outToggle := false, inToggle := false, lastIn := none }
        (cmdFrame (b.servedUnit n) d) := by
  rw [b.grantDecision_alone n hp hy, Blocks.modLane_lane_same]
  exact Lane.command_eq (b.lane n) (b.servedUnit n) d hd

theorem Blocks.grantDecision_ctx (b : Blocks) (k : Slot) : b.grantDecision.ctx k = b.ctx k := by
  obtain ⟨lanes, ledger, permits, h⟩ := b.grantDecision_spec
  rw [h]
  rfl

/-- A grant, in the words of the statements: `b` are the blocks at which the lane waits alone for its permit. -/
theorem granted_of {s t : State} {b : Blocks} {n : LaneId} {d : Descriptor} (hp : b.window.permits = [n])
    (hy : b.window.youngCount < b.window.startLimit) (hl : b.window.ledger = s.blocks.window.ledger)
    (hlen : s.blocks.window.ledger.length < 8) (htb : b.timebase = s.blocks.timebase)
    (hu : b.servedUnit n = s.blocks.servedUnit n) (hd : (b.lane n).desc = some d)
    (hsent : Lane.Sent (s.blocks.lane n) (b.lane n) []) (hap : Blocks.Apart n s.blocks b)
    (ht : t.blocks = s.blocks.settled b.grantDecision) : granted s t n d := by
  have hlane : t.blocks.lane n =
      Lane.send { b.lane n with state := .commanding, outToggle := false, inToggle := false, lastIn := none }
        (cmdFrame (s.blocks.servedUnit n) d) := by
    rw [ht, Blocks.settled_lane, b.grantDecision_lane n d hp hy hd, hu]
  have hwin : t.blocks.window = { b.window with
      asked := false, permits := [], ledger := appendRecord b.window.ledger ⟨b.timebase.count, 0⟩ } := by
    rw [ht, Blocks.settled_window, b.grantDecision_alone n hp hy]
    rfl
  have hrec : appendRecord b.window.ledger ⟨b.timebase.count, 0⟩ =
      s.blocks.window.ledger ++ [⟨s.blocks.timebase.count, 0⟩] := by
    rw [appendRecord, hl, htb, if_neg]
    exact Nat.not_le.mpr hlen
  refine ⟨by rw [hwin], by rw [hwin], by rw [hwin]; exact hrec, by rw [hlane, Lane.send_state],
    by rw [hlane, Lane.send_outToggle], by rw [hlane, Lane.send_inToggle], by rw [hlane, Lane.send_lastIn],
    sends_of_sent ?_, fun m hm => ?_⟩
  · rw [hlane]
    refine Lane.Sent.send (hsent.trans (gs := []) ?_) _
    exact .of_wire rfl rfl rfl
  · rw [ht, Blocks.settled_lane, b.grantDecision_alone n hp hy, Blocks.modLane_lane_ne _ _ _ _ hm]
    exact hap m hm

/-- A withdrawal that waits for a lane alone in the queue is one of that lane. -/
theorem withdrawalNext_of {s : State} {n : LaneId} {w : Window} (hp : w.permits = [n])
    (h : s.withdrawalWaits w = true) : withdrawalNext s n := by
  unfold State.withdrawalWaits at h
  cases hb : s.pending.head?.bind (withdrawnBy s.port.reqs) with
  | none => rw [hb] at h; cases h
  | some m =>
    rw [hb, hp] at h
    obtain rfl : m = n := by simpa using h
    obtain ⟨c, hc, hw⟩ := Option.bind_eq_some_iff.mp hb
    obtain ⟨rest, hrest⟩ := List.head?_eq_some_iff.mp hc
    refine ⟨c, rest, hrest, ?_⟩
    have hreq : s.port.reqs.head?.map (·.lane) = some m → ∃ r more, s.port.reqs = r :: more ∧ r.lane = m := by
      intro hr
      obtain ⟨r, hr, hrm⟩ := Option.map_eq_some_iff.mp hr
      obtain ⟨more, hmore⟩ := List.head?_eq_some_iff.mp hr
      exact ⟨r, more, hmore, hrm⟩
    cases c
    case haltUnit => exact Or.inl ⟨Or.inl rfl, hreq hw⟩
    case resetLane => exact Or.inl ⟨Or.inr rfl, hreq hw⟩
    case frameFirstStartBit i => cases hw; exact Or.inr (Or.inl rfl)
    case frameAttn i a reason status => cases hw; exact Or.inr (Or.inr ⟨.attn a reason status, rfl⟩)
    case frameEcho i a => cases hw; exact Or.inr (Or.inr ⟨.echo a, rfl⟩)
    case frameAcpt i a status => cases hw; exact Or.inr (Or.inr ⟨.acpt a status, rfl⟩)
    case frameNeed i a chunks => cases hw; exact Or.inr (Or.inr ⟨.need a chunks, rfl⟩)
    case frameDin i a toggle bytes => cases hw; exact Or.inr (Or.inr ⟨.din a toggle bytes, rfl⟩)
    case frameWait i a => cases hw; exact Or.inr (Or.inr ⟨.wait a, rfl⟩)
    case frameEnd i a status => cases hw; exact Or.inr (Or.inr ⟨.endFrame a status, rfl⟩)
    all_goals cases hw

/-- With room in the window a decision is owed (R131). -/
theorem Blocks.joinPermit_asks (b : Blocks) (n : LaneId) (h : b.window.youngCount < b.window.startLimit) :
    (b.joinPermit n).window = { b.window with permits := b.window.permits ++ [n], asked := true } := by
  have hg : Window.mayGrant { b.window with permits := b.window.permits ++ [n] } = true := by
    have hy : Window.youngCount { b.window with permits := b.window.permits ++ [n] } = b.window.youngCount := rfl
    simp [Window.mayGrant, hy, h]
  simp only [Blocks.joinPermit, Blocks.modLane_window, hg, Bool.or_true]

/-! ### FRAME_ECHO -/

section
variable {s : State} {n : LaneId} {k : Slot} (hrx : receiving s n) (hst : (s.blocks.lane n).state = .selecting)
  (hsv : (s.blocks.lane n).served = some ⟨k, .readySelection⟩) (hs : (s.blocks.ctx k).state = .ready)

include hst hsv in
theorem heard_selecting : ((s.blocks.heard n).lane n).state = .selecting
    ∧ ((s.blocks.heard n).lane n).served = some ⟨k, .readySelection⟩ := by
  obtain ⟨tx, q, hl⟩ := s.blocks.heard_lane_spec n
  rw [hl]
  exact ⟨hst, hsv⟩

include hs in
/-- The blocks at which the lane is about to ask for its permit. -/
theorem echo_selects : Blocks.Local k s.blocks ((s.blocks.heard n).selectedBy n k)
    ∧ Blocks.Apart n s.blocks ((s.blocks.heard n).selectedBy n k)
    ∧ ((s.blocks.heard n).selectedBy n k).ctx k = { s.blocks.ctx k with state := .connected }
    ∧ Lane.Sent (s.blocks.lane n) (((s.blocks.heard n).selectedBy n k).lane n) []
    ∧ ∃ l : Lane, k ∉ l.readyQ
        ∧ ((s.blocks.heard n).selectedBy n k).lane n = l.connectedTo k { s.blocks.ctx k with state := .connected } := by
  have hs' : ((s.blocks.heard n).ctx k).state = .ready := hs
  obtain ⟨l, htx, hq, hlrx, hready, hl⟩ := (s.blocks.heard n).selectedBy_lane n k hs'
  refine ⟨((s.blocks.laneOnly_heard n).toLocal k).trans (Blocks.local_selectedBy _ n k),
    (s.blocks.laneOnly_heard n).apart.trans (Blocks.apart_selectedBy _ n k), Blocks.selectedBy_ctx _ n k hs', ?_, l, hready,
    hl⟩
  refine (s.blocks.sent_heard n).trans (gs := []) (.of_wire ?_ ?_ ?_)
  · rw [hl]; exact htx
  · rw [hl]; exact hq
  · rw [hl]; exact hlrx

include hrx hst hsv hs

/-- With the window full the lane waits for its permit. -/
theorem echo_waits (hfull : s.blocks.window.startLimit ≤ s.blocks.window.youngCount) :
    ∃ t, exec (.frameEcho n (s.blocks.unitOf k)) s = .next t ∧ t.port = s.port
      ∧ t.blocks.ctx k = { s.blocks.ctx k with state := .connected } ∧ (t.blocks.lane n).state = .permitWait
      ∧ serving t n k ∧ k ∉ (t.blocks.lane n).readyQ ∧ (t.blocks.lane n).timer = none
      ∧ (t.blocks.lane n).residual = (s.blocks.ctx k).residual
      ∧ t.blocks.window.permits = s.blocks.window.permits ++ [n]
      ∧ t.blocks.window.ledger = s.blocks.window.ledger ∧ otherCtxs s t k ∧ otherLanes s t n := by
  obtain ⟨hst', hsv'⟩ := heard_selecting hst hsv
  have hc := (Blocks.echoFrame_selected _ n k hst' hsv').trans (Blocks.readySelected_eq _ n k)
  obtain ⟨hloc, hap, hctx, -, l, hready, hlane⟩ := echo_selects (n := n) hs
  generalize (s.blocks.heard n).selectedBy n k = c0 at hc hloc hap hctx hlane
  have hwin := c0.joinPermit_window n (by rw [hloc.window]; exact hfull)
  rw [hloc.window] at hwin
  obtain ⟨t, hexec, hport, -, ht⟩ := exec_frame_unasked (i := .frameEcho n (s.blocks.unitOf k)) hrx rfl hc
    (by rw [hwin]; exact id)
  have htl : t.blocks.lane n = { c0.lane n with state := .permitWait, timer := none } := by
    rw [ht, Blocks.settled_lane, Blocks.joinPermit_lane]
  rw [hlane] at htl
  have htw : t.blocks.window = { s.blocks.window with permits := s.blocks.window.permits ++ [n] } := by
    rw [ht, Blocks.settled_window, hwin]
  refine ⟨t, hexec, hport, ?_, by rw [htl], by rw [serving, htl]; rfl, by rw [htl]; exact hready, by rw [htl],
    by rw [htl]; rfl, by rw [htw], by rw [htw], ?_, ?_⟩
  · rw [ht]; exact hctx
  · rw [otherCtxs, ht]
    exact ((hloc.toReach.trans (c0.reach_joinPermit n k)).settled _).ctx_ne
  · rw [otherLanes, ht]
    exact (hap.trans (c0.apart_joinPermit n)).settled _

/-- With room and no lane before it, the lane is granted, or left with the decision owed. -/
theorem echo_granted {d : Descriptor} (hd : (s.blocks.ctx k).desc = some d) (hp : s.blocks.window.permits = [])
    (hask : s.blocks.window.asked = false) (hroom : s.blocks.window.youngCount < s.blocks.window.startLimit)
    (hlen : s.blocks.window.ledger.length < 8) :
    ∃ t, exec (.frameEcho n (s.blocks.unitOf k)) s = .next t ∧ t.port = s.port
      ∧ t.blocks.ctx k = { s.blocks.ctx k with state := .connected } ∧ serving t n k ∧ otherCtxs s t k
      ∧ (granted s t n d ∨
          (withdrawalNext s n ∧ (t.blocks.lane n).state = .permitWait ∧ t.blocks.window.permits = [n]
            ∧ t.blocks.window.asked = true ∧ t.blocks.window.ledger = s.blocks.window.ledger
            ∧ outgoing t n = outgoing s n ∧ otherLanes s t n)) := by
  obtain ⟨hst', hsv'⟩ := heard_selecting hst hsv
  have hc := (Blocks.echoFrame_selected _ n k hst' hsv').trans (Blocks.readySelected_eq _ n k)
  obtain ⟨hloc, hap, hctx, hsent, l, -, hlane⟩ := echo_selects (n := n) hs
  generalize (s.blocks.heard n).selectedBy n k = c0 at hc hloc hap hctx hlane hsent
  have hwin := c0.joinPermit_asks n (by rw [hloc.window]; exact hroom)
  rw [hloc.window, hp, List.nil_append] at hwin
  have hreach := hloc.toReach.trans (c0.reach_joinPermit n k)
  have hap' := hap.trans (c0.apart_joinPermit n)
  have hjoined := c0.joinPermit_lane n
  rw [hlane] at hjoined
  have hsent' : Lane.Sent (s.blocks.lane n) ((c0.joinPermit n).lane n) [] := by
    refine hsent.trans (gs := []) (.of_wire ?_ ?_ ?_)
    all_goals rw [c0.joinPermit_lane n]
  have hctx' : (c0.joinPermit n).ctx k = { s.blocks.ctx k with state := .connected } := hctx
  generalize c0.joinPermit n = c at hc hwin hreach hap' hjoined hsent' hctx'
  have hservedC : (c.lane n).served = some ⟨k, .connection⟩ := by rw [hjoined]; rfl
  have hpermits : c.window.permits = [n] := by rw [hwin]
  obtain ⟨t, ch, hexec, hport, ht⟩ := exec_frame_asked (i := .frameEcho n (s.blocks.unitOf k)) hrx rfl hc hask (by rw [hwin])
  refine ⟨t, hexec, hport, ?_⟩
  rcases ht with ht | ⟨hwait, ht⟩
  · have hdc : (c.lane n).desc = some d := by rw [hjoined]; exact hd
    have hroomC : c.window.youngCount < c.window.startLimit := by rw [hwin]; exact hroom
    have hunit : Blocks.servedUnit { c with choice := ch } n = s.blocks.servedUnit n := by
      refine (Blocks.servedUnit_eq _ n k .connection hservedC).trans ?_
      rw [s.blocks.servedUnit_eq n k _ hsv]
      exact hreach.unitOf k
    have htk : ∀ j, t.blocks.ctx j = c.ctx j := by
      intro j
      rw [ht, Blocks.settled_ctx, Blocks.grantDecision_ctx]
      rfl
    refine ⟨(htk k).trans hctx', ?_, fun j hj => (htk j).trans (hreach.ctx_ne j hj), Or.inl ?_⟩
    · have hg := Blocks.grantDecision_lane { c with choice := ch } n d hpermits hroomC hdc
      rw [serving, ht, Blocks.settled_lane, hg, Lane.send_served]
      exact hservedC
    · exact granted_of (b := { c with choice := ch }) hpermits hroomC (by rw [hwin]) hlen hreach.timebase hunit hdc hsent'
        hap' ht
  · have htl : t.blocks.lane n = c.lane n := by rw [ht]; rfl
    have htw : t.blocks.window = c.window := by rw [ht]; rfl
    refine ⟨by rw [ht]; exact hctx', by rw [serving, htl]; exact hservedC, ?_, Or.inr ⟨withdrawalNext_of hpermits hwait, ?_⟩⟩
    · rw [otherCtxs, ht]; exact hreach.ctx_ne
    · refine ⟨by rw [htl, hjoined], by rw [htw]; exact hpermits, by rw [htw, hwin], by rw [htw, hwin], ?_, ?_⟩
      · have hout := hsent'.outgoing
        rw [List.append_nil] at hout
        simp only [outgoing, htl]
        exact hout
      · rw [otherLanes, ht]; exact hap'

end

/-- An ECHO of another address is answered with DESEL; `b` are the blocks at which the frame is taken. -/
def Blocks.mismatched (b : Blocks) (n : LaneId) (addr : UnitAddr) : Blocks :=
  (b.modLane n fun l => { l with mismatch := true, timer := none }).send n (.desel addr)

theorem Blocks.laneOnly_mismatched (b : Blocks) (n : LaneId) (addr : UnitAddr) :
    Blocks.LaneOnly n b (b.mismatched n addr) :=
  (b.laneOnly_modLane n _).trans (Blocks.laneOnly_send _ n _)

theorem Blocks.mismatched_lane (b : Blocks) (n : LaneId) (addr : UnitAddr) : (b.mismatched n addr).lane n =
    Lane.send { b.lane n with mismatch := true, timer := none } (.desel addr) := by
  rw [Blocks.mismatched, Blocks.send_lane_same, Blocks.modLane_lane_same]

theorem Blocks.echoMismatch_eq (b : Blocks) (n : LaneId) (k : Slot) (kind : ServiceKind) (addr : UnitAddr)
    (h : (b.lane n).served = some ⟨k, kind⟩) :
    b.echoMismatch n addr =
      if (b.lane n).attempts < 1 + b.retriesOf k then
        (b.mismatched n addr).modLane n fun l => { l with selOwed := true }
      else (b.mismatched n addr).selectionFailed n := by
  have hl := b.mismatched_lane n addr
  have hremain : (b.mismatched n addr).attemptsRemain n = decide ((b.lane n).attempts < 1 + b.retriesOf k) := by
    rw [Blocks.attemptsRemain_iff _ n k kind (by rw [hl, Lane.send_served]; exact h), hl, Lane.send_attempts]
    rfl
  rw [Blocks.echoMismatch, ← Blocks.mismatched, hremain]
  simp only [decide_eq_true_eq]

section
variable {s : State} {n : LaneId} {k : Slot} {addr : UnitAddr} (hrx : receiving s n)
  (hst : (s.blocks.lane n).state = .selecting) (hsv : (s.blocks.lane n).served = some ⟨k, .readySelection⟩)
  (ha : addr ≠ s.blocks.unitOf k)
include hrx hst hsv ha

/-- A mismatch with attempts left. -/
theorem echo_mismatches (hat : (s.blocks.lane n).attempts < 1 + s.blocks.retriesOf k) :
    ∃ t, exec (.frameEcho n addr) s = .next t ∧ t.port = s.port ∧ elsewhere s t ∧ sends s t n (.desel addr)
      ∧ (t.blocks.lane n).state = .selecting ∧ (t.blocks.lane n).mismatch = true
      ∧ t.blocks.ctxs = s.blocks.ctxs ∧ otherLanes s t n := by
  obtain ⟨hst', hsv'⟩ := heard_selecting hst hsv
  obtain ⟨tx, q, hlane⟩ := s.blocks.heard_lane_spec n
  have honly := s.blocks.laneOnly_heard n
  have hsent := s.blocks.sent_heard n
  have hc := (Blocks.echoFrame_mismatch _ n k hst' hsv' addr ha).trans (Blocks.echoMismatch_eq _ n k _ addr hsv')
  rw [if_pos (by rw [hlane]; exact hat)] at hc
  have hm := (s.blocks.heard n).mismatched_lane n addr
  have honly' := (honly.trans (Blocks.laneOnly_mismatched _ n addr)).trans
    (Blocks.laneOnly_modLane _ n fun l => { l with selOwed := true })
  obtain ⟨t, hexec, hport, hp, ht⟩ := exec_frame_unasked (i := .frameEcho n addr) hrx rfl hc
    (by rw [honly'.window]; exact id)
  obtain ⟨helse, ⟨hctxs, -⟩, hlanes⟩ := laneOnly_claims honly' ht hp
  have htl : t.blocks.lane n = { ((s.blocks.heard n).mismatched n addr).lane n with selOwed := true } := by
    rw [ht, Blocks.settled_lane, Blocks.modLane_lane_same]
  rw [hm] at htl
  refine ⟨t, hexec, hport, helse, sends_of_sent ?_, ?_, ?_, hctxs, hlanes⟩
  · have hsend : Lane.Sent (s.blocks.lane n)
        (Lane.send { (s.blocks.heard n).lane n with mismatch := true, timer := none } (.desel addr)) [.desel addr] := by
      refine Lane.Sent.send (hsent.trans (gs := []) ?_) _
      exact .of_wire rfl rfl rfl
    refine hsend.trans (gs := []) (.of_wire ?_ ?_ ?_)
    all_goals rw [htl]
  · rw [htl]; exact (Lane.send_state _ _).trans hst'
  · rw [htl]; exact Lane.send_mismatch _ _

/-- A mismatch that fails the selection. -/
theorem echo_fails (hat : 1 + s.blocks.retriesOf k ≤ (s.blocks.lane n).attempts) (hs : (s.blocks.ctx k).state = .ready) :
    ∃ t, exec (.frameEcho n addr) s = .next t ∧ t.port = s.port ∧ elsewhere s t ∧ sendsFirst s t n (.desel addr)
      ∧ reportedAs t k .linkError ∧ otherCtxs s t k := by
  obtain ⟨hst', hsv'⟩ := heard_selecting hst hsv
  obtain ⟨tx, q, hlane⟩ := s.blocks.heard_lane_spec n
  have honly := (s.blocks.laneOnly_heard n).trans (Blocks.laneOnly_mismatched _ n addr)
  have hsent := s.blocks.sent_heard n
  have hc := (Blocks.echoFrame_mismatch _ n k hst' hsv' addr ha).trans (Blocks.echoMismatch_eq _ n k _ addr hsv')
  rw [if_neg (by rw [hlane]; exact Nat.not_lt.mpr hat)] at hc
  have hm := (s.blocks.heard n).mismatched_lane n addr
  have hctx : ((s.blocks.heard n).mismatched n addr).ctx k = s.blocks.ctx k := rfl
  generalize (s.blocks.heard n).mismatched n addr = c at hc honly hm hctx
  rw [c.selectionFailed_ready n k (by rw [hm, Lane.send_served]; exact hsv')] at hc
  have hmm : (c.lane n).mismatch = true := by rw [hm]; exact Lane.send_mismatch _ _
  rw [if_pos hmm] at hc
  have hloc := (honly.toLocal k).trans (c.local_endSelection n k [plain .linkError])
  obtain ⟨t, hexec, hport, hp, ht⟩ := exec_frame_unasked (i := .frameEcho n addr) hrx rfl hc
    (by rw [hloc.window]; exact id)
  obtain ⟨more, hmore⟩ := c.endSelection_sent n k [plain .linkError]
  refine ⟨t, hexec, hport, elsewhere_of_local (k := k) (by rw [ht]; exact hloc.settled _) hp,
    sendsFirst_of_sent ⟨more, ?_⟩, reportedAs_of (c := s.blocks.ctx k) (named := [plain .linkError]) ?_ rfl, ?_⟩
  · rw [ht, Blocks.settled_lane]
    have hsend : Lane.Sent (s.blocks.lane n) (c.lane n) [.desel addr] := by
      rw [hm]
      refine Lane.Sent.send (hsent.trans (gs := []) ?_) _
      exact .of_wire rfl rfl rfl
    exact hsend.trans hmore
  · rw [ht, Blocks.settled_ctx, Blocks.endSelection_ctx, hctx]
    rw [hctx, hs]
    nofun
  · rw [otherCtxs, ht]; exact (hloc.settled _).ctx_ne

end

/-- Settles O35: the connection with the window full and with room, and the mismatch. -/
theorem anEchoConnectsOrIsDeselected : Obligations.AnEchoConnectsOrIsDeselected :=
  ⟨fun _ _ _ hrx hst hsv hs hfull => echo_waits hrx hst hsv hs hfull,
    fun _ _ _ _ hrx hst hsv hs hd hp hask hroom hlen => echo_granted hrx hst hsv hs hd hp hask hroom hlen,
    fun _ _ _ _ hrx hst hsv ha hs => ⟨echo_mismatches hrx hst hsv ha, fun hat => echo_fails hrx hst hsv ha hat hs⟩⟩

end Sys2Proof.Machine

/-!
An ATTN taken in L_POLLING (R19, R20, R89, R100, R101, TABLE 35).
-/
namespace Sys2Proof.Machine

open Sys2Proof.Claims

/-! ### The poll answered -/

/-- The blocks at which an ATTN has been taken and nothing is made of it yet (R99). -/
def Blocks.polled (b : Blocks) (n : LaneId) : Blocks :=
  (b.heard n).modLane n fun l => { l with emptyPolls := 0, timer := none }

section
variable (b : Blocks) (n : LaneId)

theorem Blocks.laneOnly_polled : Blocks.LaneOnly n b (b.polled n) :=
  (b.laneOnly_heard n).trans (Blocks.laneOnly_modLane _ n _)

theorem Blocks.polled_lane : ∃ tx q, (b.polled n).lane n =
    { b.lane n with rx := .listening, tx := tx, txQueue := q, emptyPolls := 0, timer := none } := by
  obtain ⟨tx, q, h⟩ := b.heard_lane_spec n
  exact ⟨tx, q, by rw [Blocks.polled, Blocks.modLane_lane_same, h]⟩

theorem Blocks.polled_sent : Lane.Sent (b.lane n) ((b.polled n).lane n) [] := by
  refine (b.sent_heard n).trans (gs := []) (.of_wire ?_ ?_ ?_)
  all_goals rw [Blocks.polled, Blocks.modLane_lane_same]

theorem Blocks.attnFrame_polling (u : UnitAddr) (reason : AttnReason) (status : Byte)
    (h : (b.lane n).state = .polling) : (b.heard n).attnFrame n u reason status =
      match b.lookup n u with
      | none => (b.polled n).deferUnbound n u
      | some k =>
        match (b.ctx k).state with
        | .idle =>
          ((((b.polled n).modCtx k (·.takeStatus status)).endContext k [plain .unitAttention]).send n (.desel u)).enterIdle n
        | .loading | .ready | .reported => ((b.polled n).modCtx k Context.deferred).deferUnit n u
        | .detached => (b.polled n).attnDetached n k u reason status
        | .halting => (((b.polled n).modCtx k (·.takeStatus status)).dropFromLists n k).connectAborting n k .halt
        | .connected | .free => (b.polled n).deferUnit n u := by
  obtain ⟨tx, q, hl⟩ := b.heard_lane_spec n
  rw [Blocks.attnFrame, if_pos (by rw [hl]; exact h)]
  rfl

/-- DEFER, and the poll over: the lane alone changes, and what the DEFER leaves of it. -/
theorem Blocks.laneOnly_deferUnit (u : UnitAddr) : Blocks.LaneOnly n b (b.deferUnit n u) :=
  (b.laneOnly_send n _).trans (Blocks.laneOnly_enterIdle _ n)

theorem Blocks.deferUnit_lane (u : UnitAddr) : ((b.deferUnit n u).lane n).deferred = (b.lane n).deferred
    ∧ ∃ more, Lane.Sent (b.lane n) ((b.deferUnit n u).lane n) (.defer u :: more) := by
  obtain ⟨more, hsent⟩ := (b.send n (.defer u)).sent_enterIdle n
  obtain ⟨st, sv, at', mm, pr, tx, q, hl, -⟩ := (b.send n (.defer u)).enterIdle_lane_spec n
  rw [Blocks.send_lane_same] at hsent hl
  refine ⟨?_, more, ((b.lane n).sent_send (.defer u)).trans hsent⟩
  rw [Blocks.deferUnit, hl]
  exact Lane.send_deferred _ _

end

section
variable {s : State} {n : LaneId} {u : UnitAddr} {reason : AttnReason} {status : Byte} (hrx : receiving s n)
  (hst : (s.blocks.lane n).state = .polling) (hv : status &&& 0xE0 = 0)

/-- An ATTN taken, of which `c` are the blocks, and which asks for no permit. -/
theorem exec_attn {c : Blocks} (hrx : receiving s n) (hv : status &&& 0xE0 = 0)
    (hc : (s.blocks.heard n).attnFrame n u reason status = c)
    (hw : c.window.asked = true → s.blocks.window.asked = true) :
    ∃ t, exec (.frameAttn n u reason status) s = .next t ∧ t.port = s.port ∧ t.pending = s.pending
      ∧ t.blocks = s.blocks.settled c := by
  refine exec_frame_unasked (i := .frameAttn n u reason status)
    (f := fun b => b.attnFrame n u reason status) hrx ?_ hc hw
  rw [← statusValid_of hv]
  rfl

include hrx hst hv

/-- The ATTN of an unbound unit is told DEFER, and it joins the deferred-attention set. -/
theorem attn_unbound (hl : s.blocks.lookup n u = none) :
    ∃ t, exec (.frameAttn n u reason status) s = .next t ∧ t.port = s.port ∧ elsewhere s t
      ∧ sendsFirst s t n (.defer u)
      ∧ (t.blocks.lane n).deferred = (s.blocks.lane n).deferred ||| ((1 : Word) <<< u.val)
      ∧ t.blocks.ctxs = s.blocks.ctxs ∧ otherLanes s t n := by
  have hc := s.blocks.attnFrame_polling n u reason status hst
  simp only [hl] at hc
  generalize hb1 : ((s.blocks.polled n).modLane n fun l =>
    { l with deferred := l.deferred ||| ((1 : Word) <<< u.val) }) = b1
  have hc' : (s.blocks.polled n).deferUnbound n u = b1.deferUnit n u := by rw [← hb1]; rfl
  rw [hc'] at hc
  obtain ⟨tx, q, hpl⟩ := s.blocks.polled_lane n
  have hlane : b1.lane n = { (s.blocks.polled n).lane n with
      deferred := ((s.blocks.polled n).lane n).deferred ||| ((1 : Word) <<< u.val) } := by
    rw [← hb1, Blocks.modLane_lane_same]
  have honly : Blocks.LaneOnly n s.blocks (b1.deferUnit n u) := by
    rw [← hb1]
    exact ((s.blocks.laneOnly_polled n).trans (Blocks.laneOnly_modLane _ n _)).trans (Blocks.laneOnly_deferUnit _ n u)
  obtain ⟨t, hexec, hport, hp, ht⟩ := exec_attn hrx hv hc (by rw [honly.window]; exact id)
  obtain ⟨helse, ⟨hctxs, -⟩, hlanes⟩ := laneOnly_claims honly ht hp
  obtain ⟨hdef, more, hsent⟩ := b1.deferUnit_lane n u
  refine ⟨t, hexec, hport, helse, sendsFirst_of_sent ⟨more, ?_⟩, ?_, hctxs, hlanes⟩
  · rw [ht, Blocks.settled_lane]
    refine ((s.blocks.polled_sent n).trans (gs := []) (.of_wire ?_ ?_ ?_)).trans hsent
    all_goals rw [hlane]
  · rw [ht, Blocks.settled_lane, hdef, hlane, hpl]

end

/-! ### DEFER to a bound unit -/

section
variable {s : State} {n : LaneId} {u : UnitAddr} {k : Slot} {reason : AttnReason} {status : Byte}
  (hrx : receiving s n) (hv : status &&& 0xE0 = 0)
include hrx hv

/-- Where the unit is told DEFER: `b` are the blocks at which the record has changed. -/
theorem attn_deferred {b : Blocks} (hb : Blocks.Local k (s.blocks.polled n) b)
    (hlane : ∀ m, b.lane m = (s.blocks.polled n).lane m)
    (hc : (s.blocks.heard n).attnFrame n u reason status = b.deferUnit n u) :
    ∃ t, exec (.frameAttn n u reason status) s = .next t ∧ t.port = s.port ∧ elsewhere s t
      ∧ sendsFirst s t n (.defer u) ∧ t.blocks.ctx k = b.ctx k ∧ otherCtxs s t k
      ∧ otherLanes s t n ∧ (t.blocks.lane n).deferred = (s.blocks.lane n).deferred := by
  have honly := s.blocks.laneOnly_polled n
  have hdefer := b.laneOnly_deferUnit n u
  have hloc := ((honly.toLocal k).trans hb).trans (hdefer.toLocal k)
  obtain ⟨t, hexec, hport, hp, ht⟩ := exec_attn hrx hv hc (by rw [hloc.window]; exact id)
  obtain ⟨hdef, more, hsent⟩ := b.deferUnit_lane n u
  refine ⟨t, hexec, hport, elsewhere_of_local (k := k) (by rw [ht]; exact hloc.settled _) hp,
    sendsFirst_of_sent ⟨more, ?_⟩, ?_, ?_, ?_, ?_⟩
  · rw [ht, Blocks.settled_lane]
    rw [hlane n] at hsent
    exact (s.blocks.polled_sent n).trans hsent
  · rw [ht, Blocks.settled_ctx, Blocks.ctx, hdefer.ctxs]
    rfl
  · rw [otherCtxs, ht]; exact (hloc.settled _).ctx_ne
  · rw [otherLanes, ht]
    exact ((honly.apart.trans (.of_lanes n hlane)).trans hdefer.apart).settled _
  · obtain ⟨tx, q, hpl⟩ := s.blocks.polled_lane n
    rw [ht, Blocks.settled_lane, hdef, hlane, hpl]

variable (hst : (s.blocks.lane n).state = .polling) (hl : s.blocks.lookup n u = some k)
include hst hl

theorem attn_pending (hs : (s.blocks.ctx k).state = .loading ∨ (s.blocks.ctx k).state = .ready ∨
      (s.blocks.ctx k).state = .reported) :
    ∃ t, exec (.frameAttn n u reason status) s = .next t ∧ t.port = s.port ∧ elsewhere s t
      ∧ sendsFirst s t n (.defer u) ∧ t.blocks.ctx k = deferredCtx (s.blocks.ctx k) ∧ otherCtxs s t k
      ∧ otherLanes s t n ∧ (t.blocks.lane n).deferred = (s.blocks.lane n).deferred := by
  have hc := s.blocks.attnFrame_polling n u reason status hst
  have hctx : ((s.blocks.polled n).modCtx k Context.deferred).ctx k = deferredCtx (s.blocks.ctx k) :=
    Blocks.modCtx_ctx_same _ _ _
  rw [← hctx]
  refine attn_deferred hrx hv (Blocks.local_modCtx Context.deferred fun _ => rfl) (fun _ => rfl) ?_
  rcases hs with hs | hs | hs <;> simpa only [hl, hs] using hc

theorem attn_unsolicited (hs : (s.blocks.ctx k).state = .detached) (hr : reason = .unsolicited) :
    ∃ t, exec (.frameAttn n u reason status) s = .next t ∧ t.port = s.port ∧ elsewhere s t
      ∧ sendsFirst s t n (.defer u) ∧ t.blocks.ctx k = deferredCtx (recorded (s.blocks.ctx k) status)
      ∧ otherCtxs s t k ∧ otherLanes s t n := by
  have hc := s.blocks.attnFrame_polling n u reason status hst
  simp only [hl, hs] at hc
  subst hr
  obtain ⟨t, hexec, hport, helse, hsend, hctx, hother, hlanes, -⟩ :=
    attn_deferred (k := k) hrx hv
      ((Blocks.local_setCtx (((s.blocks.polled n).ctx k).takeStatus status) rfl).trans
        (Blocks.local_modCtx Context.deferred fun _ => rfl))
      (fun _ => rfl) hc
  refine ⟨t, hexec, hport, helse, hsend, hctx.trans ?_, hother, hlanes⟩
  rw [Blocks.modCtx_ctx_same, Blocks.setCtx_ctx_same]
  rfl

/-- The ATTN of an IDLE context ends it (R20). -/
theorem attn_idle (hs : (s.blocks.ctx k).state = .idle) :
    ∃ t, exec (.frameAttn n u reason status) s = .next t ∧ t.port = s.port ∧ elsewhere s t
      ∧ sendsFirst s t n (.desel u)
      ∧ reportedAs t k .unitAttention ∧ (t.blocks.ctx k).lastStatus = some status ∧ otherCtxs s t k := by
  have hc := s.blocks.attnFrame_polling n u reason status hst
  simp only [hl, hs] at hc
  generalize hb1 : ((s.blocks.polled n).modCtx k (·.takeStatus status)).endContext k [plain .unitAttention] = b1 at hc
  have hctx : ((s.blocks.polled n).modCtx k (·.takeStatus status)).ctx k = (s.blocks.ctx k).takeStatus status :=
    Blocks.modCtx_ctx_same _ _ _
  have hctx1 : b1.ctx k = ((s.blocks.ctx k).takeStatus status).toReported k [plain .unitAttention] := by
    rw [← hb1, Blocks.endContext_ctx_same, hctx]
    rw [hctx]
    exact fun h => by rw [show ((s.blocks.ctx k).takeStatus status).state = .idle from hs] at h; cases h
  have hloc1 : Blocks.Local k s.blocks b1 := by
    rw [← hb1]
    exact (((s.blocks.laneOnly_polled n).toLocal k).trans (Blocks.local_takeStatus _ k status)).trans
      (Blocks.local_endContext _ k _)
  have hsent1 : Lane.Sent (s.blocks.lane n) (b1.lane n) [] := by
    refine (s.blocks.polled_sent n).trans (gs := []) (.of_wire ?_ ?_ ?_)
    all_goals rw [← hb1, Blocks.endContext_lane_lists]; rfl
  have hloc := (hloc1.trans (Blocks.local_send _ k n (.desel u))).trans (Blocks.local_enterIdle _ k n)
  obtain ⟨t, hexec, hport, hp, ht⟩ := exec_attn hrx hv hc (by rw [hloc.window]; exact id)
  obtain ⟨more, hsent⟩ := (b1.send n (.desel u)).sent_enterIdle n
  rw [Blocks.send_lane_same] at hsent
  have htk : t.blocks.ctx k = ((s.blocks.ctx k).takeStatus status).toReported k [plain .unitAttention] := by
    rw [ht, Blocks.settled_ctx, Blocks.enterIdle_ctx, Blocks.send_ctx, hctx1]
  refine ⟨t, hexec, hport, elsewhere_of_local (k := k) (by rw [ht]; exact hloc.settled _) hp,
    sendsFirst_of_sent ⟨more, ?_⟩, reportedAs_of htk rfl, by rw [htk]; rfl, ?_⟩
  · rw [ht, Blocks.settled_lane]
    exact (hsent1.send (.desel u)).trans hsent
  · rw [otherCtxs, ht]; exact (hloc.settled _).ctx_ne

end

/-! ### A detached context connects again -/

/-- The blocks at which the record of a DETACHED context is CONNECTED again (R19). -/
def Blocks.reconnecting (b : Blocks) (k : Slot) (status : Byte) : Blocks :=
  (b.setCtx k ((b.ctx k).takeStatus status)).modCtx k Context.reconnected

section
variable (b : Blocks) (n : LaneId) (k : Slot) (status : Byte)

theorem Blocks.local_reconnecting : Blocks.Local k b (b.reconnecting k status) :=
  (Blocks.local_setCtx ((b.ctx k).takeStatus status) rfl).trans (Blocks.local_modCtx Context.reconnected fun _ => rfl)

theorem Blocks.reconnecting_ctx : (b.reconnecting k status).ctx k =
    { recorded (b.ctx k) status with state := .connected, awaiting := none, timer := none } := by
  rw [Blocks.reconnecting, Blocks.modCtx_ctx_same, Blocks.setCtx_ctx_same]
  rfl

theorem Blocks.attnDetached_reconnect (u : UnitAddr) : b.attnDetached n k u .reconnect status =
    if (b.ctx k).awaiting = some .resume then (b.reconnecting k status).resume n k
    else (b.reconnecting k status).connectAborting n k .linkError := by
  have hr : reasonAnswers .reconnect (b.ctx k).awaiting = decide ((b.ctx k).awaiting = some .resume) := by
    cases (b.ctx k).awaiting with
    | none => rfl
    | some aw => cases aw <;> rfl
  simp only [Blocks.attnDetached, hr, decide_eq_true_eq]
  rfl

theorem Blocks.attnDetached_free (u : UnitAddr) : b.attnDetached n k u .free status =
    if (b.ctx k).awaiting = some .free then ((b.reconnecting k status).connect n k).joinPermit n
    else (b.reconnecting k status).connectAborting n k .linkError := by
  have hr : reasonAnswers .free (b.ctx k).awaiting = decide ((b.ctx k).awaiting = some .free) := by
    cases (b.ctx k).awaiting with
    | none => rfl
    | some aw => cases aw <;> rfl
  simp only [Blocks.attnDetached, hr, decide_eq_true_eq]
  rfl

/-- The lane as it sends RESUME (R100). -/
def Lane.resumed (l : Lane) : Lane :=
  { l with state := .transfer, outToggle := false, inToggle := false, lastIn := none }

theorem Blocks.resume_eq (u : UnitAddr) (hu : b.unitOf k = u) : b.resume n k =
    (((b.connect n k).modLane n Lane.resumed).send n (.resume u)).pump n := by
  have hunit : ((b.connect n k).modLane n Lane.resumed).servedUnit n = u := by
    rw [Blocks.servedUnit_eq _ n k .connection]
    · exact hu
    · rw [Blocks.modLane_lane_same, Blocks.connect_lane]
      rfl
  rw [← hunit]
  rfl

end

/-- A frame sent with the receiver idle puts a frame on the wire. -/
theorem Lane.send_tx_ne_none (l : Lane) (f : PartFrame) (h : l.rx.isAssembling = false) : (l.send f).tx ≠ none := by
  intro ht
  have hsent := l.sent_send f
  have hq := hsent.driven (Or.inl nofun) (by rw [Lane.send_rx]; exact h) ht
  have hout := hsent.outgoing
  rw [Lane.outgoing, ht, hq] at hout
  simp at hout

section
variable {s : State} {n : LaneId} {u : UnitAddr} {k : Slot} {status : Byte} (hrx : receiving s n)
  (hst : (s.blocks.lane n).state = .polling) (hv : status &&& 0xE0 = 0) (hl : s.blocks.lookup n u = some k)
  (hs : (s.blocks.ctx k).state = .detached)

/-- What the ATTN has changed of record and lanes before the lane connects. -/
theorem attn_reconnecting : Blocks.Local k s.blocks ((s.blocks.polled n).reconnecting k status)
    ∧ Blocks.Apart n s.blocks ((s.blocks.polled n).reconnecting k status)
    ∧ ((s.blocks.polled n).reconnecting k status).ctx k =
        { recorded (s.blocks.ctx k) status with state := .connected, awaiting := none, timer := none }
    ∧ ((s.blocks.polled n).reconnecting k status).lane n = (s.blocks.polled n).lane n :=
  ⟨((s.blocks.laneOnly_polled n).toLocal k).trans (Blocks.local_reconnecting _ k status),
    (s.blocks.laneOnly_polled n).apart, Blocks.reconnecting_ctx _ k status, rfl⟩

include hrx hst hv hl hs

/-- A RECONNECT for a context awaiting RESUME. -/
theorem attn_resumes (hu : s.blocks.unitOf k = u) (haw : (s.blocks.ctx k).awaiting = some .resume) :
    ∃ t, exec (.frameAttn n u .reconnect status) s = .next t ∧ t.port = s.port ∧ elsewhere s t
      ∧ sends s t n (.resume u) ∧ (t.blocks.lane n).state = .transfer ∧ serving t n k
      ∧ (t.blocks.lane n).desc = (s.blocks.ctx k).desc ∧ (t.blocks.lane n).residual = (s.blocks.ctx k).residual
      ∧ (t.blocks.lane n).rxResidual = (s.blocks.ctx k).residual
      ∧ (t.blocks.lane n).dataAddr = (s.blocks.ctx k).dataAddr
      ∧ (t.blocks.lane n).lengthCond = (s.blocks.ctx k).lengthCond
      ∧ (t.blocks.lane n).outToggle = false ∧ (t.blocks.lane n).inToggle = false
      ∧ (t.blocks.lane n).lastIn = none
      ∧ (t.blocks.ctx k).state = .connected ∧ (t.blocks.ctx k).awaiting = none ∧ (t.blocks.ctx k).timer = none
      ∧ (t.blocks.ctx k).lastStatus = some status ∧ otherCtxs s t k ∧ otherLanes s t n := by
  have hc := s.blocks.attnFrame_polling n u .reconnect status hst
  simp only [hl, hs] at hc
  rw [Blocks.attnDetached_reconnect, if_pos (by exact haw)] at hc
  obtain ⟨hloc, hap, hctx, hlane⟩ := attn_reconnecting (s := s) (n := n) (k := k) (status := status)
  generalize (s.blocks.polled n).reconnecting k status = b at hc hloc hap hctx hlane
  rw [b.resume_eq n k u (by rw [hloc.toReach.unitOf, hu])] at hc
  have honly := (b.laneOnly_connect n k).trans (Blocks.laneOnly_modLane _ n Lane.resumed)
  have hconn : ((b.connect n k).modLane n Lane.resumed).lane n =
      (((s.blocks.polled n).lane n).connectedTo k (b.ctx k)).resumed := by
    rw [Blocks.modLane_lane_same, Blocks.connect_lane, hlane]
  rw [hctx] at hconn
  generalize (b.connect n k).modLane n Lane.resumed = b1 at hc honly hconn
  have hl2 := b1.send_lane_same n (.resume u)
  have honly2 := honly.trans (b1.laneOnly_send n (.resume u))
  generalize b1.send n (.resume u) = b2 at hc hl2 honly2
  have hrxp : ((s.blocks.polled n).lane n).rx.isAssembling = false := by
    obtain ⟨tx, q, hpl⟩ := s.blocks.polled_lane n
    rw [hpl]; rfl
  have hheld : (b2.lane n).heldBack := by
    rw [hl2]
    refine Or.inl (Lane.send_tx_ne_none _ _ ?_)
    rw [hconn]; exact hrxp
  have hmem := b2.memOnly_transfer n (by rw [hl2, Lane.send_state, hconn]; rfl) hheld
  obtain ⟨mr, sa, st, htl⟩ := hmem.lane
  have hloc3 := (hloc.trans (honly2.toLocal k)).trans (hmem.toLocal k)
  obtain ⟨t, hexec, hport, hp, ht⟩ := exec_attn hrx hv hc (by rw [hloc3.window]; exact id)
  have htk : t.blocks.ctx k =
      { recorded (s.blocks.ctx k) status with state := .connected, awaiting := none, timer := none } := by
    rw [ht, Blocks.settled_ctx, ← hctx, Blocks.ctx, hmem.ctxs, honly2.ctxs]
    rfl
  have htlane : t.blocks.lane n = { b2.lane n with memReq := mr, stagingAddr := sa, staging := st } := by
    rw [ht, Blocks.settled_lane, htl]
  rw [hl2, Lane.send_spec, hconn] at htlane
  refine ⟨t, hexec, hport, elsewhere_of_local (k := k) (by rw [ht]; exact hloc3.settled _) hp, sends_of_sent ?_,
    by rw [htlane]; rfl, by rw [serving, htlane]; rfl, by rw [htlane]; rfl, by rw [htlane]; rfl, by rw [htlane]; rfl,
    by rw [htlane]; rfl, by rw [htlane]; rfl, by rw [htlane]; rfl, by rw [htlane]; rfl, by rw [htlane]; rfl,
    by rw [htk], by rw [htk], by rw [htk], by rw [htk]; rfl, ?_, ?_⟩
  · rw [ht, Blocks.settled_lane]
    have hsend : Lane.Sent (s.blocks.lane n) (b2.lane n) [.resume u] := by
      rw [hl2]
      refine Lane.Sent.send ((s.blocks.polled_sent n).trans (gs := []) (.of_wire ?_ ?_ ?_)) _
      all_goals rw [hconn]; rfl
    exact hsend.trans hmem.sent
  · rw [otherCtxs, ht]; exact (hloc3.settled _).ctx_ne
  · rw [otherLanes, ht]; exact ((hap.trans honly2.apart).trans hmem.apart).settled _

/-- A FREE for a context awaiting FREE, the start window full. -/
theorem attn_joins (haw : (s.blocks.ctx k).awaiting = some .free)
    (hfull : s.blocks.window.startLimit ≤ s.blocks.window.youngCount) :
    ∃ t, exec (.frameAttn n u .free status) s = .next t ∧ t.port = s.port
      ∧ (t.blocks.lane n).state = .permitWait ∧ serving t n k ∧ outgoing t n = outgoing s n
      ∧ (t.blocks.lane n).desc = (s.blocks.ctx k).desc ∧ (t.blocks.lane n).residual = (s.blocks.ctx k).residual
      ∧ t.blocks.window = { s.blocks.window with permits := s.blocks.window.permits ++ [n] }
      ∧ t.blocks.ctx k = { recorded (s.blocks.ctx k) status with
          state := .connected, awaiting := none, timer := none }
      ∧ otherCtxs s t k ∧ otherLanes s t n := by
  have hc := s.blocks.attnFrame_polling n u .free status hst
  simp only [hl, hs] at hc
  rw [Blocks.attnDetached_free, if_pos (by exact haw)] at hc
  obtain ⟨hloc, hap, hctx, hlane⟩ := attn_reconnecting (s := s) (n := n) (k := k) (status := status)
  generalize (s.blocks.polled n).reconnecting k status = b at hc hloc hap hctx hlane
  have honly := b.laneOnly_connect n k
  have hconn := b.connect_lane n k
  rw [hctx, hlane] at hconn
  have hctx1 : (b.connect n k).ctx k = b.ctx k := rfl
  rw [hctx] at hctx1
  generalize b.connect n k = b1 at hc honly hconn hctx1
  have hloc1 := hloc.trans (honly.toLocal k)
  have hwin := b1.joinPermit_window n (by rw [hloc1.window]; exact hfull)
  rw [hloc1.window] at hwin
  obtain ⟨t, hexec, hport, -, ht⟩ := exec_attn hrx hv hc (by rw [hwin]; exact id)
  have htl : t.blocks.lane n = { b1.lane n with state := .permitWait, timer := none } := by
    rw [ht, Blocks.settled_lane, Blocks.joinPermit_lane]
  rw [hconn] at htl
  refine ⟨t, hexec, hport, by rw [htl], by rw [serving, htl]; rfl, ?_, by rw [htl]; rfl, by rw [htl]; rfl,
    by rw [ht, Blocks.settled_window, hwin], ?_, ?_, ?_⟩
  · have hout := (s.blocks.polled_sent n).outgoing
    rw [List.append_nil] at hout
    simp only [outgoing, htl]
    exact hout
  · rw [ht]; exact hctx1
  · rw [otherCtxs, ht]
    exact ((hloc1.toReach.trans (b1.reach_joinPermit n k)).settled _).ctx_ne
  · rw [otherLanes, ht]
    exact ((hap.trans honly.apart).trans (b1.apart_joinPermit n)).settled _

end

/-! ### An ATTN answered with ABORT -/

section
variable {s : State} {n : LaneId} {u : UnitAddr} {k : Slot} {reason : AttnReason} {status : Byte}
  (hrx : receiving s n) (hv : status &&& 0xE0 = 0)
include hrx hv

/-- Where the lane connects to abort: `b` are the blocks at which it does. -/
theorem attn_aborts {b : Blocks} {cause : AbortCause} (hloc : Blocks.Local k s.blocks b)
    (hap : Blocks.Apart n s.blocks b) (hsent : Lane.Sent (s.blocks.lane n) (b.lane n) [])
    (hc : (s.blocks.heard n).attnFrame n u reason status = b.connectAborting n k cause) :
    ∃ t, exec (.frameAttn n u reason status) s = .next t ∧ t.port = s.port ∧ aborts s t n k cause
      ∧ t.blocks.ctx k = b.ctx k ∧ otherCtxs s t k ∧ (t.blocks.lane n).haltList = (b.lane n).haltList := by
  have honly := b.laneOnly_connect n k
  have hconn := b.connect_lane n k
  have hctx1 : (b.connect n k).ctx k = b.ctx k := rfl
  rw [Blocks.connectAborting] at hc
  generalize b.connect n k = b1 at hc honly hconn hctx1
  have hserved : (b1.lane n).served = some ⟨k, .connection⟩ := by rw [hconn]; rfl
  have hloc1 := hloc.trans (honly.toLocal k)
  obtain ⟨t, hexec, hport, -, ht⟩ := exec_attn hrx hv hc (fun ha => by
    rw [b1.enterAborting_window _ hserved] at ha
    have h1 := b1.leavePermit_asked n ha
    rwa [hloc1.window] at h1)
  refine ⟨t, hexec, hport, ?_, ?_, ?_, ?_⟩
  · refine aborts_of_enterAborting cause hserved (hsent.trans (gs := []) (.of_wire ?_ ?_ ?_)) (hloc1.toReach.unitOf k)
      (by rw [hloc1.window]) (hap.trans honly.apart) ht
    all_goals rw [hconn]; rfl
  · rw [ht, Blocks.settled_ctx, ← hctx1, Blocks.ctx, b1.enterAborting_ctxs cause hserved]
    rfl
  · rw [otherCtxs, ht]
    exact ((hloc1.toReach.trans (b1.reach_enterAborting cause hserved)).settled _).ctx_ne
  · obtain ⟨mr, sa, st, hd⟩ := b1.abortDrops_lane n k cause
    obtain ⟨st', hab⟩ := Lane.aborted_spec ((b1.abortDrops n k cause).lane n) cause
    rw [ht, Blocks.settled_lane, b1.enterAborting_lane cause hserved, Lane.send_haltList, hab, hd, hconn]
    rfl

variable (hst : (s.blocks.lane n).state = .polling) (hl : s.blocks.lookup n u = some k)
include hst hl

/-- A reason that does not match what the context awaits. -/
theorem attn_mismatches (hs : (s.blocks.ctx k).state = .detached)
    (hr : (reason = .reconnect ∧ (s.blocks.ctx k).awaiting ≠ some .resume) ∨
      (reason = .free ∧ (s.blocks.ctx k).awaiting ≠ some .free)) :
    ∃ t, exec (.frameAttn n u reason status) s = .next t ∧ t.port = s.port ∧ aborts s t n k .linkError
      ∧ t.blocks.ctx k = { recorded (s.blocks.ctx k) status with
          state := .connected, awaiting := none, timer := none }
      ∧ otherCtxs s t k := by
  have hc := s.blocks.attnFrame_polling n u reason status hst
  simp only [hl, hs] at hc
  have hc' : (s.blocks.heard n).attnFrame n u reason status =
      ((s.blocks.polled n).reconnecting k status).connectAborting n k .linkError := by
    rcases hr with ⟨rfl, haw⟩ | ⟨rfl, haw⟩
    · rw [hc, Blocks.attnDetached_reconnect, if_neg (by exact haw)]
    · rw [hc, Blocks.attnDetached_free, if_neg (by exact haw)]
  obtain ⟨hloc, hap, hctx, hlane⟩ := attn_reconnecting (s := s) (n := n) (k := k) (status := status)
  obtain ⟨t, hexec, hport, hab, htk, hother, -⟩ :=
    attn_aborts hrx hv hloc hap (by rw [hlane]; exact s.blocks.polled_sent n) hc'
  exact ⟨t, hexec, hport, hab, htk.trans hctx, hother⟩

/-- The unit of a HALTING context is sent ABORT with cause HALT (R27). -/
theorem attn_halting (hs : (s.blocks.ctx k).state = .halting) :
    ∃ t, exec (.frameAttn n u reason status) s = .next t ∧ t.port = s.port ∧ aborts s t n k .halt
      ∧ t.blocks.ctx k = recorded (s.blocks.ctx k) status ∧ otherCtxs s t k
      ∧ k ∉ (t.blocks.lane n).haltList := by
  have hc := s.blocks.attnFrame_polling n u reason status hst
  simp only [hl, hs] at hc
  have hctx : ((s.blocks.polled n).modCtx k (·.takeStatus status)).ctx k = recorded (s.blocks.ctx k) status :=
    Blocks.modCtx_ctx_same _ _ _
  have hloc := (((s.blocks.laneOnly_polled n).toLocal k).trans (Blocks.local_takeStatus _ k status)).trans
    (Blocks.local_dropFromLists _ k n k)
  have hap : Blocks.Apart n s.blocks (((s.blocks.polled n).modCtx k (·.takeStatus status)).dropFromLists n k) :=
    ((s.blocks.laneOnly_polled n).apart.trans (.of_lanes n fun _ => rfl)).trans (Blocks.apart_modLane _ n _)
  obtain ⟨t, hexec, hport, hab, htk, hother, hlist⟩ := attn_aborts hrx hv hloc hap (by
    refine (s.blocks.polled_sent n).trans (gs := []) (.of_wire ?_ ?_ ?_)
    all_goals rw [Blocks.dropFromLists, Blocks.modLane_lane_same]; rfl) hc
  refine ⟨t, hexec, hport, hab, htk.trans hctx, hother, ?_⟩
  rw [hlist, Blocks.dropFromLists, Blocks.modLane_lane_same]
  simp

end

/-- Settles O34, one lemma for each row of TABLE 35. -/
theorem attnIsAnsweredByTheContextsState : Obligations.AttnIsAnsweredByTheContextsState :=
  ⟨fun _ _ _ _ _ hrx hst hv => ⟨attn_unbound hrx hst hv, fun _ hl hs => attn_idle hrx hv hst hl hs⟩,
    fun _ _ _ _ _ hrx hst hv hl hu hs haw => attn_resumes hrx hst hv hl hs hu haw,
    fun _ _ _ _ _ _ hrx hst hv hl => ⟨attn_pending hrx hv hst hl, attn_unsolicited hrx hv hst hl,
      fun hs _ hr => attn_mismatches hrx hv hst hl hs hr, fun hs _ => attn_halting hrx hv hst hl hs⟩,
    fun _ _ _ _ _ hrx hst hv hl hs haw hfull => attn_joins hrx hst hv hl hs haw hfull⟩

end Sys2Proof.Machine

/-!
The three ends of an event at a served lane: the ABORT, the DESEL that ends the context, and the detach of a HALTING one.
-/
namespace Sys2Proof.Machine

open Sys2Proof.Claims

/-! ### Before the lane sends -/

/-- Between `a` and `b` slot `k` and lane `n` alone changed, and the lane has sent nothing. -/
structure Blocks.Arrived (n : LaneId) (k : Slot) (a b : Blocks) : Prop where
  toLocal : Blocks.Local k a b
  apart : Blocks.Apart n a b
  sent : Lane.Sent (a.lane n) (b.lane n) []

section
variable {n : LaneId} {k : Slot} {a b c : Blocks}

theorem Blocks.Arrived.refl (n : LaneId) (k : Slot) (a : Blocks) : Blocks.Arrived n k a a :=
  ⟨.refl k a, .refl n a, .refl _⟩

theorem Blocks.Arrived.trans (h : Blocks.Arrived n k a b) (g : Blocks.Arrived n k b c) : Blocks.Arrived n k a c :=
  ⟨h.toLocal.trans g.toLocal, h.apart.trans g.apart, h.sent.trans g.sent⟩

theorem Blocks.arrived_heard (n : LaneId) (k : Slot) (a : Blocks) : Blocks.Arrived n k a (a.heard n) :=
  ⟨(a.laneOnly_heard n).toLocal k, (a.laneOnly_heard n).apart, a.sent_heard n⟩

theorem Blocks.arrived_takeStatus (n : LaneId) (k : Slot) (a : Blocks) (status : Byte) :
    Blocks.Arrived n k a (a.modCtx k (·.takeStatus status)) :=
  ⟨a.local_takeStatus k status, .of_lanes n fun _ => rfl, .refl _⟩

/-- A change of the lane that leaves its end of the pair. -/
theorem Blocks.arrived_modLane (n : LaneId) (k : Slot) (a : Blocks) (f : Lane → Lane)
    (ht : (f (a.lane n)).tx = (a.lane n).tx)
    (hq : (f (a.lane n)).txQueue = (a.lane n).txQueue) (hr : (f (a.lane n)).rx = (a.lane n).rx) :
    Blocks.Arrived n k a (a.modLane n f) := by
  refine ⟨a.local_modLane k n f, a.apart_modLane n f, ?_⟩
  rw [Blocks.modLane_lane_same]
  exact .of_wire ht hq hr

theorem Blocks.MemOnly.arrived (h : Blocks.MemOnly n a b) (k : Slot) : Blocks.Arrived n k a b :=
  ⟨h.toLocal k, h.apart, h.sent⟩

end

section
variable {s t : State} {n : LaneId} {k : Slot} {b : Blocks} (h : Blocks.Arrived n k s.blocks b)
  (hserved : (b.lane n).served = some ⟨k, .connection⟩)
include h

theorem otherCtxs_of_ctxs (ht : t.blocks.ctxs = b.ctxs) : otherCtxs s t k := fun j hj => by
  have hctx : t.blocks.ctx j = b.ctx j := by simp only [Blocks.ctx, ht]
  rw [hctx]
  exact h.toLocal.ctx_ne j hj

include hserved

/-! ### The ABORT -/

theorem aborts_of_arrived {cause : AbortCause} (ht : t.blocks = s.blocks.settled (b.enterAborting n cause)) :
    aborts s t n k cause ∧ t.blocks.ctxs = b.ctxs ∧ otherCtxs s t k := by
  have hctxs : t.blocks.ctxs = b.ctxs := by
    rw [ht]
    exact b.enterAborting_ctxs cause hserved
  exact ⟨aborts_of_enterAborting cause hserved h.sent (h.toLocal.toReach.unitOf k) (by rw [h.toLocal.window]) h.apart ht,
    hctxs, otherCtxs_of_ctxs h hctxs⟩

variable (hp : t.pending = s.pending)
include hp

/-! ### The DESEL that ends the context -/

theorem deselected_of_arrived {named : List Named} (hn : s.blocks.laneOf k = n) (hf : (b.ctx k).state ≠ .free)
    (ht : t.blocks = s.blocks.settled ((b.sendDesel n).endServed n named)) :
    elsewhere s t ∧ sendsFirst s t n (.desel (s.blocks.unitOf k)) ∧ otherCtxs s t k ∧ otherLanes s t n
      ∧ (t.blocks.lane n).memReq = (b.lane n).memReq
      ∧ ∃ l, l.residual = (b.lane n).residual ∧ t.blocks.ctx k = ((b.ctx k).writtenBack l).toReported k named := by
  have hloc := h.toLocal.trans (Blocks.local_deselEnd named hserved)
  obtain ⟨l, hres, hctx⟩ := Blocks.deselEnd_ctx named hserved hf
  obtain ⟨more, hsent⟩ := Blocks.deselEnd_sent named hserved
  obtain ⟨-, hmem, -⟩ := Blocks.endServed_lane named (Blocks.sendDesel_served hserved)
  refine ⟨elsewhere_of_local (k := k) (by rw [ht]; exact hloc.settled _) hp, sendsFirst_of_sent ⟨more, ?_⟩, ?_, ?_, ?_,
    l, hres, by rw [ht, Blocks.settled_ctx, hctx]⟩
  · rw [ht, Blocks.settled_lane, ← h.toLocal.toReach.unitOf k]
    exact h.sent.trans hsent
  · rw [otherCtxs, ht]; exact (hloc.settled _).ctx_ne
  · rw [otherLanes, ht]
    exact (h.apart.trans (Blocks.apart_deselEnd named hserved (by rw [h.toLocal.toReach.laneOf, hn]))).settled _
  · rw [ht, Blocks.settled_lane, hmem, Blocks.sendDesel_eq hserved, Blocks.send_lane_same, Lane.send_memReq]

/-! ### The detach of a HALTING context (TABLE 54) -/

theorem detached_of_arrived {aw : Awaiting} (hhalting : (b.ctx k).state = .halting)
    (ht : t.blocks = s.blocks.settled (b.detachContext n aw)) :
    elsewhere s t ∧ sendsFirst s t n (.desel (s.blocks.unitOf k)) ∧ otherCtxs s t k ∧ otherLanes s t n
      ∧ (t.blocks.lane n).memReq = (b.lane n).memReq ∧ (t.blocks.lane n).haltList = (b.lane n).haltList ++ [k]
      ∧ t.blocks.ctx k = (b.ctx k).writtenBack (b.lane n) := by
  have hloc := h.toLocal.trans (Blocks.local_detachContext aw hserved)
  obtain ⟨⟨more, hsent⟩, hmem, hlist⟩ := Blocks.detachContext_lane aw hserved
  refine ⟨elsewhere_of_local (k := k) (by rw [ht]; exact hloc.settled _) hp, sendsFirst_of_sent ⟨more, ?_⟩,
    ?_, ?_, ?_, ?_, ?_⟩
  · rw [ht, Blocks.settled_lane, ← h.toLocal.toReach.unitOf k]
    exact h.sent.trans hsent
  · rw [otherCtxs, ht]; exact (hloc.settled _).ctx_ne
  · rw [otherLanes, ht]
    exact (h.apart.trans (Blocks.apart_detachContext aw hserved)).settled _
  · rw [ht, Blocks.settled_lane, hmem]
  · rw [ht, Blocks.settled_lane, hlist hhalting]
  · rw [ht, Blocks.settled_ctx, Blocks.detachContext_ctx aw hserved]
    simp [Context.detached, Context.writtenBack, hhalting]

end

end Sys2Proof.Machine

/-!
Notes, the last stop bit of a DOUT, and the END of an OUT command (R7, R8, R107, R108, R118, R156, R157).
-/
namespace Sys2Proof.Machine

open Sys2Proof.Claims

/-! ### The note of the descriptor in effect -/

section
variable {b : Blocks} {n : LaneId} {k : Slot} (h : (b.lane n).served = some ⟨k, .connection⟩)

theorem Blocks.postNote_quiet (b : Blocks) (n : LaneId) (h : (b.lane n).dflags.note = false) : b.postNote n = b := by
  simp only [Blocks.postNote, h, Bool.false_and, Bool.false_eq_true, if_false]
  split <;> rfl

include h

/-- The blocks at which the note has been posted. -/
theorem Blocks.postNote_posts (hn : (b.lane n).dflags.note = true) (hp : (b.lane n).notePosted = false) :
    b.postNote n = ((b.modCtx k (·.writtenBack (b.lane n))).postNoteEntry k).modLane n
      fun l => { l with notePosted := true } := by
  simp only [Blocks.postNote, Lane.servedSlot_eq k _ _ h, hn, hp, Bool.not_false, Bool.and_self, if_true,
    Blocks.writeBack_eq b n k h]

/-- Posted or not, the note touches its record, its mark and the reports. -/
theorem Blocks.postNote_frame : Blocks.Local k b (b.postNote n) ∧ Blocks.Apart n b (b.postNote n)
    ∧ ∃ np, (b.postNote n).lane n = { b.lane n with notePosted := np } := by
  by_cases hc : ((b.lane n).dflags.note && !(b.lane n).notePosted) = true
  · obtain ⟨hn, hp⟩ := Bool.and_eq_true_iff.mp hc
    rw [Blocks.postNote_posts h hn (by simpa using hp)]
    obtain ⟨c, q, hspec⟩ := (b.modCtx k (·.writtenBack (b.lane n))).postNoteEntry_spec k
    have hlane : ∀ m, ((b.modCtx k (·.writtenBack (b.lane n))).postNoteEntry k).lane m = b.lane m := by
      intro m
      rw [hspec]
      rfl
    refine ⟨((b.local_writtenBack k _).trans (Blocks.local_postNoteEntry _ k)).trans (Blocks.local_modLane _ k n _),
      (Blocks.Apart.of_lanes n hlane).trans (Blocks.apart_modLane _ n _), true, ?_⟩
    rw [Blocks.modLane_lane_same, hlane]
  · have hself : b.postNote n = b := by
      simp only [Blocks.postNote, Lane.servedSlot_eq k _ _ h, hc]
      rfl
    rw [hself]
    exact ⟨.refl k b, .refl n b, _, rfl⟩

end

/-- A note of a context that is served: the pending note is made or counts on, and the queue has an entry of it (R156). -/
theorem Blocks.postNoteEntry_posts (b : Blocks) (k : Slot) (h : (b.ctx k).state.notes = true) :
    (b.postNoteEntry k).ctx k = { b.ctx k with note := some (nextNote (b.ctx k).note (b.ctx k).chainAddr) }
      ∧ (b.postNoteEntry k).reports.queue =
          if (b.ctx k).note.isSome then b.reports.queue else b.reports.queue ++ [⟨k, .note⟩] := by
  simp only [Blocks.postNoteEntry, h, if_true]
  exact ⟨b.setCtx_ctx_same k _, trivial⟩

/-! ### The last stop bit of a DOUT -/

/-- The blocks at which the pair is released after a DOUT of `len` bytes and its bytes count (R74, R107; log 11). -/
def Blocks.doutDone (b : Blocks) (n : LaneId) (len : Nat) : Blocks :=
  (b.modLane n (·.nextFrame)).modLane n (·.doutSent len)

section
variable (b : Blocks) (n : LaneId) (len : Nat)

theorem Blocks.laneOnly_doutDone : Blocks.LaneOnly n b (b.doutDone n len) :=
  (b.laneOnly_modLane n _).trans (Blocks.laneOnly_modLane _ n _)

theorem Lane.nextFrame_spec (l : Lane) : ∃ tx q, l.nextFrame = { l with tx := tx, txQueue := q } := by
  rw [Lane.nextFrame, Lane.drive_spec]
  exact ⟨_, _, rfl⟩

/-- The frames that waited are what is left to send. -/
theorem Lane.nextFrame_waiting (l : Lane) : l.nextFrame.outgoing = l.txQueue := by
  rw [Lane.nextFrame, Lane.drive_outgoing]
  rfl

theorem Blocks.doutDone_lane : ∃ tx q, (b.doutDone n len).lane n =
      { b.lane n with
        tx := tx, txQueue := q, outToggle := !(b.lane n).outToggle, staging := (b.lane n).staging.sent len
        doutOwed := (b.lane n).doutOwed - 1, residual := (b.lane n).residual - len
        dataAddr := (b.lane n).dataAddr + len }
    ∧ ((b.doutDone n len).lane n).outgoing = (b.lane n).txQueue := by
  obtain ⟨tx, q, h⟩ := (b.lane n).nextFrame_spec
  have hlane : (b.doutDone n len).lane n = (b.lane n).nextFrame.doutSent len := by
    rw [Blocks.doutDone, Blocks.modLane_lane_same, Blocks.modLane_lane_same]
  refine ⟨tx, q, ?_, ?_⟩
  · rw [hlane, h]; rfl
  · rw [hlane]
    exact (b.lane n).nextFrame_waiting

theorem Blocks.frameSent_dout (u : UnitAddr) (tog : Bool) (bytes : List Byte) (rate : Fin 4)
    (h : (b.lane n).tx = some ⟨.dout u tog bytes, rate⟩) (hst : (b.lane n).state = .transfer) :
    b.frameSent n =
      if (b.lane n).residual - bytes.length = 0 then (b.doutDone n bytes.length).outFinished n
      else (b.doutDone n bytes.length).outGoesOn n := by
  obtain ⟨tx, q, hl, -⟩ := b.doutDone_lane n bytes.length
  have hs : b.frameSent n = (b.modLane n (·.nextFrame)).afterDout n bytes.length := by
    simp only [Blocks.frameSent, h]
    rfl
  rw [hs, Blocks.afterDout, ← Blocks.doutDone]
  simp only [hl]
  rw [if_neg (by rw [hst]; exact fun h => h rfl)]

end

/-- The last stop bit of a DOUT with NOTE that ends its data (R108). -/
theorem note_at_last_dout (s : State) (n : LaneId) (k : Slot) (u : UnitAddr) (bytes : List Byte) (rate : Fin 4)
    (d : Descriptor) (c : Context) (htx : (s.blocks.lane n).tx = some ⟨.dout u (s.blocks.lane n).outToggle bytes, rate⟩)
    (hst : (s.blocks.lane n).state = .transfer) (hserved : serving s n k) (hd : (s.blocks.lane n).desc = some d)
    (hnote : d.flags.note = true) (hld : d.flags.linkData = false) (hposted : (s.blocks.lane n).notePosted = false)
    (hhalt : (s.blocks.lane n).haltNotice = false) (hheld : (s.blocks.lane n).heldNeed = none)
    (hres : (s.blocks.lane n).residual = bytes.length) (howed : (s.blocks.lane n).doutOwed = 1)
    (hc : c = s.blocks.ctx k) (hconn : c.state = .connected) :
    ∃ t note, exec (.frameSent n) s = .next t ∧ t.port = s.port ∧ elsewhere s t ∧ otherLanes s t n ∧ otherCtxs s t k
      ∧ t.blocks.ctx k = { c with
          desc := some d, residual := 0, dataAddr := (s.blocks.lane n).dataAddr + bytes.length
          lengthCond := (s.blocks.lane n).lengthCond, note := some note }
      ∧ (t.blocks.lane n).notePosted = true ∧ note.addr = c.chainAddr
      ∧ (c.note = none → note.count = 1 ∧ t.blocks.reports.queue = s.blocks.reports.queue ++ [⟨k, .note⟩])
      ∧ ∀ old, c.note = some old →
          note.count = min 255 (old.count + 1) ∧ t.blocks.reports.queue = s.blocks.reports.queue := by
  subst hc
  have hsent := s.blocks.frameSent_dout n u _ bytes rate htx hst
  rw [hres, Nat.sub_self, if_pos rfl] at hsent
  obtain ⟨tx, q, hlane, -⟩ := s.blocks.doutDone_lane n bytes.length
  have honly := s.blocks.laneOnly_doutDone n bytes.length
  have hctx0 : (s.blocks.doutDone n bytes.length).ctx k = s.blocks.ctx k := by rw [Blocks.ctx, honly.ctxs]; rfl
  generalize s.blocks.doutDone n bytes.length = b at hsent hlane honly hctx0
  have hservedB : (b.lane n).served = some ⟨k, .connection⟩ := by rw [hlane]; exact hserved
  obtain ⟨hloc, hap, np, hnp⟩ := Blocks.postNote_frame hservedB
  have hposts := Blocks.postNote_posts hservedB (by rw [hlane]; simpa [Lane.dflags, hd] using hnote)
    (by rw [hlane]; exact hposted)
  have hdflags : ((b.postNote n).lane n).dflags.linkData = false := by
    rw [hnp, hlane]; simpa [Lane.dflags, hd] using hld
  have hfinish : b.outFinished n = (b.postNote n).modLane n (·.startTimer) := by
    have h1 : ((b.postNote n).lane n).haltNotice = false := by rw [hnp, hlane]; exact hhalt
    have h2 : ((b.postNote n).lane n).doutOwed = 0 := by rw [hnp, hlane]; simp [howed]
    have h3 : ((b.postNote n).lane n).heldNeed = none := by rw [hnp, hlane]; exact hheld
    simp [Blocks.outFinished, h1, h2, h3, hdflags]
  have hcw : (b.modCtx k (·.writtenBack (b.lane n))).ctx k = { s.blocks.ctx k with
      desc := some d, residual := 0, dataAddr := (s.blocks.lane n).dataAddr + bytes.length
      lengthCond := (s.blocks.lane n).lengthCond } := by
    rw [Blocks.modCtx_ctx_same, hctx0, hlane]
    simp only [Context.writtenBack, hd, hres, Nat.sub_self]
  obtain ⟨hentry, hqueue⟩ := Blocks.postNoteEntry_posts (b.modCtx k (·.writtenBack (b.lane n))) k (by rw [hcw, hconn]; rfl)
  rw [hcw] at hentry hqueue
  have hq0 : (b.modCtx k (·.writtenBack (b.lane n))).reports.queue = s.blocks.reports.queue := by
    show b.reports.queue = _
    rw [honly.reports]
  rw [hq0] at hqueue
  have hloc' := ((honly.toLocal k).trans hloc).trans (Blocks.local_modLane _ k n (·.startTimer))
  have ht : (s.onBlocks fun b => b.frameSent n).blocks =
      s.blocks.settled ((b.postNote n).modLane n (·.startTimer)) := by
    rw [State.onBlocks_blocks, hsent, hfinish]
  refine ⟨s.onBlocks fun b => b.frameSent n, nextNote (s.blocks.ctx k).note (s.blocks.ctx k).chainAddr, rfl, rfl,
    elsewhere_of_local (k := k) (by rw [ht]; exact hloc'.settled _) rfl, ?_, ?_, ?_, ?_, ?_, fun hnone => ⟨?_, ?_⟩,
    fun old hold => ⟨?_, ?_⟩⟩
  · rw [otherLanes, ht]
    exact ((honly.apart.trans hap).trans (Blocks.apart_modLane _ n _)).settled _
  · rw [otherCtxs, ht]; exact (hloc'.settled _).ctx_ne
  · rw [ht, Blocks.settled_ctx, Blocks.modLane_ctx, hposts, Blocks.modLane_ctx, hentry]
  · rw [ht, Blocks.settled_lane, Blocks.modLane_lane_same, hposts, Blocks.modLane_lane_same]
    rfl
  · cases (s.blocks.ctx k).note <;> rfl
  · rw [hnone]; rfl
  · rw [ht, Blocks.settled_queue, Blocks.modLane_reports, hposts, Blocks.modLane_reports, hqueue]
    simp [hnone]
  · rw [hold]; rfl
  · rw [ht, Blocks.settled_queue, Blocks.modLane_reports, hposts, Blocks.modLane_reports, hqueue]
    simp [hold]

/-! ### END of an OUT command (R118) -/

/-- The status byte of an ACPT or END of the served unit is recorded in a connection (R17). -/
theorem Blocks.frameStatus_served (b : Blocks) (n : LaneId) (k : Slot) (status : Byte)
    (hserved : (b.lane n).served = some ⟨k, .connection⟩) (hst : (b.lane n).state.takesFrames = true) :
    b.frameStatus n (b.unitOf k) status = b.modCtx k (·.takeStatus status) := by
  rw [Blocks.frameStatus, b.servedUnit_eq n k .connection hserved, hst]
  simp only [beq_self_eq_true, Bool.and_self, if_true]
  exact Blocks.takeStatus_eq b n k .connection status hserved

/-- The record of its status leaves the address of the served unit. -/
theorem Blocks.servedUnit_takeStatus (b : Blocks) (n : LaneId) (k : Slot) (status : Byte)
    (hserved : (b.lane n).served = some ⟨k, .connection⟩) :
    (b.modCtx k (·.takeStatus status)).servedUnit n = b.unitOf k := by
  rw [Blocks.servedUnit_eq (b.modCtx k (·.takeStatus status)) n k .connection hserved]
  exact (b.local_takeStatus k status).toReach.unitOf k

/-- The blocks at which an END whose status has been recorded begins the closing. -/
def Blocks.endTakenBy (b : Blocks) (n : LaneId) (k : Slot) (cl : Closing) : Blocks :=
  (b.modCtx k fun c => { c with flags := c.flags.addLengthShort (b.lane n).endsShort }).modLane n (·.closingWith cl)

/-- The blocks at which an END begins the closing, its status recorded. -/
def Blocks.endedBy (b : Blocks) (n : LaneId) (k : Slot) (status : Byte) (cl : Closing) : Blocks :=
  (b.modCtx k (·.takeStatus status)).endTakenBy n k cl

section
variable (b : Blocks) (n : LaneId) (k : Slot) (status : Byte) (cl : Closing)

theorem Blocks.arrived_endTakenBy : Blocks.Arrived n k b (b.endTakenBy n k cl) :=
  Blocks.Arrived.trans (b := b.modCtx k fun c => { c with flags := c.flags.addLengthShort (b.lane n).endsShort })
    ⟨Blocks.local_modCtx _ fun _ => rfl, .of_lanes n fun _ => rfl, .refl _⟩
    (Blocks.arrived_modLane n k _ (·.closingWith cl) rfl rfl rfl)

theorem Blocks.arrived_endedBy : Blocks.Arrived n k b (b.endedBy n k status cl) :=
  (b.arrived_takeStatus n k status).trans (Blocks.arrived_endTakenBy _ n k cl)

theorem Blocks.endedBy_lane : (b.endedBy n k status cl).lane n = (b.lane n).closingWith cl :=
  Blocks.modLane_lane_same _ n (·.closingWith cl)

theorem Blocks.endedBy_ctx : (b.endedBy n k status cl).ctx k =
    { (b.ctx k).takeStatus status with
      flags := ((b.ctx k).takeStatus status).flags.addLengthShort (b.lane n).endsShort } := by
  rw [Blocks.endedBy, Blocks.endTakenBy, Blocks.modLane_ctx, Blocks.modCtx_ctx_same, Blocks.modCtx_ctx_same]
  rfl

theorem Blocks.endedBy_reports : (b.endedBy n k status cl).reports = b.reports := rfl

variable {d : Descriptor} (hst : (b.lane n).state = .transfer) (hserved : (b.lane n).served = some ⟨k, .connection⟩)
  (hd : (b.lane n).desc = some d) (hdir : d.dir = .outbound) (hnote : d.flags.note = false)
  (hlink : d.flags.linkCmd = false ∨ (b.ctx k).state = .halting) (hm : (b.lane n).memReq = none)
include hst hserved hd hdir hnote hlink hm

/-- With nothing to write and no link to follow the END deselects the unit and ends the context. -/
theorem Blocks.endTaken_outbound : b.endTaken n status =
    ((b.endTakenBy n k (.outcome ((b.lane n).endNames status))).sendDesel n).endServed n ((b.lane n).endNames status) := by
  simp only [Blocks.endTaken]
  rw [b.addServedFlag_eq n k _ _ hserved]
  generalize hb2 : (b.modCtx k fun c => { c with flags := c.flags.addLengthShort (b.lane n).endsShort }) = b2
  have hlane2 : b2.lane n = b.lane n := by rw [← hb2]; rfl
  have hnote2 : b2.postNote n = b2 := b2.postNote_quiet n (by rw [hlane2]; simpa [Lane.dflags, hd] using hnote)
  have hcl : (((b.lane n).endNames status).isEmpty && (b.lane n).dflags.linkCmd
      && !((b.ctx k).state == .halting)) = false := by
    rcases hlink with hl | hl
    · simp [Lane.dflags, hd, hl]
    · simp [hl]
  have hend : b.endTakenBy n k (.outcome ((b.lane n).endNames status)) =
      b2.modLane n (·.closingWith (.outcome ((b.lane n).endNames status))) := by
    rw [← hb2]; rfl
  simp only [hnote2, ite_self, hst]
  rw [b.servedHalting_eq n k _ hserved, hcl, hend, Blocks.beginClosing_ends]
  · exact Blocks.closingEnd_outcome _ n _ (by rw [Blocks.modLane_lane_same]; rfl)
  · rw [hlane2]; exact hm
  · exact Or.inl (by rw [hlane2]; simpa [Lane.dir, hd] using hdir)

theorem Blocks.endFrame_outbound : b.endFrame n (b.unitOf k) status =
    ((b.endedBy n k status (.outcome ((b.lane n).endNames status))).sendDesel n).endServed n
      ((b.lane n).endNames status) := by
  have hstatus := b.frameStatus_served n k status hserved (by rw [hst]; rfl)
  have hne : ¬(b.lane n).state = .aborting := by rw [hst]; nofun
  have hunit := (b.servedUnit_takeStatus n k status hserved).symm
  simp only [Blocks.endFrame]
  rw [if_neg hne, hstatus, Blocks.inConnection_served (b.modCtx k (·.takeStatus status)) n _ _ (Or.inr (Or.inl hst)) hunit,
    if_pos (Or.inl hst)]
  refine Blocks.endTaken_outbound _ n k status hst hserved hd hdir hnote ?_ hm
  rw [Blocks.modCtx_ctx_same]
  exact hlink

end

end Sys2Proof.Machine

/-!
The places of the reports in the queue (R7, R157, R158).
-/
namespace Sys2Proof.Machine

open Sys2Proof.Claims

/-- The record once a short END has been recorded (R118). -/
def Context.withLengthShort (c : Context) (short : Bool) : Context := { c with flags := c.flags.addLengthShort short }

/-! ### A NOTE entry converted -/

/-- The NOTE entry of the slot is converted in its place (R157). -/
theorem postFinalEntry_converts (q0 q1 : List ReportEntry) (k : Slot) (h : ∀ e ∈ q0 ++ q1, e.slot ≠ k) :
    postFinalEntry (q0 ++ ⟨k, .note⟩ :: q1) k = q0 ++ ⟨k, .final⟩ :: q1 := by
  have hkeep : ∀ q : List ReportEntry, (∀ e ∈ q, e.slot ≠ k) → q.map (·.finalIn [k]) = q := fun q hq => by
    refine (List.map_congr_left fun e he => ?_).trans q.map_id
    simp [ReportEntry.finalIn, hq e he]
  rw [postFinalEntry_reported _ _ (by simp [unreported]), List.map_append, List.map_cons,
    hkeep q0 fun e he => h e (List.mem_append_left _ he), hkeep q1 fun e he => h e (List.mem_append_right _ he)]
  simp [ReportEntry.finalIn]

/-- RESET_LANE's entries, in the words of the rule. -/
theorem finalEntries_filter (q : List ReportEntry) (p : Slot → Bool) :
    finalEntries q (allSlots.filter p) = q.map (fun e => if p e.slot = true then ⟨e.slot, .final⟩ else e)
      ++ (allSlots.filter fun k => p k && unreported q k).map fun k => ⟨k, .final⟩ := by
  rw [finalEntries, List.filter_filter]
  congr 1
  · refine List.map_congr_left fun e _ => ?_
    simp [ReportEntry.finalIn, allSlots]
  · simp only [Bool.and_comm]

/-! ### END, and RESET_LANE -/

section
variable {s : State} {n : LaneId} {k : Slot} {status : Byte} {d : Descriptor} (hrx : receiving s n)
  (hst : (s.blocks.lane n).state = .transfer) (hserved : serving s n k) (hd : (s.blocks.lane n).desc = some d)
  (hdir : d.dir = .outbound) (hnote : d.flags.note = false)
  (hlink : d.flags.linkCmd = false ∨ (s.blocks.ctx k).state = .halting) (hm : (s.blocks.lane n).memReq = none)
  (hv : status &&& 0xE0 = 0)
include hrx hst hserved hd hdir hnote hlink hm hv

/-- An END of an OUT command in L_TRANSFER with nothing to write: the unit is deselected and the context ends. -/
theorem exec_end_outbound : ∃ t b, exec (.frameEnd n (s.blocks.unitOf k) status) s = .next t ∧ t.port = s.port
    ∧ t.pending = s.pending ∧ Blocks.Arrived n k s.blocks b ∧ (b.lane n).served = some ⟨k, .connection⟩
    ∧ (b.lane n).residual = (s.blocks.lane n).residual
    ∧ b.ctx k = ((s.blocks.ctx k).takeStatus status).withLengthShort (s.blocks.lane n).endsShort
    ∧ b.reports = s.blocks.reports
    ∧ t.blocks = s.blocks.settled ((b.sendDesel n).endServed n ((s.blocks.lane n).endNames status)) := by
  obtain ⟨tx, q, hl⟩ := s.blocks.heard_lane_spec n
  have hnames : ((s.blocks.heard n).lane n).endNames status = (s.blocks.lane n).endNames status := by rw [hl]; rfl
  have hshort : ((s.blocks.heard n).lane n).endsShort = (s.blocks.lane n).endsShort := by rw [hl]; rfl
  have hend := Blocks.endFrame_outbound (s.blocks.heard n) n k status (d := d) (by rw [hl]; exact hst)
    (by rw [hl]; exact hserved) (by rw [hl]; exact hd) hdir hnote hlink (by rw [hl]; exact hm)
  rw [hnames] at hend
  obtain ⟨t, hexec, hport, hp, ht⟩ := exec_frame (i := .frameEnd n (s.blocks.unitOf k) status)
    (f := fun b => b.endFrame n (s.blocks.unitOf k) status) hrx (by rw [← statusValid_of hv]; rfl) hend
  have hlane := (s.blocks.heard n).endedBy_lane n k status (.outcome ((s.blocks.lane n).endNames status))
  refine ⟨t, _, hexec, hport, hp,
    (s.blocks.arrived_heard n k).trans (Blocks.arrived_endedBy _ n k status _), ?_, ?_, ?_, ?_, ht⟩
  · rw [hlane, hl]; exact hserved
  · rw [hlane, hl]; rfl
  · rw [Blocks.endedBy_ctx, hshort]; rfl
  · rw [Blocks.endedBy_reports]; rfl

end

theorem end_takes_the_note (s : State) (n : LaneId) (k : Slot) (status : Byte) (d : Descriptor) (hrx : receiving s n)
    (hst : (s.blocks.lane n).state = .transfer) (hserved : serving s n k) (hd : (s.blocks.lane n).desc = some d)
    (hdir : d.dir = .outbound) (hflags : d.flags = ⟨false, false, false, false, false⟩)
    (hconn : (s.blocks.ctx k).state = .connected) (hm : (s.blocks.lane n).memReq = none) (hv : status &&& 0xE0 = 0) :
    ∃ t rep, exec (.frameEnd n (s.blocks.unitOf k) status) s = .next t ∧ (t.blocks.ctx k).final = some rep
      ∧ (t.blocks.ctx k).note = none
      ∧ (∀ q0 q1, s.blocks.reports.queue = q0 ++ ⟨k, .note⟩ :: q1 → (∀ e ∈ q0 ++ q1, e.slot ≠ k) →
          t.blocks.reports.queue = q0 ++ ⟨k, .final⟩ :: q1)
      ∧ ((∀ e ∈ s.blocks.reports.queue, e.slot ≠ k) → t.blocks.reports.queue = s.blocks.reports.queue ++ [⟨k, .final⟩])
      ∧ (∀ note, (s.blocks.ctx k).note = some note → rep.noteCount = note.count ∧ rep.noteAddr = some note.addr)
      ∧ ((s.blocks.ctx k).note = none → rep.noteCount = 0 ∧ rep.noteAddr = none) := by
  obtain ⟨t, b, hexec, -, -, -, hservedB, -, hctx, hreports, ht⟩ := exec_end_outbound hrx hst hserved hd hdir
    (by rw [hflags]) (Or.inl (by rw [hflags])) hm hv
  have hfree : (b.ctx k).state ≠ .free := by rw [hctx]; exact fun h => absurd (hconn.symm.trans h) nofun
  obtain ⟨l, -, hend⟩ := Blocks.deselEnd_ctx ((s.blocks.lane n).endNames status) hservedB hfree
  have hqueue : t.blocks.reports.queue = postFinalEntry s.blocks.reports.queue k := by
    rw [ht, Blocks.settled_queue, Blocks.endServed_queue _ (Blocks.sendDesel_served hservedB) hfree, ← hreports]
    rfl
  have htk : t.blocks.ctx k = ((((s.blocks.ctx k).takeStatus status).withLengthShort
      (s.blocks.lane n).endsShort).writtenBack l).toReported k ((s.blocks.lane n).endNames status) := by
    rw [ht, Blocks.settled_ctx, hend, hctx]
  refine ⟨t, _, hexec, by rw [htk]; rfl, by rw [htk]; rfl, fun q0 q1 hq hne => ?_, fun hne => ?_,
    fun note hnote => ⟨?_, ?_⟩, fun hnone => ⟨?_, ?_⟩⟩
  · rw [hqueue, hq, postFinalEntry_converts q0 q1 k hne]
  · rw [hqueue, postFinalEntry_unreported _ k ((unreported_iff _ k).mpr hne)]
  · show (match (s.blocks.ctx k).note with | some p => p.count | none => 0) = _
    rw [hnote]
  · show (s.blocks.ctx k).note.map (·.addr) = _
    rw [hnote]; rfl
  · show (match (s.blocks.ctx k).note with | some p => p.count | none => 0) = _
    rw [hnone]
  · show (s.blocks.ctx k).note.map (·.addr) = _
    rw [hnone]; rfl

theorem resetLane_queue (s : State) (r : Request) (rest : List Request) (ended : Slot → Bool)
    (h : taken s r rest .resetLane) (hs : (s.blocks.lane r.lane).state ≠ .disabled)
    (hended : ∀ k, ended k = (s.blocks.onLane k r.lane && (s.blocks.ctx k).state.finalised)) :
    ∃ t, exec .resetLane s = .next t
      ∧ t.blocks.reports.queue =
          s.blocks.reports.queue.map (fun e => if ended e.slot = true then ⟨e.slot, .final⟩ else e)
            ++ ((List.finRange 40).filter (fun k =>
                  ended k && s.blocks.reports.queue.all (fun e => e.slot != k))).map (fun k => ⟨k, .final⟩) := by
  obtain ⟨t, hexec, -, ht⟩ := exec_resetLane h hs
  refine ⟨t, hexec, ?_⟩
  have hslots : s.blocks.finalisedOn r.lane = allSlots.filter ended := List.filter_congr fun k _ => (hended k).symm
  rw [ht, Blocks.settled_queue, Blocks.laneReset_reports, Blocks.finalisedBy_queue, hslots, finalEntries_filter]
  rfl

/-- Settles O51: a note at the last DOUT, a final report at END, and those of RESET_LANE. -/
theorem notesMergeAndFinalReportsKeepTheirPlaces : Obligations.NotesMergeAndFinalReportsKeepTheirPlaces :=
  ⟨note_at_last_dout, end_takes_the_note, fun s r rest ended h hs he _ => resetLane_queue s r rest ended h hs he⟩

end Sys2Proof.Machine

/-!
The frames, the timeout and the last stop bit that find the halt notice set (R168 to R170, R172, TABLE 54).
-/
namespace Sys2Proof.Machine

open Sys2Proof.Claims

/-! ### What the ABORT leaves of the lane -/

/-- Every other item of the lane stands. -/
theorem Blocks.enterAborting_lane_spec {b : Blocks} {n : LaneId} {k : Slot} (cause : AbortCause)
    (h : (b.lane n).served = some ⟨k, .connection⟩) : ∃ mr sa st tx q, (b.enterAborting n cause).lane n =
      { b.lane n with
        memReq := mr, stagingAddr := sa, staging := st, tx := tx, txQueue := q, state := .aborting
        abortCause := some cause, abortPhase := .awaiting, abortFault := none, closing := none, credit := []
        heldNeed := none, doutOwed := 0, timer := none } := by
  obtain ⟨mr, sa, st, hd⟩ := b.abortDrops_lane n k cause
  obtain ⟨st', ha⟩ := Lane.aborted_spec ((b.abortDrops n k cause).lane n) cause
  rw [b.enterAborting_lane cause h, Lane.send_spec, ha, hd]
  exact ⟨_, _, _, _, _, rfl⟩

/-- With the halt notice set an error before closing brings the ABORT of the halt (R169). -/
theorem Blocks.linkError_noticed (b : Blocks) (n : LaneId) (hnotice : (b.lane n).haltNotice = true)
    (hc : (b.lane n).isClosing = false) : b.linkError n = b.enterAborting n .halt := by
  simp [Blocks.linkError, hnotice, hc]

/-! ### ACPT -/

/-- The low bits of a status byte: CHECK, EXCEPTION and BUSY. -/
theorem status_low_bits {status m : Byte} (h : status &&& 7 = m) : statusCheck status = m.getLsbD 0
    ∧ statusException status = m.getLsbD 1 ∧ statusBusy status = m.getLsbD 2 := by
  subst h
  simp [statusCheck, statusException, statusBusy]

theorem chooseClass_statusClasses {status : Byte} (h : status.getLsbD 0 = true ∨ status.getLsbD 1 = true) :
    (chooseClass (statusClasses status)).cls = if status.getLsbD 0 = true then .unitCheck else .unitException := by
  unfold statusClasses statusCheck statusException
  cases h0 : status.getLsbD 0 with
  | true => cases status.getLsbD 1 <;> rfl
  | false =>
    rw [(h.resolve_left (by rw [h0]; nofun))]
    rfl

/-- An ACPT of the served unit in L_COMMANDING, its status recorded first. -/
theorem Blocks.acptFrame_commanding (b : Blocks) (n : LaneId) (k : Slot) (status : Byte)
    (hst : (b.lane n).state = .commanding) (hserved : (b.lane n).served = some ⟨k, .connection⟩) :
    b.acptFrame n (b.unitOf k) status = (b.modCtx k (·.takeStatus status)).acptTaken n status := by
  have hunit := (b.servedUnit_takeStatus n k status hserved).symm
  rw [Blocks.acptFrame, b.frameStatus_served n k status hserved (by rw [hst]; rfl),
    Blocks.inConnection_served (b.modCtx k (·.takeStatus status)) n _ _ (Or.inl hst) hunit]
  exact if_pos hst

section
variable {s : State} {n : LaneId} {k : Slot} {status : Byte} (hrx : receiving s n) (h : haltNoticed s n k)
  (hst : (s.blocks.lane n).state = .commanding) (hv : status &&& 0xE0 = 0)
include hrx h hst hv

/-- The ACPT leads to what `Blocks.acptTaken` makes of the blocks `b` that hold its status. -/
theorem exec_acpt_noticed : ∃ b, Blocks.Arrived n k s.blocks b ∧ (b.lane n).served = some ⟨k, .connection⟩
    ∧ (b.lane n).haltNotice = true ∧ (b.lane n).haltList = (s.blocks.lane n).haltList
    ∧ b.ctx k = recorded (s.blocks.ctx k) status
    ∧ ∀ c, b.acptTaken n status = c → ∃ t, exec (.frameAcpt n (s.blocks.unitOf k) status) s = .next t ∧ t.port = s.port
        ∧ t.pending = s.pending ∧ t.blocks = s.blocks.settled c := by
  obtain ⟨hserved, -, -, -, hnotice⟩ := h
  obtain ⟨tx, q, hl⟩ := s.blocks.heard_lane_spec n
  have hframe := (s.blocks.heard n).acptFrame_commanding n k status (by rw [hl]; exact hst) (by rw [hl]; exact hserved)
  refine ⟨(s.blocks.heard n).modCtx k (·.takeStatus status),
    (s.blocks.arrived_heard n k).trans (Blocks.arrived_takeStatus n k _ status), ?_, ?_, ?_, ?_, fun c hc => ?_⟩
  · rw [Blocks.modCtx_lane, hl]; exact hserved
  · rw [Blocks.modCtx_lane, hl]; exact hnotice
  · rw [Blocks.modCtx_lane, hl]
  · exact Blocks.modCtx_ctx_same _ _ _
  · exact exec_frame (f := fun b => b.acptFrame n (s.blocks.unitOf k) status) hrx (by rw [← statusValid_of hv]; rfl)
      (hframe.trans hc)

theorem acpt_noticed_clean (hclean : status &&& 7 = 0) :
    ∃ t, exec (.frameAcpt n (s.blocks.unitOf k) status) s = .next t ∧ t.port = s.port ∧ aborts s t n k .halt
      ∧ t.blocks.ctx k = recorded (s.blocks.ctx k) status ∧ otherCtxs s t k := by
  obtain ⟨b, harr, hserved, hnotice, -, hctx, hexec⟩ := exec_acpt_noticed hrx h hst hv
  obtain ⟨hcheck, hexc, hbusy⟩ := status_low_bits hclean
  obtain ⟨t, hexec, hport, -, ht⟩ := hexec (b.enterAborting n .halt) (by
    simp [Blocks.acptTaken, hcheck, hexc, hbusy, hnotice])
  obtain ⟨hab, hctxs, hother⟩ := aborts_of_arrived harr hserved ht
  refine ⟨t, hexec, hport, hab, ?_, hother⟩
  rw [← hctx]
  simp only [Blocks.ctx, hctxs]

theorem acpt_noticed_busy (hbusy : status &&& 7 = 4) :
    ∃ t, exec (.frameAcpt n (s.blocks.unitOf k) status) s = .next t ∧ t.port = s.port ∧ elsewhere s t
      ∧ sendsFirst s t n (.desel (s.blocks.unitOf k)) ∧ (t.blocks.ctx k).state = .halting
      ∧ (t.blocks.ctx k).lastStatus = some status
      ∧ (t.blocks.lane n).haltList = (s.blocks.lane n).haltList ++ [k] ∧ otherCtxs s t k ∧ otherLanes s t n := by
  obtain ⟨b, harr, hserved, -, hlist, hctx, hexec⟩ := exec_acpt_noticed hrx h hst hv
  obtain ⟨-, -, hhalting, -, -⟩ := h
  obtain ⟨hcheck, hexc, hbusy⟩ := status_low_bits hbusy
  obtain ⟨t, hexec, hport, hp, ht⟩ := hexec (b.detachContext n .free) (by
    simp [Blocks.acptTaken, hcheck, hexc, hbusy])
  obtain ⟨helse, hsend, hother, hlanes, -, hjoined, htk⟩ :=
    detached_of_arrived harr hserved hp (by rw [hctx]; exact hhalting) ht
  exact ⟨t, hexec, hport, helse, hsend, by rw [htk, hctx]; exact hhalting,
    by rw [htk, hctx]; rfl, by rw [hjoined, hlist], hother, hlanes⟩

theorem acpt_noticed_ends (hends : status.getLsbD 0 = true ∨ status.getLsbD 1 = true) :
    ∃ t, exec (.frameAcpt n (s.blocks.unitOf k) status) s = .next t ∧ t.port = s.port ∧ elsewhere s t
      ∧ sendsFirst s t n (.desel (s.blocks.unitOf k))
      ∧ reportedAs t k (if status.getLsbD 0 = true then .unitCheck else .unitException)
      ∧ (t.blocks.ctx k).flags.haltRequested = (s.blocks.ctx k).flags.haltRequested ∧ otherCtxs s t k := by
  obtain ⟨b, harr, hserved, -, -, hctx, hexec⟩ := exec_acpt_noticed hrx h hst hv
  obtain ⟨-, hn, hhalting, -, -⟩ := h
  obtain ⟨t, hexec, hport, hp, ht⟩ := hexec _ (if_pos (Bool.or_eq_true_iff.mpr hends))
  obtain ⟨helse, hsend, hother, -, -, l, -, htk⟩ := deselected_of_arrived harr hserved hp hn (by
    rw [hctx]; exact fun hf => absurd (hhalting.symm.trans hf) nofun) ht
  exact ⟨t, hexec, hport, helse, hsend, reportedAs_of htk (chooseClass_statusClasses hends), by rw [htk, hctx]; rfl, hother⟩

end

/-! ### NEED -/

theorem Blocks.needTaken_noticed (b : Blocks) (n : LaneId) (u : UnitAddr) (chunks : Nat) (d : Descriptor)
    (hd : (b.lane n).desc = some d) (hnotice : (b.lane n).haltNotice = true)
    (hexp : expected (b.lane n) d (.need u chunks)) : b.needTaken n chunks = b.enterAborting n .halt := by
  rcases hexp with ⟨hst, hout, hin⟩ | ⟨hst, hlink⟩ | ⟨hst, hcl⟩
  · cases hdir : d.dir with
    | outbound => simp [Blocks.needTaken, hst, Lane.dir, hd, hdir, Blocks.needOut, hout hdir, hnotice]
    | inbound => simp [Blocks.needTaken, hst, Lane.dir, hd, hdir, Blocks.needIn, hin hdir, hnotice]
    | noData => simp [Blocks.needTaken, hst, Lane.dir, hd, hdir, Blocks.needNone, hnotice]
  · simp [Blocks.needTaken, hst, Lane.inLinkData, Lane.dflags, hd, hlink, hnotice]
  · simp [Blocks.needTaken, hst, Lane.inLinkData, Lane.awaitsEnd, hcl, hnotice]

theorem need_noticed (s : State) (n : LaneId) (k : Slot) (chunks : Nat) (d : Descriptor) (l : Lane)
    (hrx : receiving s n) (h : haltNoticed s n k) (hl : l = s.blocks.lane n) (hd : l.desc = some d) (h1 : 1 ≤ chunks)
    (h8 : chunks ≤ 8) (hexp : expected l d (.need (s.blocks.unitOf k) chunks)) :
    ∃ t, exec (.frameNeed n (s.blocks.unitOf k) chunks) s = .next t ∧ t.port = s.port ∧ aborts s t n k .halt
      ∧ t.blocks.ctxs = s.blocks.ctxs := by
  subst hl
  obtain ⟨hserved, -, -, -, hnotice⟩ := h
  obtain ⟨tx, q, hlane⟩ := s.blocks.heard_lane_spec n
  have hservedH : ((s.blocks.heard n).lane n).served = some ⟨k, .connection⟩ := by rw [hlane]; exact hserved
  have hconn := Blocks.inConnection_served (s.blocks.heard n) n (s.blocks.unitOf k) (fun b => b.needTaken n chunks)
    (by rw [hlane]; exact Or.inr (hexp.imp And.left (Or.imp And.left And.left)))
    (Blocks.servedUnit_eq _ n k .connection hservedH).symm
  rw [Blocks.needTaken_noticed _ n (s.blocks.unitOf k) chunks d (by rw [hlane]; exact hd) (by rw [hlane]; exact hnotice)
    (by rw [hlane]; exact hexp)] at hconn
  have hwf : (decide (1 ≤ chunks) && decide (chunks ≤ 8)) = true := by simp [h1, h8]
  obtain ⟨t, hexec, hport, -, ht⟩ := exec_frame (i := .frameNeed n (s.blocks.unitOf k) chunks)
    (f := fun b => b.inConnection n (s.blocks.unitOf k) fun b => b.needTaken n chunks) hrx
    (by rw [← hwf]; rfl) hconn
  obtain ⟨hab, hctxs, -⟩ := aborts_of_arrived (s.blocks.arrived_heard n k) hservedH ht
  exact ⟨t, hexec, hport, hab, hctxs⟩

/-! ### DIN -/

theorem Lane.takeDin_spec (l : Lane) (bytes : List Byte) : ∃ da st, l.takeDin bytes =
    { l with
      credit := l.credit.drop 1, inToggle := !l.inToggle, lastIn := some bytes, rxResidual := l.rxResidual - bytes.length
      timer := none, residual := l.residual - (if l.dflags.discard = true then bytes.length else 0), dataAddr := da
      staging := st } := by
  unfold Lane.takeDin
  by_cases hd : l.dflags.discard = true
  · simp only [hd, if_true]
    exact ⟨_, _, rfl⟩
  · simp only [hd, Bool.false_eq_true, if_false]
    exact ⟨_, _, rfl⟩

/-- The ABORT after a DIN within credit is at the blocks `c`, which hold the DIN and the note it may post. -/
theorem Blocks.dinNew_noticed (b : Blocks) (n : LaneId) (k : Slot) (bytes : List Byte)
    (hserved : (b.lane n).served = some ⟨k, .connection⟩) (hnotice : (b.lane n).haltNotice = true) :
    ∃ c, b.dinNew n bytes = c.enterAborting n .halt ∧ Blocks.Arrived n k b c
      ∧ (∃ np, c.lane n = { (b.lane n).takeDin bytes with notePosted := np })
      ∧ ((b.lane n).dflags.note = false ∨ (b.lane n).dflags.discard = false → c.ctxs = b.ctxs) := by
  obtain ⟨da, st, hl⟩ := (b.lane n).takeDin_spec bytes
  have harr : Blocks.Arrived n k b (b.modLane n (·.takeDin bytes)) := by
    refine Blocks.arrived_modLane n k b _ ?_ ?_ ?_
    all_goals rw [hl]
  have hlane := b.modLane_lane_same n (·.takeDin bytes)
  have hctxs : (b.modLane n (·.takeDin bytes)).ctxs = b.ctxs := rfl
  simp only [Blocks.dinNew]
  generalize b.modLane n (·.takeDin bytes) = b1 at harr hlane hctxs
  have hservedB : (b1.lane n).served = some ⟨k, .connection⟩ := by rw [hlane, hl]; exact hserved
  by_cases hdone : (b1.lane n).rxResidual = 0 ∧ (b1.lane n).dflags.discard = true
  · obtain ⟨hloc, hap, np, hnp⟩ := Blocks.postNote_frame hservedB
    refine ⟨b1.postNote n, ?_, harr.trans ⟨hloc, hap, ?_⟩, ⟨np, by rw [hnp, hlane]⟩, fun hq => ?_⟩
    · have h2 : ((b1.postNote n).lane n).haltNotice = true := by rw [hnp, hlane, hl]; exact hnotice
      simp only [if_pos hdone, h2, if_true]
    · rw [hnp]; exact .of_wire rfl rfl rfl
    · have hdis : (b.lane n).dflags.discard = true := by rw [hlane, hl] at hdone; exact hdone.2
      have hnote : (b1.lane n).dflags.note = false := by
        rw [hlane, hl]; exact hq.resolve_right (by rw [hdis]; nofun)
      rw [b1.postNote_quiet n hnote, hctxs]
  · refine ⟨b1, ?_, harr, ⟨_, hlane⟩, fun _ => hctxs⟩
    have h2 : (b1.lane n).haltNotice = true := by rw [hlane, hl]; exact hnotice
    simp only [if_neg hdone, h2, if_true]

section
variable (b : Blocks) (n : LaneId) (toggle : Bool) (bytes : List Byte)
  (h : ((b.lane n).state = .transfer ∧ (b.lane n).dir = .inbound) ∨ (b.lane n).inLinkData = true)
include h

theorem Blocks.dinTaken_new (hst : (b.lane n).state = .transfer) (ht : toggle = (b.lane n).inToggle)
    (hw : (b.lane n).withinCredit bytes = true) : b.dinTaken n toggle bytes = b.dinNew n bytes := by
  simp only [Blocks.dinTaken, if_pos h, Lane.judgeDin, if_pos ht]
  exact if_pos ⟨hst, hw⟩

theorem Blocks.dinTaken_duplicate (ht : toggle ≠ (b.lane n).inToggle) (hl : (b.lane n).lastIn = some bytes) :
    b.dinTaken n toggle bytes = b.haltIfTurn n := by
  simp only [Blocks.dinTaken, if_pos h, Lane.judgeDin, if_neg ht, if_pos hl]

end

section
variable {s : State} {n : LaneId} {k : Slot} {bytes : List Byte} {d : Descriptor} (hrx : receiving s n)
  (h : haltNoticed s n k) (hst : (s.blocks.lane n).state = .transfer) (hd : (s.blocks.lane n).desc = some d)
  (hdir : d.dir = .inbound) (h1 : 1 ≤ bytes.length) (h16 : bytes.length ≤ 16)
include hrx h hst h1 h16

/-- A DIN of the served unit in L_TRANSFER. -/
theorem exec_din_transfer (toggle : Bool) {c : Blocks}
    (hc : (s.blocks.heard n).dinTaken n toggle bytes = c) :
    ∃ t, exec (.frameDin n (s.blocks.unitOf k) toggle bytes) s = .next t ∧ t.port = s.port ∧ t.pending = s.pending
      ∧ t.blocks = s.blocks.settled c := by
  obtain ⟨hserved, -, -, -, -⟩ := h
  obtain ⟨tx, q, hlane⟩ := s.blocks.heard_lane_spec n
  have hconn := Blocks.inConnection_served (s.blocks.heard n) n (s.blocks.unitOf k) (fun b => b.dinTaken n toggle bytes)
    (by rw [hlane]; exact Or.inr (Or.inl hst))
    (Blocks.servedUnit_eq (s.blocks.heard n) n k .connection (by rw [hlane]; exact hserved)).symm
  have hwf : (decide (1 ≤ bytes.length) && decide (bytes.length ≤ 16)) = true := by simp [h1, h16]
  have hlost : decide (16 < bytes.length) = false := by simp [h16]
  exact exec_frame (i := .frameDin n (s.blocks.unitOf k) toggle bytes)
    (f := fun b => b.inConnection n (s.blocks.unitOf k) fun b => b.dinTaken n toggle bytes) hrx
    (by rw [← hwf, ← hlost]; rfl) (hconn.trans hc)

include hd hdir

theorem din_noticed (c : Nat) (rest : List Nat) (hcredit : (s.blocks.lane n).credit = c :: rest)
    (hlen : bytes.length ≤ c) :
    ∃ t, exec (.frameDin n (s.blocks.unitOf k) (s.blocks.lane n).inToggle bytes) s = .next t ∧ t.port = s.port
      ∧ aborts s t n k .halt ∧ (t.blocks.lane n).rxResidual = (s.blocks.lane n).rxResidual - bytes.length
      ∧ (t.blocks.lane n).inToggle = !(s.blocks.lane n).inToggle ∧ (t.blocks.lane n).lastIn = some bytes
      ∧ (t.blocks.lane n).residual =
          (s.blocks.lane n).residual - (if d.flags.discard = true then bytes.length else 0)
      ∧ ((s.blocks.lane n).memReq = none → (t.blocks.lane n).memReq = none)
      ∧ (d.flags.note = false ∨ d.flags.discard = false → t.blocks.ctxs = s.blocks.ctxs) := by
  have hin : (s.blocks.lane n).dir = .inbound := by rw [Lane.dir, hd]; exact hdir
  have hwithin : (s.blocks.lane n).withinCredit bytes = true := by simp [Lane.withinCredit, hcredit, hlen]
  obtain ⟨hserved, -, -, -, hnotice⟩ := id h
  obtain ⟨tx, q, hlane⟩ := s.blocks.heard_lane_spec n
  obtain ⟨b, hb, harr, ⟨np, hl⟩, hctxs⟩ := (s.blocks.heard n).dinNew_noticed n k bytes (by rw [hlane]; exact hserved)
    (by rw [hlane]; exact hnotice)
  obtain ⟨da, st, htake⟩ := ((s.blocks.heard n).lane n).takeDin_spec bytes
  rw [htake, hlane] at hl
  have hservedB : (b.lane n).served = some ⟨k, .connection⟩ := by rw [hl]; exact hserved
  obtain ⟨t, hexec, hport, -, ht⟩ := exec_din_transfer hrx h hst h1 h16 (s.blocks.lane n).inToggle
    ((Blocks.dinTaken_new _ n _ bytes (Or.inl (by rw [hlane]; exact ⟨hst, hin⟩)) (by rw [hlane]; exact hst)
      (by rw [hlane]) (by rw [hlane]; exact hwithin)).trans hb)
  obtain ⟨hab, hsame, -⟩ := aborts_of_arrived ((s.blocks.arrived_heard n k).trans harr) hservedB ht
  have htl : t.blocks.lane n = (b.enterAborting n .halt).lane n := by rw [ht, Blocks.settled_lane]
  obtain ⟨mr, sa, st', tx', q', hspec⟩ := Blocks.enterAborting_lane_spec .halt hservedB
  rw [hspec, hl] at htl
  refine ⟨t, hexec, hport, hab, by rw [htl], by rw [htl], by rw [htl], ?_, fun hm => ?_, fun hq => ?_⟩
  · rw [htl]
    simp [Lane.dflags, hd]
  · rw [ht, Blocks.settled_lane]
    exact (b.enterAborting_idle .halt hservedB (by rw [hl]; exact hm)).2.2.1
  · rw [hsame, hctxs (by rw [hlane]; simpa [Lane.dflags, hd] using hq)]
    rfl

theorem din_noticed_duplicate (hlast : (s.blocks.lane n).lastIn = some bytes) (htm : (s.blocks.lane n).timer ≠ none) :
    ∃ t, exec (.frameDin n (s.blocks.unitOf k) (!(s.blocks.lane n).inToggle) bytes) s = .next t ∧ t.port = s.port
      ∧ elsewhere s t ∧ (t.blocks.lane n).state = .transfer ∧ (t.blocks.lane n).timer = (s.blocks.lane n).timer
      ∧ outgoing t n = outgoing s n ∧ t.blocks.ctxs = s.blocks.ctxs ∧ otherLanes s t n := by
  have hin : (s.blocks.lane n).dir = .inbound := by rw [Lane.dir, hd]; exact hdir
  obtain ⟨-, -, -, -, hnotice⟩ := id h
  obtain ⟨tx, q, hlane⟩ := s.blocks.heard_lane_spec n
  obtain ⟨t, hexec, hport, hp, ht⟩ := exec_din_transfer hrx h hst h1 h16 (!(s.blocks.lane n).inToggle)
    ((Blocks.dinTaken_duplicate _ n _ bytes (Or.inl (by rw [hlane]; exact ⟨hst, hin⟩)) (by rw [hlane]; simp)
      (by rw [hlane]; exact hlast)).trans (Blocks.haltIfTurn_pump _ n (Or.inl (by
        rw [hlane]
        simp [Lane.isLanesTurn, hst, htm]))))
  have hmem := (s.blocks.heard n).memOnly_transfer n (by rw [hlane]; exact hst)
    (by rw [hlane]; exact Or.inr (Or.inr hnotice))
  have harr := (s.blocks.arrived_heard n k).trans (hmem.arrived k)
  obtain ⟨mr, sa, st, hl⟩ := hmem.lane
  have htl : t.blocks.lane n = ((s.blocks.heard n).pump n).lane n := by rw [ht, Blocks.settled_lane]
  refine ⟨t, hexec, hport, elsewhere_of_local (k := k) (by rw [ht]; exact harr.toLocal.settled _) hp,
    by rw [htl, hl, hlane]; exact hst, by rw [htl, hl, hlane], ?_, ?_, ?_⟩
  · have hout := harr.sent.outgoing
    rw [List.append_nil] at hout
    simp only [outgoing, htl]
    exact hout
  · rw [ht]; exact hmem.ctxs
  · rw [otherLanes, ht]; exact harr.apart.settled _

end

end Sys2Proof.Machine

/-!
The closings, the timeout and the last stop bit under the halt notice (R116, R118, R168, R170).
-/
namespace Sys2Proof.Machine

open Sys2Proof.Claims

/-! ### WAIT -/

section
variable (b : Blocks) (n : LaneId)

theorem Blocks.waitTaken_transfer (hst : (b.lane n).state = .transfer) : b.waitTaken n = b.beginClosing n .detach := by
  simp [Blocks.waitTaken, Lane.inLinkData, hst]

/-- A WAIT of an OUT command with no memory work detaches the context at once (R116). -/
theorem Blocks.waitTaken_outbound (hst : (b.lane n).state = .transfer) (hdir : (b.lane n).dir = .outbound)
    (hm : (b.lane n).memReq = none) :
    b.waitTaken n = (b.modLane n (·.closingWith .detach)).detachContext n .resume := by
  rw [b.waitTaken_transfer n hst, b.beginClosing_ends n .detach hm (Or.inl hdir), Blocks.closingEnd_detach]
  · rw [Blocks.modLane_lane_same]; rfl
  · rw [Blocks.modLane_lane_same]
    exact fun ⟨hin, _⟩ => absurd (hdir.symm.trans hin) nofun

end

section
variable {s : State} {n : LaneId} {k : Slot} {d : Descriptor} (hrx : receiving s n) (h : haltNoticed s n k)
  (hst : (s.blocks.lane n).state = .transfer) (hd : (s.blocks.lane n).desc = some d) (hdir : d.dir = .outbound)
  (hm : (s.blocks.lane n).memReq = none)
include hrx h hst hd hdir hm

theorem wait_noticed : ∃ t, exec (.frameWait n (s.blocks.unitOf k)) s = .next t ∧ t.port = s.port ∧ elsewhere s t
    ∧ sendsFirst s t n (.desel (s.blocks.unitOf k)) ∧ (t.blocks.ctx k).state = .halting
    ∧ (t.blocks.ctx k).residual = (s.blocks.lane n).residual
    ∧ (t.blocks.lane n).haltList = (s.blocks.lane n).haltList ++ [k] ∧ otherCtxs s t k ∧ otherLanes s t n := by
  obtain ⟨hserved, -, hhalting, -, -⟩ := h
  obtain ⟨tx, q, hlane⟩ := s.blocks.heard_lane_spec n
  have hconn := Blocks.inConnection_served (s.blocks.heard n) n (s.blocks.unitOf k) (fun b => b.waitTaken n)
    (by rw [hlane]; exact Or.inr (Or.inl hst))
    (Blocks.servedUnit_eq (s.blocks.heard n) n k .connection (by rw [hlane]; exact hserved)).symm
  have hwait := (s.blocks.heard n).waitTaken_outbound n (by rw [hlane]; exact hst)
    (by rw [hlane, Lane.dir, hd]; exact hdir) (by rw [hlane]; exact hm)
  obtain ⟨t, hexec, hport, hp, ht⟩ := exec_frame (i := .frameWait n (s.blocks.unitOf k))
    (f := fun b => b.inConnection n (s.blocks.unitOf k) fun b => b.waitTaken n) hrx rfl (hconn.trans hwait)
  have harr := (s.blocks.arrived_heard n k).trans
    (Blocks.arrived_modLane n k (s.blocks.heard n) (·.closingWith .detach) rfl rfl rfl)
  have hl := (s.blocks.heard n).modLane_lane_same n (·.closingWith .detach)
  have hctx : ((s.blocks.heard n).modLane n (·.closingWith .detach)).ctx k = s.blocks.ctx k := rfl
  rw [hlane] at hl
  generalize (s.blocks.heard n).modLane n (·.closingWith .detach) = b at ht harr hl hctx
  obtain ⟨helse, hsend, hother, hlanes, -, hlist, htk⟩ :=
    detached_of_arrived harr (by rw [hl]; exact hserved) hp (by rw [hctx]; exact hhalting) ht
  refine ⟨t, hexec, hport, helse, hsend, ?_, by rw [htk, hl]; rfl, by rw [hlist, hl]; rfl, hother, hlanes⟩
  rw [htk, hctx]
  exact hhalting

end

/-! ### END -/

/-- The class an END of an OUT command names when only its own status and residual count. -/
theorem chooseClass_endNames (l : Lane) (status : Byte) (d : Descriptor) (link : Bool) (hd : l.desc = some d)
    (hdir : d.dir = .outbound) (hflags : d.flags = ⟨false, link, false, false, false⟩) (hlen : l.lengthCond = false) :
    (chooseClass (l.endNames status)).cls =
      if status.getLsbD 0 = true then .unitCheck else if status.getLsbD 1 = true then .unitException
      else if l.residual ≠ 0 then .length else .complete := by
  have hlength : ((l.endsShort || l.lengthCond) && !l.dflags.noLengthCheck) = decide (l.residual ≠ 0) := by
    simp [Lane.endsShort, Lane.testedResidual, Lane.dir, Lane.dflags, hd, hdir, hflags, hlen, Nat.pos_iff_ne_zero]
  rw [Lane.endNames, hlength]
  unfold statusClasses statusCheck statusException
  by_cases hr : l.residual = 0 <;> cases status.getLsbD 0 <;> cases status.getLsbD 1 <;> simp [hr] <;> rfl

section
variable {s : State} {n : LaneId} {k : Slot} {d : Descriptor} (hrx : receiving s n) (h : haltNoticed s n k)
  (hst : (s.blocks.lane n).state = .transfer) (hd : (s.blocks.lane n).desc = some d) (hdir : d.dir = .outbound)
  (hm : (s.blocks.lane n).memReq = none)
include hrx h hst hd hdir hm

theorem end_noticed (status : Byte) (link : Bool) (hv : status &&& 0xE0 = 0)
    (hflags : d.flags = ⟨false, link, false, false, false⟩) (hlen : (s.blocks.lane n).lengthCond = false) :
    ∃ t, exec (.frameEnd n (s.blocks.unitOf k) status) s = .next t ∧ t.port = s.port ∧ elsewhere s t
      ∧ sendsFirst s t n (.desel (s.blocks.unitOf k))
      ∧ reportedAs t k
          (if status.getLsbD 0 = true then .unitCheck else if status.getLsbD 1 = true then .unitException
            else if (s.blocks.lane n).residual ≠ 0 then .length else .complete)
      ∧ (t.blocks.ctx k).flags.haltRequested = (s.blocks.ctx k).flags.haltRequested
      ∧ (t.blocks.ctx k).residual = (s.blocks.lane n).residual ∧ otherCtxs s t k := by
  obtain ⟨hserved, hn, hhalting, -, -⟩ := h
  obtain ⟨t, b, hexec, hport, hp, harr, hservedB, hres, hctx, -, ht⟩ := exec_end_outbound (status := status) hrx hst hserved
    hd hdir (by rw [hflags]) (Or.inr hhalting) hm hv
  obtain ⟨helse, hsend, hother, -, -, l, hresl, htk⟩ := deselected_of_arrived harr hservedB hp hn (by
    rw [hctx]; exact fun hf => absurd (hhalting.symm.trans hf) nofun) ht
  refine ⟨t, hexec, hport, helse, hsend, reportedAs_of htk ?_, by rw [htk, hctx]; rfl, ?_, hother⟩
  · exact chooseClass_endNames _ status d link hd hdir hflags hlen
  · rw [htk]
    exact hresl.trans hres

end

/-! ### The timeout -/

theorem timeout_noticed (s : State) (n : LaneId) (k : Slot) (x : ResponseTimer) (l : Lane) (h : haltNoticed s n k)
    (hl : l = s.blocks.lane n)
    (hst : l.state = .commanding ∨ l.state = .transfer ∨ (l.state = .ending ∧ l.closing = none))
    (htm : l.timer = some x) (hx : x.limit ≤ x.count) :
    ∃ t, exec (.responseTimeout n) s = .next t ∧ t.port = s.port ∧ aborts s t n k .halt
      ∧ t.blocks.ctxs = s.blocks.ctxs := by
  subst hl
  obtain ⟨hserved, -, -, -, hnotice⟩ := h
  have hcl : (s.blocks.lane n).isClosing = false := by
    rcases hst with hst | hst | ⟨hst, hc⟩
    · simp [Lane.isClosing, hst]
    · simp [Lane.isClosing, hst]
    · simp [Lane.isClosing, hc]
  have htimed : s.blocks.timedOut n = s.blocks.linkError n := by
    rcases hst with hst | hst | ⟨hst, -⟩ <;> simp only [Blocks.timedOut, hst]
  obtain ⟨t, hexec, hport, -, ht⟩ := exec_timedOut htm hx (htimed.trans (s.blocks.linkError_noticed n hnotice hcl))
  obtain ⟨hab, hctxs, -⟩ := aborts_of_arrived (.refl n k s.blocks) hserved ht
  exact ⟨t, hexec, hport, hab, hctxs⟩

/-! ### The last stop bit of a DOUT -/

theorem Blocks.enterAborting_sent {b : Blocks} {n : LaneId} {k : Slot} (cause : AbortCause)
    (h : (b.lane n).served = some ⟨k, .connection⟩) :
    Lane.Sent (b.lane n) ((b.enterAborting n cause).lane n) [.abort (b.unitOf k)] := by
  obtain ⟨mr, sa, st, hd⟩ := b.abortDrops_lane n k cause
  obtain ⟨st', ha⟩ := Lane.aborted_spec ((b.abortDrops n k cause).lane n) cause
  rw [b.enterAborting_lane cause h]
  refine Lane.Sent.send (.of_wire ?_ ?_ ?_) _
  all_goals rw [ha, hd]

theorem Blocks.outFinished_noticed (b : Blocks) (n : LaneId) (hnote : (b.lane n).dflags.note = false)
    (hnotice : (b.lane n).haltNotice = true) : b.outFinished n = b.enterAborting n .halt := by
  simp [Blocks.outFinished, b.postNote_quiet n hnote, hnotice]

theorem Blocks.outGoesOn_noticed (b : Blocks) (n : LaneId) (hnotice : (b.lane n).haltNotice = true) :
    b.outGoesOn n = b.enterAborting n .halt := by
  simp [Blocks.outGoesOn, hnotice]

theorem dout_noticed (s : State) (n : LaneId) (k : Slot) (u : UnitAddr) (bytes : List Byte) (rate : Fin 4)
    (d : Descriptor) (l : Lane) (h : haltNoticed s n k) (hl : l = s.blocks.lane n) (hst : l.state = .transfer)
    (hd : l.desc = some d) (hnote : d.flags.note = false ∨ bytes.length < l.residual)
    (htx : l.tx = some ⟨.dout u l.outToggle bytes, rate⟩) (hq : l.txQueue = []) :
    ∃ t, exec (.frameSent n) s = .next t ∧ t.port = s.port ∧ (t.blocks.lane n).state = .aborting
      ∧ (t.blocks.lane n).abortCause = some .halt ∧ outgoing t n = [.abort (s.blocks.unitOf k)]
      ∧ (t.blocks.lane n).residual = l.residual - bytes.length ∧ (t.blocks.lane n).doutOwed = 0
      ∧ t.blocks.ctxs = s.blocks.ctxs ∧ otherLanes s t n := by
  subst hl
  obtain ⟨hserved, -, -, -, hnotice⟩ := h
  have hsent := s.blocks.frameSent_dout n u _ bytes rate htx hst
  obtain ⟨tx, q, hlane, hout⟩ := s.blocks.doutDone_lane n bytes.length
  have honly := s.blocks.laneOnly_doutDone n bytes.length
  generalize s.blocks.doutDone n bytes.length = b at hsent hlane hout honly
  have hnoticeB : (b.lane n).haltNotice = true := by rw [hlane]; exact hnotice
  have hservedB : (b.lane n).served = some ⟨k, .connection⟩ := by rw [hlane]; exact hserved
  have hab : s.blocks.frameSent n = b.enterAborting n .halt := by
    rw [hsent]
    split
    · refine b.outFinished_noticed n ?_ hnoticeB
      rw [hlane]
      simpa [Lane.dflags, hd] using hnote.resolve_right (by omega)
    · exact b.outGoesOn_noticed n hnoticeB
  have ht : (s.onBlocks fun b => b.frameSent n).blocks = s.blocks.settled (b.enterAborting n .halt) := by
    rw [State.onBlocks_blocks, hab]
  obtain ⟨mr, sa, st, tx', q', hspec⟩ := Blocks.enterAborting_lane_spec .halt hservedB
  have htl : (s.onBlocks fun b => b.frameSent n).blocks.lane n = (b.enterAborting n .halt).lane n := by
    rw [ht, Blocks.settled_lane]
  have hfields := htl.trans hspec
  refine ⟨s.onBlocks fun b => b.frameSent n, rfl, rfl, by rw [hfields], by rw [hfields], ?_, by rw [hfields, hlane],
    by rw [hfields], ?_, ?_⟩
  · have hsend := (Blocks.enterAborting_sent .halt hservedB).outgoing
    rw [hout, hq, (honly.toLocal k).toReach.unitOf, List.nil_append] at hsend
    simp only [outgoing, htl]
    exact hsend
  · rw [ht]
    exact (b.enterAborting_ctxs .halt hservedB).trans honly.ctxs
  · rw [otherLanes, ht]
    exact (honly.apart.trans (b.apart_enterAborting .halt hservedB)).settled _

/-! ### A staging read that ends the closing -/

/-- The blocks at which a staging read whose data is dropped has completed (R116, R144). -/
def Blocks.readDropped (b : Blocks) (n : LaneId) : Blocks := b.portNext.modLane n fun l => { l with memReq := none }

section
variable (b : Blocks) (n : LaneId)

theorem Blocks.readDropped_lane : (b.readDropped n).lane n = { b.lane n with memReq := none } := by
  rw [Blocks.readDropped, Blocks.modLane_lane_same, Blocks.portNext_lane]

theorem Blocks.readDropped_ctx (k : Slot) : (b.readDropped n).ctx k = b.ctx k := by simp [Blocks.readDropped, Blocks.ctx]

theorem Blocks.arrived_readDropped (k : Slot) : Blocks.Arrived n k b (b.readDropped n) :=
  Blocks.Arrived.trans (b := b.portNext)
    ⟨b.local_portNext k, .of_lanes n fun m => b.portNext_lane m, .of_eq (b.portNext_lane n)⟩
    (Blocks.arrived_modLane n k b.portNext (fun l => { l with memReq := none }) rfl rfl rfl)

/-- In a closing that waited for it alone, the completion of a dropped read ends the closing (R119, R170). -/
theorem Blocks.burstDone_closing {x : Txn} {m : LaneMem} {cl : Closing} {resps : List BusResp} {bytes : List Byte}
    (hx : b.mem.inflight = some x) (hlast : x.toIssue = []) (herr : x.error = false) (hdis : x.discard = false)
    (hwho : x.requester = .lane n) (ha : x.answeredBy resps bytes = true) (hok : burstSucceeds resps)
    (hst : (b.lane n).state = .ending) (hm : (b.lane n).memReq = some m) (hw : m.write = false)
    (hd : m.discard = true) (hheld : (b.lane n).staging.held = 0) (hcl : (b.lane n).closing = some cl) :
    b.burstDone resps bytes = (b.readDropped n).closingEnd n := by
  have hread : b.burstDone resps bytes = (b.readDropped n).pump n := by
    rw [b.burstDone_last x resps bytes hx ha hlast]
    simp only [Blocks.completeTxn, Txn.took, hwho, hdis, herr, Bool.false_or, isError_any_of_succeeds hok,
      Bool.false_eq_true, if_false, Blocks.laneMemDone, Blocks.portNext_lane, hm, hw, Blocks.readDone, hd, if_true]
    rfl
  rw [hread]
  simp [Blocks.pump, Blocks.readDropped_lane, hst, hcl, hheld]

/-- Under the halt notice a closing detaches, or deselects the unit and ends the context: LINK_CMD is not followed. -/
theorem Blocks.closingEnd_noticed {k : Slot} {cl : Closing} (hserved : (b.lane n).served = some ⟨k, .connection⟩)
    (hhalting : (b.ctx k).state = .halting) (hdir : (b.lane n).dir = .outbound) (hcl : (b.lane n).closing = some cl) :
    (cl = .detach ∧ b.closingEnd n = b.detachContext n .resume)
      ∨ ∃ named, b.closingEnd n = (b.sendDesel n).endServed n named
        ∧ (cl = .outcome named ∨ cl = .linkCommand ∧ named = []) := by
  cases cl with
  | detach =>
    refine Or.inl ⟨rfl, b.closingEnd_detach n hcl ?_⟩
    exact fun ⟨hin, _⟩ => absurd (hdir.symm.trans hin) nofun
  | linkCommand =>
    refine Or.inr ⟨[], ?_, Or.inr ⟨rfl, rfl⟩⟩
    simp [Blocks.closingEnd, hcl, b.servedHalting_eq n k _ hserved, hhalting]
  | outcome named => exact Or.inr ⟨named, b.closingEnd_outcome n named hcl, Or.inl rfl⟩

end

theorem read_ends_closing_noticed (s : State) (x : Txn) (n : LaneId) (k : Slot) (m : LaneMem) (half : Half) (d : Descriptor)
    (cl : Closing) (resps : List BusResp) (bytes : List Byte) (l : Lane) (hburst : lastBurst s x)
    (hwho : x.requester = .lane n) (hkind : x.req.kind = .dataRead half) (hans : answers x resps bytes)
    (hok : burstSucceeds resps) (h : haltNoticed s n k) (hl : l = s.blocks.lane n) (hst : l.state = .ending)
    (hd : l.desc = some d) (hdir : d.dir = .outbound) (hm : l.memReq = some m) (hw : m.write = false)
    (hdis : m.discard = true) (hheld : l.staging.held = 0) (hcl : l.closing = some cl) :
    ∃ t, exec (.memoryBurstResponse resps bytes) s = .next t ∧ t.port = s.port ∧ elsewhere s t
      ∧ sendsFirst s t n (.desel (s.blocks.unitOf k)) ∧ (t.blocks.lane n).memReq = none ∧ otherCtxs s t k
      ∧ otherLanes s t n
      ∧ (∀ c, cl = .outcome [⟨c, none⟩] → reportedAs t k c)
      ∧ (cl = .outcome [] ∨ cl = .linkCommand → reportedAs t k .complete)
      ∧ (cl = .detach → (t.blocks.ctx k).state = .halting ∧ (t.blocks.lane n).haltList = l.haltList ++ [k])
      ∧ (t.blocks.ctx k).flags.haltRequested = (s.blocks.ctx k).flags.haltRequested
      ∧ (t.blocks.ctx k).residual = l.residual := by
  subst hl
  obtain ⟨hserved, hn, hhalting, -, -⟩ := h
  obtain ⟨hx, hlast, herr, hxdis⟩ := hburst
  have ha : x.answeredBy resps bytes = true := by
    simp only [answers, hkind] at hans
    simp [Txn.answeredBy, Txn.isWrite, hkind, hans]
  have hdone := s.blocks.burstDone_closing n hx hlast herr hxdis hwho ha hok hst hm hw hdis hheld hcl
  have harr := s.blocks.arrived_readDropped n k
  have hlane := s.blocks.readDropped_lane n
  have hctx := s.blocks.readDropped_ctx n k
  generalize s.blocks.readDropped n = b at hdone harr hlane hctx
  have hservedB : (b.lane n).served = some ⟨k, .connection⟩ := by rw [hlane]; exact hserved
  have hexec : ∀ c, b.closingEnd n = c → Blocks.Local k b c → ∃ t, exec (.memoryBurstResponse resps bytes) s = .next t
      ∧ t.port = s.port ∧ t.pending = s.pending ∧ t.blocks = s.blocks.settled c := fun c hc hloc => by
    refine ⟨s.onBlocks fun b => b.burstDone resps bytes, ?_, rfl, rfl, by rw [State.onBlocks_blocks, hdone, hc]⟩
    rw [← s.onBlocksAsking_of_unasked _ (by
      rw [hdone, hc, (harr.toLocal.trans hloc).window]
      exact id)]
    rfl
  rcases b.closingEnd_noticed n hservedB (by rw [hctx]; exact hhalting) (by rw [hlane, Lane.dir, hd]; exact hdir)
    (by rw [hlane]; exact hcl) with ⟨rfl, hc⟩ | ⟨named, hc, hcase⟩
  · obtain ⟨t, hexec, hport, hp, ht⟩ := hexec _ hc (Blocks.local_detachContext .resume hservedB)
    obtain ⟨helse, hsend, hother, hlanes, hmem, hlist, htk⟩ :=
      detached_of_arrived harr hservedB hp (by rw [hctx]; exact hhalting) ht
    refine ⟨t, hexec, hport, helse, hsend, by rw [hmem, hlane], hother, hlanes, nofun, nofun, fun _ => ⟨?_, ?_⟩, ?_, ?_⟩
    · rw [htk, hctx]; exact hhalting
    · rw [hlist, hlane]
    · rw [htk, hctx]; rfl
    · rw [htk, hlane]; rfl
  · obtain ⟨t, hexec, hport, hp, ht⟩ := hexec _ hc (Blocks.local_deselEnd named hservedB)
    obtain ⟨helse, hsend, hother, hlanes, hmem, l, hres, htk⟩ := deselected_of_arrived harr hservedB hp hn (by
      rw [hctx]; exact fun hf => absurd (hhalting.symm.trans hf) nofun) ht
    refine ⟨t, hexec, hport, helse, hsend, by rw [hmem, hlane], hother, hlanes, fun c hc => ?_, fun hc => ?_, fun hc => ?_,
      by rw [htk, hctx]; rfl, ?_⟩
    · obtain rfl : named = [⟨c, none⟩] := by
        rcases hcase with h | ⟨h, -⟩
        · exact Closing.outcome.inj (h.symm.trans hc)
        · exact absurd (h.symm.trans hc) nofun
      exact reportedAs_of htk rfl
    · obtain rfl : named = [] := by
        rcases hcase with h | ⟨-, h⟩
        · rcases hc with hc | hc
          · exact Closing.outcome.inj (h.symm.trans hc)
          · exact absurd (h.symm.trans hc) nofun
        · exact h
      exact reportedAs_of htk rfl
    · rcases hcase with h | ⟨h, -⟩
      · exact absurd (h.symm.trans hc) nofun
      · exact absurd (h.symm.trans hc) nofun
    · rw [htk]
      show l.residual = _
      rw [hres, hlane]

/-- Settles O43, one lemma for each row of TABLE 54. -/
theorem theHaltNoticeDecidesTheNextFrame : Obligations.TheHaltNoticeDecidesTheNextFrame := by
  refine ⟨fun s n k status hrx h hst hv => ⟨acpt_noticed_clean hrx h hst hv, acpt_noticed_busy hrx h hst hv,
      acpt_noticed_ends hrx h hst hv⟩, need_noticed, ?_, ?_, timeout_noticed,
    fun s n k u bytes rate d l h hl hst hd _ => dout_noticed s n k u bytes rate d l h hl hst hd, read_ends_closing_noticed⟩
  · rintro s n k bytes d l hrx h rfl hst hd hdir h1 h16
    exact ⟨din_noticed hrx h hst hd hdir h1 h16, din_noticed_duplicate hrx h hst hd hdir h1 h16⟩
  · rintro s n k d l hrx h rfl hst hd hdir hm
    exact ⟨wait_noticed hrx h hst hd hdir hm, end_noticed hrx h hst hd hdir hm⟩

end Sys2Proof.Machine

/-!
Frames in the states that do not take them: strays, and those discarded in L_ABORTING (R82, TABLE 38).
-/
namespace Sys2Proof.Machine

open Sys2Proof.Claims

/-! ### A frame of any kind -/

/-- What taking the frame does, at the blocks at which the receiver listens again. -/
def UnitFrame.act (n : LaneId) : UnitFrame → Blocks → Blocks
  | .echo a, b => b.echoFrame n a
  | .acpt a status, b => b.acptFrame n a status
  | .din a toggle bytes, b => b.inConnection n a fun b => b.dinTaken n toggle bytes
  | .need a chunks, b => b.inConnection n a fun b => b.needTaken n chunks
  | .wait a, b => b.inConnection n a fun b => b.waitTaken n
  | .endFrame a status, b => b.endFrame n a status
  | .attn a reason status, b => b.attnFrame n a reason status

/-- A well-formed frame does what `UnitFrame.act` says, and asks for no permit. -/
theorem exec_command {s : State} {n : LaneId} {f : UnitFrame} {c : Blocks} (hrx : receiving s n) (hwf : f.wf = true)
    (hc : f.act n (s.blocks.heard n) = c) (hw : c.window.asked = true → s.blocks.window.asked = true) :
    ∃ t, exec (f.command n) s = .next t ∧ t.port = s.port ∧ t.pending = s.pending
      ∧ t.blocks = s.blocks.settled c := by
  cases f with
  | echo a => exact exec_frame_unasked (f := fun b => b.echoFrame n a) hrx rfl hc hw
  | acpt a status => exact exec_frame (f := fun b => b.acptFrame n a status) hrx (by rw [← hwf]; rfl) hc
  | din a toggle bytes =>
    obtain ⟨h1, h16⟩ := Bool.and_eq_true_iff.mp hwf
    have hlost : decide (16 < bytes.length) = false := by simpa using h16
    exact exec_frame (f := fun b => b.inConnection n a fun b => b.dinTaken n toggle bytes) hrx
      (by rw [← hwf, ← hlost]; rfl) hc
  | need a chunks =>
    exact exec_frame (f := fun b => b.inConnection n a fun b => b.needTaken n chunks) hrx (by rw [← hwf]; rfl) hc
  | wait a => exact exec_frame (f := fun b => b.inConnection n a fun b => b.waitTaken n) hrx rfl hc
  | endFrame a status => exact exec_frame (f := fun b => b.endFrame n a status) hrx (by rw [← hwf]; rfl) hc
  | attn a reason status =>
    exact exec_frame_unasked (f := fun b => b.attnFrame n a reason status) hrx (by rw [← hwf]; rfl) hc hw

/-- The lane's receiver listens again: the statements' word for `Lane.endReception`. -/
theorem heard_eq (l : Lane) : Claims.heard l = l.endReception .listening := by
  cases htx : l.tx with
  | some x => simp [Claims.heard, Lane.endReception, Lane.drive, htx]
  | none => cases hq : l.txQueue <;> simp [Claims.heard, Lane.endReception, Lane.drive, htx, hq, Receiver.isAssembling]

section
variable (b : Blocks) (n : LaneId)

theorem Blocks.frameStatus_untaken (u : UnitAddr) (status : Byte) (h : (b.lane n).state.takesFrames = false) :
    b.frameStatus n u status = b := by
  simp [Blocks.frameStatus, h]

/-! ### Strays -/

theorem Blocks.inConnection_stray (u : UnitAddr) (act : Blocks → Blocks)
    (h : (b.lane n).state = .idle ∨ (b.lane n).state = .polling ∨ (b.lane n).state = .selecting ∨
      (b.lane n).state = .fault) : b.inConnection n u act = b.modLane n (·.stray) := by
  rcases h with h | h | h | h <;> simp only [Blocks.inConnection, h]

theorem UnitFrame.act_stray (f : UnitFrame) (h : strayIn (b.lane n).state f) : f.act n b = b.modLane n (·.stray) := by
  have hst : (b.lane n).state = .idle ∨ (b.lane n).state = .polling ∨ (b.lane n).state = .selecting ∨
      (b.lane n).state = .fault := by
    cases hs : (b.lane n).state <;> simp [hs, strayIn] at h ⊢
  have htakes : (b.lane n).state.takesFrames = false := by rcases hst with h | h | h | h <;> rw [h] <;> rfl
  have hconn := fun u act => b.inConnection_stray n u act hst
  cases f with
  | echo a =>
    have hsel : (b.lane n).state ≠ .selecting := fun hs => by
      rw [hs] at h
      exact h a rfl
    exact (if_neg hsel).trans (hconn _ _)
  | acpt a status =>
    simp only [UnitFrame.act, Blocks.acptFrame, b.frameStatus_untaken n a status htakes]
    exact hconn _ _
  | din a toggle bytes => simp only [UnitFrame.act, hconn]
  | need a chunks => simp only [UnitFrame.act, hconn]
  | wait a => simp only [UnitFrame.act, hconn]
  | endFrame a status =>
    have hab : (b.lane n).state ≠ .aborting := fun hs => by
      rw [hs] at h
      exact h
    simp only [UnitFrame.act, Blocks.endFrame, b.frameStatus_untaken n a status htakes]
    exact (if_neg hab).trans (hconn _ _)
  | attn a reason status =>
    have hpoll : (b.lane n).state ≠ .polling := fun hs => by
      rw [hs] at h
      exact h a reason status rfl
    exact (if_neg hpoll).trans (hconn _ _)

/-! ### Frames discarded in L_ABORTING -/

theorem UnitFrame.act_discarded (k : Slot) (f : UnitFrame) (hst : (b.lane n).state = .aborting)
    (hserved : (b.lane n).served = some ⟨k, .connection⟩)
    (hend : ∀ status, f = .endFrame (b.unitOf k) status → (b.lane n).abortPhase ≠ .awaiting) : f.act n b = b := by
  have hconn : ∀ u act, b.inConnection n u act = b := fun u act => by simp only [Blocks.inConnection, hst]
  cases f with
  | echo a => exact (if_neg (by rw [hst]; nofun)).trans (hconn _ _)
  | acpt a status =>
    simp only [UnitFrame.act, Blocks.acptFrame, b.frameStatus_untaken n a status (by rw [hst]; rfl)]
    exact hconn _ _
  | din a toggle bytes => simp only [UnitFrame.act, hconn]
  | need a chunks => simp only [UnitFrame.act, hconn]
  | wait a => simp only [UnitFrame.act, hconn]
  | endFrame a status =>
    refine (if_pos hst).trans (if_neg fun ⟨ha, hphase⟩ => ?_)
    exact hend status (by rw [ha, b.servedUnit_eq n k _ hserved]) hphase
  | attn a reason status => exact (if_neg (by rw [hst]; nofun)).trans (hconn _ _)

end

/-- A frame that changes its lane alone, to `l`. -/
theorem exec_command_lane {s : State} {n : LaneId} {f : UnitFrame} {c : Blocks} {l : Lane} (hrx : receiving s n)
    (hwf : f.wf = true) (hc : f.act n (s.blocks.heard n) = c) (honly : Blocks.LaneOnly n (s.blocks.heard n) c)
    (hl : c.lane n = l) :
    ∃ t, exec (f.command n) s = .next t ∧ t.port = s.port ∧ elsewhere s t ∧ t.blocks.lane n = l ∧ otherLanes s t n
      ∧ sameTables s t := by
  have hall := (s.blocks.laneOnly_heard n).trans honly
  obtain ⟨t, hexec, hport, hp, ht⟩ := exec_command hrx hwf hc (by rw [hall.window]; exact id)
  obtain ⟨helse, htables, hlanes⟩ := laneOnly_claims hall ht hp
  exact ⟨t, hexec, hport, helse, by rw [ht, Blocks.settled_lane, hl], hlanes, htables⟩

theorem frame_stray (s : State) (n : LaneId) (f : UnitFrame) (hrx : receiving s n) (hwf : f.wf = true)
    (h : strayIn (s.blocks.lane n).state f) :
    ∃ t, exec (f.command n) s = .next t ∧ t.port = s.port ∧ elsewhere s t
      ∧ t.blocks.lane n = { Claims.heard (s.blocks.lane n) with strayFrame := true } ∧ otherLanes s t n
      ∧ sameTables s t := by
  obtain ⟨tx, q, hlane⟩ := s.blocks.heard_lane_spec n
  refine exec_command_lane hrx hwf (f.act_stray _ n (by rw [hlane]; exact h)) (Blocks.laneOnly_modLane _ n _) ?_
  rw [Blocks.modLane_lane_same, Blocks.heard_lane, heard_eq]
  rfl

theorem frame_discarded (s : State) (n : LaneId) (k : Slot) (f : UnitFrame) (hrx : receiving s n) (hwf : f.wf = true)
    (hst : (s.blocks.lane n).state = .aborting) (hserved : serving s n k)
    (hend : ∀ status, f = .endFrame (s.blocks.unitOf k) status → (s.blocks.lane n).abortPhase ≠ .awaiting) :
    ∃ t, exec (f.command n) s = .next t ∧ t.port = s.port ∧ elsewhere s t
      ∧ t.blocks.lane n = Claims.heard (s.blocks.lane n) ∧ otherLanes s t n ∧ sameTables s t := by
  obtain ⟨tx, q, hlane⟩ := s.blocks.heard_lane_spec n
  refine exec_command_lane hrx hwf (f.act_discarded _ n k (by rw [hlane]; exact hst) (by rw [hlane]; exact hserved) ?_)
    (.refl n _) ?_
  · rw [hlane]; exact hend
  · rw [Blocks.heard_lane, heard_eq]

end Sys2Proof.Machine

/-!
Link errors: frames a connection does not take (R120, R169, TABLE 38).
-/
namespace Sys2Proof.Machine

open Sys2Proof.Claims

/-- The states of a connection in which a frame may be a link error. -/
def LaneState.connects (st : LaneState) : Prop :=
  st = .permitWait ∨ st = .commanding ∨ st = .transfer ∨ st = .linkFetch ∨ st = .ending

theorem LaneState.connects_takes {st : LaneState} (h : st.connects) : st.takesFrames = true := by
  rcases h with h | h | h | h | h <;> rw [h] <;> rfl

theorem Lane.inLinkData_iff (l : Lane) (d : Descriptor) (hd : l.desc = some d) :
    l.inLinkData = true ↔ l.state = .linkFetch ∧ d.flags.linkData = true := by
  simp [Lane.inLinkData, Lane.dflags, hd]

theorem Lane.awaitsEnd_iff (l : Lane) : l.awaitsEnd = true ↔ l.state = .ending ∧ l.closing = none := by
  simp [Lane.awaitsEnd]

section
variable (b : Blocks) (n : LaneId)

/-- In a connection a frame is a link error in L_PERMIT_WAIT, from another address, or where `act` makes it one. -/
theorem Blocks.inConnection_error (u : UnitAddr) (act : Blocks → Blocks) (hst : (b.lane n).state.connects)
    (h : u = b.servedUnit n → act b = b.linkError n) : b.inConnection n u act = b.linkError n := by
  by_cases hu : u = b.servedUnit n
  · rcases hst with hst | hst | hst | hst | hst <;> simp only [Blocks.inConnection, hst, if_pos hu, h hu]
  · rcases hst with hst | hst | hst | hst | hst <;> simp only [Blocks.inConnection, hst, if_neg hu]

variable {d : Descriptor} (hd : (b.lane n).desc = some d)
include hd

/-! ### The frames TABLE 38 does not give for the state -/

theorem Blocks.needTaken_error (u : UnitAddr) (chunks : Nat) (h : ¬expected (b.lane n) d (.need u chunks)) :
    b.needTaken n chunks = b.linkError n := by
  simp only [expected, not_or] at h
  obtain ⟨htransfer, hlink, hend⟩ := h
  by_cases hst : (b.lane n).state = .transfer
  · cases hdir : d.dir with
    | outbound =>
      have howed : (b.lane n).doutOwed ≠ 0 := fun ho => htransfer ⟨hst, fun _ => ho, by rw [hdir]; nofun⟩
      simp [Blocks.needTaken, hst, Lane.dir, hd, hdir, Blocks.needOut, howed]
    | inbound =>
      have hcredit : (b.lane n).credit ≠ [] := fun hc => htransfer ⟨hst, by rw [hdir]; nofun, fun _ => hc⟩
      simp [Blocks.needTaken, hst, Lane.dir, hd, hdir, Blocks.needIn, hcredit]
    | noData => exact absurd ⟨hst, by rw [hdir]; nofun, by rw [hdir]; nofun⟩ htransfer
  · have h1 := mt ((b.lane n).inLinkData_iff d hd).mp hlink
    have h2 := mt (b.lane n).awaitsEnd_iff.mp hend
    simp [Blocks.needTaken, hst, h1, h2]

theorem Blocks.waitTaken_error (u : UnitAddr) (h : ¬expected (b.lane n) d (.wait u)) :
    b.waitTaken n = b.linkError n := by
  simp only [expected, not_or] at h
  obtain ⟨hst, hlink, hend⟩ := h
  have h1 := mt ((b.lane n).inLinkData_iff d hd).mp hlink
  have h2 := mt (b.lane n).awaitsEnd_iff.mp hend
  simp [Blocks.waitTaken, hst, h1, h2]

theorem Blocks.endTaken_unexpected (u : UnitAddr) (status : Byte) (h : ¬expected (b.lane n) d (.endFrame u status)) :
    ¬((b.lane n).state = .transfer ∨ (b.lane n).inLinkData = true ∨ (b.lane n).awaitsEnd = true) := by
  simp only [expected, not_or] at h
  obtain ⟨hst, hlink, hend⟩ := h
  have h1 := mt ((b.lane n).inLinkData_iff d hd).mp hlink
  have h2 := mt (b.lane n).awaitsEnd_iff.mp hend
  simp [hst, h1, h2]

theorem Blocks.dinTaken_error (u : UnitAddr) (toggle : Bool) (bytes : List Byte)
    (h : ¬expected (b.lane n) d (.din u toggle bytes)) : b.dinTaken n toggle bytes = b.linkError n := by
  simp only [expected, not_or] at h
  obtain ⟨hnew, hdup⟩ := h
  by_cases hin : ((b.lane n).state = .transfer ∧ (b.lane n).dir = .inbound) ∨ (b.lane n).inLinkData = true
  · have hin' : ((b.lane n).state = .transfer ∧ d.dir = .inbound) ∨
        ((b.lane n).state = .linkFetch ∧ d.flags.linkData = true) := by
      rw [← (b.lane n).inLinkData_iff d hd]
      simpa [Lane.dir, hd] using hin
    simp only [Blocks.dinTaken, if_pos hin, Lane.judgeDin]
    by_cases ht : toggle = (b.lane n).inToggle
    · simp only [if_pos ht]
      refine if_neg fun ⟨hst, hw⟩ => hnew ⟨hst, ?_, ht, ?_⟩
      · rcases hin' with ⟨-, hdir⟩ | ⟨hlf, -⟩
        · exact hdir
        · exact absurd (hst.symm.trans hlf) nofun
      · unfold Lane.withinCredit at hw
        split at hw
        · rename_i c rest hc
          exact ⟨c, by rw [hc]; rfl, of_decide_eq_true hw⟩
        · cases hw
    · simp only [if_neg ht]
      have hl : (b.lane n).lastIn ≠ some bytes := fun hl => hdup ⟨ht, hl, hin'⟩
      simp only [if_neg hl]
  · simp only [Blocks.dinTaken, if_neg hin]

end

/-! ### A link error of any kind -/

/-- What a frame that is a link error leads to: the error is at blocks that hold the status the frame may carry. -/
def UnitFrame.errsAt (f : UnitFrame) (n : LaneId) (k : Slot) (b c : Blocks) : Prop :=
  f.act n b = c.linkError n ∧ Blocks.Arrived n k b c ∧ c.lane n = b.lane n
    ∧ c.ctx k = afterStatus (b.ctx k) (b.unitOf k) f

section
variable (b : Blocks) (n : LaneId) (k : Slot) (hst : (b.lane n).state.connects)
  (hserved : (b.lane n).served = some ⟨k, .connection⟩)
include hst hserved

/-- A frame that carries a status, taken by `act` once that has been recorded. -/
theorem Blocks.statusFrame_error (u : UnitAddr) (status : Byte) (act : Blocks → Blocks)
    (h : u = b.unitOf k → ∀ c : Blocks, c.lane n = b.lane n → act c = c.linkError n) :
    ∃ c, (b.frameStatus n u status).inConnection n u act = c.linkError n ∧ Blocks.Arrived n k b c
      ∧ c.lane n = b.lane n ∧ c.ctx k = if u = b.unitOf k then recorded (b.ctx k) status else b.ctx k := by
  by_cases hu : u = b.unitOf k
  · refine ⟨b.modCtx k (·.takeStatus status), ?_, b.arrived_takeStatus n k status, rfl, ?_⟩
    · rw [hu, b.frameStatus_served n k status hserved (LaneState.connects_takes hst)]
      exact Blocks.inConnection_error _ n _ act hst fun _ => h hu _ rfl
    · rw [Blocks.modCtx_ctx_same, if_pos hu]
      rfl
  · have hunit : (u == b.servedUnit n) = false := by
      rw [b.servedUnit_eq n k _ hserved]
      exact beq_eq_false_iff_ne.mpr hu
    refine ⟨b, ?_, .refl n k b, rfl, (if_neg hu).symm⟩
    have hsame : b.frameStatus n u status = b := by
      simp only [Blocks.frameStatus, hunit, Bool.and_false, Bool.false_eq_true, if_false]
    rw [hsame]
    exact b.inConnection_error n u act hst fun hs => absurd (hs.trans (b.servedUnit_eq n k _ hserved)) hu

/-- A frame out of its place is a link error. -/
theorem UnitFrame.act_error (f : UnitFrame) (d : Descriptor) (hd : (b.lane n).desc = some d)
    (h : ¬(frameAddr f = b.unitOf k ∧ expected (b.lane n) d f)) : ∃ c, f.errsAt n k b c := by
  have hunit : b.servedUnit n = b.unitOf k := b.servedUnit_eq n k _ hserved
  have hexp : frameAddr f = b.unitOf k → ¬expected (b.lane n) d f := fun ha he => h ⟨ha, he⟩
  have hplain : f.act n b = b.linkError n → afterStatus (b.ctx k) (b.unitOf k) f = b.ctx k → ∃ c, f.errsAt n k b c :=
    fun hact hctx => ⟨b, hact, .refl n k b, rfl, hctx.symm⟩
  cases f with
  | echo a =>
    refine hplain ((if_neg fun hs => ?_).trans (b.inConnection_error n a _ hst fun _ => rfl)) rfl
    rw [hs] at hst
    simp [LaneState.connects] at hst
  | acpt a status =>
    refine b.statusFrame_error n k hst hserved a status
      (fun b => if (b.lane n).state = .commanding then b.acptTaken n status else b.linkError n) fun ha c hc => if_neg ?_
    rw [hc]
    exact hexp ha
  | din a toggle bytes =>
    exact hplain (b.inConnection_error n a (fun b => b.dinTaken n toggle bytes) hst fun ha =>
      b.dinTaken_error n hd a toggle bytes (hexp (ha.trans hunit))) rfl
  | need a chunks =>
    exact hplain (b.inConnection_error n a (fun b => b.needTaken n chunks) hst fun ha =>
      b.needTaken_error n hd a chunks (hexp (ha.trans hunit))) rfl
  | wait a =>
    exact hplain (b.inConnection_error n a (fun b => b.waitTaken n) hst fun ha =>
      b.waitTaken_error n hd a (hexp (ha.trans hunit))) rfl
  | endFrame a status =>
    obtain ⟨c, hc, hrest⟩ := b.statusFrame_error n k hst hserved a status
      (fun c => if (b.lane n).state = .transfer ∨ (b.lane n).inLinkData ∨ (b.lane n).awaitsEnd then c.endTaken n status
        else c.linkError n) fun ha _ _ => if_neg (b.endTaken_unexpected n hd a status (hexp ha))
    refine ⟨c, (if_neg fun hs => ?_).trans hc, hrest⟩
    rw [hs] at hst
    simp [LaneState.connects] at hst
  | attn a reason status =>
    refine hplain ((if_neg fun hs => ?_).trans (b.inConnection_error n a _ hst fun _ => rfl)) rfl
    rw [hs] at hst
    simp [LaneState.connects] at hst

end

theorem Lane.isClosing_iff (l : Lane) : l.isClosing = true ↔ l.state = .ending ∧ l.closing ≠ none := by
  simp [Lane.isClosing, Option.isSome_iff_ne_none]

/-- The cause of a link error (R120, R169, R170). -/
theorem Blocks.linkError_cause (b : Blocks) (n : LaneId) : b.linkError n = b.enterAborting n
    (if (b.lane n).haltNotice = true ∧ ¬((b.lane n).state = .ending ∧ (b.lane n).closing ≠ none) then .halt
      else .linkError) := by
  refine congrArg (b.enterAborting n) (if_congr ?_ rfl rfl)
  rw [Bool.and_eq_true, Bool.not_eq_true', ← Bool.not_eq_true, Lane.isClosing_iff]

theorem frame_link_error (s : State) (n : LaneId) (k : Slot) (d : Descriptor) (f : UnitFrame) (l : Lane)
    (hrx : receiving s n) (hwf : f.wf = true) (hserved : serving s n k) (hl : l = s.blocks.lane n) (hd : l.desc = some d)
    (hst : l.state = .permitWait ∨ l.state = .commanding ∨ l.state = .transfer ∨ l.state = .linkFetch ∨ l.state = .ending)
    (h : ¬(frameAddr f = s.blocks.unitOf k ∧ expected l d f)) :
    ∃ t, exec (f.command n) s = .next t ∧ t.port = s.port
      ∧ aborts s t n k
          (if l.haltNotice = true ∧ ¬(l.state = .ending ∧ l.closing ≠ none) then .halt else .linkError)
      ∧ t.blocks.ctx k = afterStatus (s.blocks.ctx k) (s.blocks.unitOf k) f ∧ otherCtxs s t k
      ∧ (l.memReq = none → ∀ h, (t.blocks.lane n).staging.get h = []) := by
  subst hl
  obtain ⟨tx, q, hlane⟩ := s.blocks.heard_lane_spec n
  obtain ⟨b, hact, harr, hb, hctx⟩ := f.act_error (s.blocks.heard n) n k (by rw [hlane]; exact hst)
    (by rw [hlane]; exact hserved) d (by rw [hlane]; exact hd) (by rw [hlane]; exact h)
  rw [hlane] at hb
  have hservedB : (b.lane n).served = some ⟨k, .connection⟩ := by rw [hb]; exact hserved
  generalize hcause : (if (s.blocks.lane n).haltNotice = true ∧
    ¬((s.blocks.lane n).state = .ending ∧ (s.blocks.lane n).closing ≠ none) then AbortCause.halt else .linkError) = cause
  have herr : b.linkError n = b.enterAborting n cause := by
    rw [← hcause, b.linkError_cause n, hb]
  have harr' := (s.blocks.arrived_heard n k).trans harr
  obtain ⟨t, hexec, hport, -, ht⟩ := exec_command hrx hwf (hact.trans herr) (fun ha => by
    rw [b.enterAborting_window _ hservedB] at ha
    have h1 := b.leavePermit_asked n ha
    rwa [harr'.toLocal.window] at h1)
  obtain ⟨hab, hctxs, hother⟩ := aborts_of_arrived harr' hservedB ht
  refine ⟨t, hexec, hport, hab, ?_, hother, fun hm => ?_⟩
  · have hsame : t.blocks.ctx k = b.ctx k := by simp only [Blocks.ctx, hctxs]
    exact hsame.trans hctx
  · rw [ht, Blocks.settled_lane]
    exact (b.enterAborting_idle cause hservedB (by rw [hb]; exact hm)).2.2.2

end Sys2Proof.Machine

/-!
Malformed frames, and the memory work given up at a response timeout (R80, R120, R124, R138).
-/
namespace Sys2Proof.Machine

open Sys2Proof.Claims

/-! ### A malformed frame -/

/-- Without the halt notice the lane only goes on. -/
theorem Blocks.haltIfTurn_unnoticed (b : Blocks) (n : LaneId) (h : (b.lane n).haltNotice = false) :
    b.haltIfTurn n = b.pump n := by
  simp [Blocks.haltIfTurn, h]

/-- The lane's end of the pair as a reception ends, of whatever kind. -/
theorem Lane.endReception_any (l : Lane) (rx : Receiver) : ∃ tx q, l.endReception rx =
    { l with rx := rx, tx := tx, txQueue := q } := by
  rw [Lane.endReception_spec]
  exact ⟨_, _, rfl⟩

/-- Where nothing is closing and no abort has been confirmed, going on asks the memory port and sends, no more. -/
theorem Blocks.pumped_waiting (b : Blocks) (n : LaneId)
    (h : (b.lane n).state = .transfer ∨ (b.lane n).state = .linkFetch ∨
      ((b.lane n).state = .ending ∧ ((b.lane n).closing = none ∨ (b.lane n).memReq ≠ none)) ∨
      ((b.lane n).state = .aborting ∧ (b.lane n).abortPhase = .awaiting)) : Blocks.Pumped n b (b.pump n) := by
  rcases h with h | h | ⟨h, hc⟩ | ⟨h, hp⟩
  · exact b.pumped_transfer n h
  · have hself : b.pump n = b := by simp only [Blocks.pump, h]
    rw [hself]
    exact .refl n b
  · exact (b.memOnly_ending n h hc).pumped
  · rw [b.pump_awaiting n h hp]
    exact .refl n b

theorem malformed_waits (s : State) (n : LaneId) (k : Slot) (check : FrameCheck) (above16 : Bool) (hrx : receiving s n)
    (hserved : serving s n k) (hnotice : (s.blocks.lane n).haltNotice = false)
    (hst : (s.blocks.lane n).state = .transfer ∨ (s.blocks.lane n).state = .linkFetch ∨
      ((s.blocks.lane n).state = .ending ∧ ((s.blocks.lane n).closing = none ∨ (s.blocks.lane n).memReq ≠ none)) ∨
      ((s.blocks.lane n).state = .aborting ∧ (s.blocks.lane n).abortPhase = .awaiting)) :
    ∃ t, exec (.frameMalformed n check above16) s = .next t ∧ t.port = s.port ∧ elsewhere s t ∧ otherLanes s t n
      ∧ (t.blocks.lane n).state = (s.blocks.lane n).state ∧ (t.blocks.lane n).timer = (s.blocks.lane n).timer
      ∧ (t.blocks.lane n).abortCause = (s.blocks.lane n).abortCause ∧ serving t n k
      ∧ t.blocks.ctxs = s.blocks.ctxs := by
  generalize hf : (if losesFooting check above16 = true then Receiver.lostFooting else .listening) = rx
  obtain ⟨tx, q, hl⟩ := (s.blocks.lane n).endReception_any rx
  have hdiscard : s.blocks.discardFrame n (losesFooting check above16) =
      (s.blocks.modLane n (·.endReception rx)).haltIfTurn n := by
    rw [← hf]
    exact if_pos hrx
  have honly := s.blocks.laneOnly_modLane n (·.endReception rx)
  have hlane := s.blocks.modLane_lane_same n (·.endReception rx)
  rw [hl] at hlane
  generalize s.blocks.modLane n (·.endReception rx) = b at hdiscard honly hlane
  have hpump := b.pumped_waiting n (by rw [hlane]; exact hst)
  rw [b.haltIfTurn_unnoticed n (by rw [hlane]; exact hnotice)] at hdiscard
  obtain ⟨mr, sa, st, cr, hn, tx', q', hfin⟩ := hpump.lane
  have ht : (s.onBlocks fun b => b.discardFrame n (losesFooting check above16)).blocks =
      s.blocks.settled (b.pump n) := by
    rw [State.onBlocks_blocks, hdiscard]
  have htl : (s.onBlocks fun b => b.discardFrame n (losesFooting check above16)).blocks.lane n = (b.pump n).lane n := by
    rw [ht, Blocks.settled_lane]
  rw [hfin, hlane] at htl
  refine ⟨s.onBlocks fun b => b.discardFrame n (losesFooting check above16), rfl, rfl,
    elsewhere_of_local (k := k) (by rw [ht]; exact ((honly.toLocal k).trans (hpump.toLocal k)).settled _) rfl, ?_,
    by rw [htl], by rw [htl], by rw [htl], by rw [serving, htl]; exact hserved, ?_⟩
  · rw [otherLanes, ht]; exact (honly.apart.trans hpump.apart).settled _
  · rw [ht]
    exact hpump.ctxs.trans honly.ctxs

/-! ### What a link error leaves of the memory request (R120, R138) -/

section
variable {b : Blocks} {n : LaneId} {k : Slot} (hother : ∀ f, b.fetch = some f → f.slot ≠ k)
include hother

/-- Another slot's fetch is left, and with it the port. -/
theorem Blocks.abortDrops_claimless : ∃ c : Blocks, b.abortDrops n k .linkError = (c.dropRead n).dropWrite n
    ∧ c.mem = b.mem ∧ c.lane n = b.lane n := by
  refine ⟨(b.leavePermit n).withdrawFetch k, rfl, ?_, by simp⟩
  rw [Blocks.withdrawFetch_other (b.leavePermit n) k hother]
  rfl

variable (m : LaneMem) (hm : (b.lane n).memReq = some m) (hd : m.discard = false)
include hm hd

/-- A request that waits is withdrawn; the staging address of a read falls back by its bytes. -/
theorem Blocks.abortDrops_waiting (hq : b.mem.laneReq n ≠ none) :
    (b.abortDrops n k .linkError).mem = b.mem.setLaneReq n none
      ∧ ((b.abortDrops n k .linkError).lane n).memReq = none
      ∧ ((b.abortDrops n k .linkError).lane n).stagingAddr =
          (b.lane n).stagingAddr - (if m.write = true then 0 else m.len) := by
  obtain ⟨c, hc, hmem, hlane⟩ := Blocks.abortDrops_claimless (n := n) hother
  rw [hc]
  cases hw : m.write with
  | true =>
    rw [c.dropRead_kept n m (by rw [hlane]; exact hm) (Or.inl hw),
      c.dropWrite_waiting n m (by rw [hlane]; exact hm) hw (by rw [hmem]; exact hq), Blocks.modLane_lane_same]
    refine ⟨?_, rfl, ?_⟩
    · rw [← hmem]; rfl
    · show (c.lane n).stagingAddr = _
      rw [hlane]; rfl
  | false =>
    rw [c.dropRead_waiting n m (by rw [hlane]; exact hm) hw hd (by rw [hmem]; exact hq), Blocks.dropWrite_none,
      Blocks.modLane_lane_same]
    · refine ⟨?_, rfl, ?_⟩
      · rw [← hmem]; rfl
      · show (c.lane n).stagingAddr - m.len = _
        rw [hlane]; rfl
    · rw [Blocks.modLane_lane_same]

/-- A request that has been granted goes on: a read is marked for discard, a write as it was. -/
theorem Blocks.abortDrops_granted (hq : b.mem.laneReq n = none) :
    (b.abortDrops n k .linkError).mem = b.mem
      ∧ (m.write = false → (b.abortDrops n k .linkError).lane n = { b.lane n with memReq := some { m with discard := true } })
      ∧ (m.write = true → (b.abortDrops n k .linkError).lane n = b.lane n) := by
  obtain ⟨c, hc, hmem, hlane⟩ := Blocks.abortDrops_claimless (n := n) hother
  rw [hc]
  cases hw : m.write with
  | true =>
    rw [c.dropRead_kept n m (by rw [hlane]; exact hm) (Or.inl hw),
      c.dropWrite_kept n m (by rw [hlane]; exact hm) (Or.inr (by rw [hmem]; exact hq))]
    exact ⟨hmem, nofun, fun _ => hlane⟩
  | false =>
    rw [c.dropRead_granted n m (by rw [hlane]; exact hm) hw hd (by rw [hmem]; exact hq),
      Blocks.dropWrite_kept (m := { m with discard := true })]
    · rw [Blocks.modLane_lane_same, hlane]
      exact ⟨hmem, fun _ => by rw [hw], nofun⟩
    · rw [Blocks.modLane_lane_same]
    · exact Or.inl hw

end

theorem timeout_drops_memory (s : State) (n : LaneId) (k : Slot) (x : ResponseTimer) (m : LaneMem)
    (hst : (s.blocks.lane n).state = .transfer) (hserved : serving s n k) (htm : (s.blocks.lane n).timer = some x)
    (hx : x.limit ≤ x.count) (hnotice : (s.blocks.lane n).haltNotice = false) (hm : (s.blocks.lane n).memReq = some m)
    (hd : m.discard = false) (hother : ∀ f, s.blocks.fetch = some f → f.slot ≠ k) :
    ∃ t, exec (.responseTimeout n) s = .next t ∧ t.port = s.port ∧ (t.blocks.lane n).state = .aborting
      ∧ (t.blocks.lane n).abortCause = some .linkError ∧ sends s t n (.abort (s.blocks.unitOf k))
      ∧ (t.blocks.lane n).credit = [] ∧ t.blocks.ctxs = s.blocks.ctxs ∧ otherLanes s t n
      ∧ (s.blocks.mem.laneReq n ≠ none →
          t.blocks.mem = { s.blocks.mem with laneReqs := s.blocks.mem.laneReqs.set n.val none }
            ∧ (t.blocks.lane n).memReq = none
            ∧ (t.blocks.lane n).stagingAddr =
                (s.blocks.lane n).stagingAddr - (if m.write = true then 0 else m.len)
            ∧ ∀ h, (t.blocks.lane n).staging.get h = [])
      ∧ (s.blocks.mem.laneReq n = none →
          t.blocks.mem = s.blocks.mem
            ∧ (m.write = false → (t.blocks.lane n).memReq = some { m with discard := true }
                ∧ ∀ h, (t.blocks.lane n).staging.get h = [])
            ∧ (m.write = true → (t.blocks.lane n).memReq = some m
                ∧ (t.blocks.lane n).staging.get m.half = (s.blocks.lane n).staging.get m.half
                ∧ (t.blocks.lane n).staging.get m.half.other = [])) := by
  have htimed : s.blocks.timedOut n = s.blocks.enterAborting n .linkError := by
    have hlink := s.blocks.linkError_eq n (by rw [hst]; nofun)
    rw [hnotice, if_neg (by nofun)] at hlink
    simp only [Blocks.timedOut, hst]
    exact hlink
  obtain ⟨t, hexec, hport, -, ht⟩ := exec_timedOut htm hx htimed
  obtain ⟨⟨hstate, hcause, -, hsends, hcredit, -, -, -, -, -, -, hlanes⟩, hctxs, -⟩ :=
    aborts_of_arrived (.refl n k s.blocks) hserved ht
  have htl : t.blocks.lane n =
      (((s.blocks.abortDrops n k .linkError).lane n).aborted .linkError).send (.abort (s.blocks.unitOf k)) := by
    rw [ht, Blocks.settled_lane, s.blocks.enterAborting_lane .linkError hserved]
  have htm : t.blocks.mem = (s.blocks.abortDrops n k .linkError).mem := by
    rw [ht, Blocks.settled_mem, s.blocks.enterAborting_mem .linkError hserved]
  generalize hdl : s.blocks.abortDrops n k .linkError = b at htl htm
  obtain ⟨st, ha⟩ := Lane.aborted_spec (b.lane n) .linkError
  have hmr : (t.blocks.lane n).memReq = (b.lane n).memReq := by rw [htl, Lane.send_memReq, ha]
  have hsa : (t.blocks.lane n).stagingAddr = (b.lane n).stagingAddr := by rw [htl, Lane.send_stagingAddr, ha]
  have hstaging : (t.blocks.lane n).staging = ((b.lane n).aborted .linkError).staging := by rw [htl, Lane.send_staging]
  refine ⟨t, hexec, hport, hstate, hcause, hsends, hcredit, hctxs, hlanes, fun hq => ?_, fun hq => ?_⟩
  · obtain ⟨h1, h2, h3⟩ := Blocks.abortDrops_waiting hother m hm hd hq
    rw [hdl] at h1 h2 h3
    refine ⟨htm.trans h1, hmr.trans h2, hsa.trans h3, fun half => ?_⟩
    rw [hstaging, Lane.aborted_staging_empty _ _ (by rw [h2]; nofun), Staging.get_empty]
  · obtain ⟨h1, hread, hwrite⟩ := Blocks.abortDrops_granted hother m hm hd hq
    rw [hdl] at h1 hread hwrite
    refine ⟨htm.trans h1, fun hw => ⟨?_, fun half => ?_⟩, fun hw => ⟨?_, ?_, ?_⟩⟩
    · rw [hmr, hread hw]
    · rw [hstaging, Lane.aborted_staging_empty, Staging.get_empty]
      intro m' hm'
      rw [hread hw] at hm'
      cases hm'
      exact Or.inl hw
    · rw [hmr, hwrite hw, hm]
    all_goals rw [hstaging, Lane.aborted_staging_kept _ _ m (by rw [hwrite hw]; exact hm) hw hd, hwrite hw]
    · exact Staging.only_get_same _ _
    · exact Staging.only_get_other _ _

/-- Settles O42: strays, frames discarded, link errors, malformed frames, and the memory work at a timeout. -/
theorem framesOutOfPlaceAreStrayOrLinkErrors : Obligations.FramesOutOfPlaceAreStrayOrLinkErrors :=
  ⟨frame_stray, frame_discarded, frame_link_error, malformed_waits, timeout_drops_memory⟩

end Sys2Proof.Machine

/-!
The bounds of the request port (R33, R51, R54) and of the start window (R127) over every step.
-/
namespace Sys2Proof.Machine

/-! ### The start window -/

/-- The bounds of R127, which the ledger alone bears. -/
def ledgerSound (l : List LedgerRec) : Prop :=
  l.length ≤ 8 ∧ (∀ r ∈ l, r.age ≤ 65535) ∧ l.Pairwise fun older newer => newer.age ≤ older.age

theorem Window.sound_iff (w : Window) : w.sound ↔ ledgerSound w.ledger := Iff.rfl

/-- The ledger without its oldest record. -/
theorem ledgerSound_drop {l : List LedgerRec} (h : ledgerSound l) : ledgerSound (l.drop 1) := by
  obtain ⟨hlen, hage, hpair⟩ := h
  refine ⟨?_, fun r hr => hage r (List.mem_of_mem_drop hr), hpair.drop⟩
  rw [List.length_drop]
  omega

/-- A record of age 0 at the tail is no older than any other. -/
theorem ledgerSound_concat {l : List LedgerRec} (h : ledgerSound l) (hroom : l.length < 8) (count : BitVec 32) :
    ledgerSound (l ++ [⟨count, 0⟩]) := by
  obtain ⟨-, hage, hpair⟩ := h
  refine ⟨by simpa using hroom, fun r hr => ?_, List.pairwise_append.mpr ⟨hpair, List.pairwise_singleton _ _, ?_⟩⟩
  · rcases List.mem_append.mp hr with hr | hr
    · exact hage r hr
    · obtain rfl := List.mem_singleton.mp hr
      exact Nat.zero_le _
  · intro r _ new hnew
    obtain rfl := List.mem_singleton.mp hnew
    exact Nat.zero_le _

/-- The record of a grant takes the place of the oldest where the ledger is full (R127). -/
theorem ledgerSound_appendRecord {l : List LedgerRec} (h : ledgerSound l) (count : BitVec 32) :
    ledgerSound (appendRecord l ⟨count, 0⟩) := by
  unfold appendRecord Config.ledgerCapacity
  split
  · refine ledgerSound_concat (ledgerSound_drop h) ?_ count
    have hlen := h.1
    rw [List.length_drop]
    omega
  · rename_i hroom
    exact ledgerSound_concat h (by omega) count

theorem ledgerSound_grown {l k : List LedgerRec} (hg : LedgerGrown l k) (h : ledgerSound l) : ledgerSound k := by
  induction hg with
  | same => exact h
  | grant l k count _ ih => exact ih (ledgerSound_appendRecord h count)

/-- A tick ages every record by one up to the age at which it holds, which keeps their order (R127). -/
theorem ledgerSound_tick {l : List LedgerRec} (h : ledgerSound l) : ledgerSound (l.map LedgerRec.tick) := by
  obtain ⟨hlen, -, hpair⟩ := h
  refine ⟨by simpa using hlen, fun r hr => ?_, List.pairwise_map.mpr (hpair.imp fun {older newer} hle => ?_)⟩
  · obtain ⟨x, -, rfl⟩ := List.mem_map.mp hr
    exact Nat.min_le_left _ _
  · exact min_le_min_left _ (Nat.add_le_add_right hle 1)

theorem Blocks.postNoteEntry_window (b : Blocks) (s : Slot) : (b.postNoteEntry s).window = b.window := by
  unfold Blocks.postNoteEntry
  simp only
  split <;> rfl

theorem Blocks.postFinal_window (b : Blocks) (s : Slot) (named : List Named) : (b.postFinal s named).window = b.window := by
  obtain ⟨c, q, h⟩ := b.postFinal_spec s named
  rw [h]

/-- Every step keeps the bounds of the start window (R127): grants extend the ledger, and the tick ages it. -/
theorem stepKept_windowSound : StepKept fun b => b.window.sound where
  moved b c hm h := by
    obtain ⟨-, -, -, hgrown⟩ := hm
    exact (Window.sound_iff _).mpr (ledgerSound_grown hgrown ((Window.sound_iff _).mp h))
  final b s named h := by rw [b.postFinal_window s named]; exact h
  note b s h := by rw [b.postNoteEntry_window s]; exact h
  bind _ _ _ _ _ h := h
  close _ _ _ _ _ h := h
  collect _ _ _ _ _ h := h
  advance _ _ h := ledgerSound_tick h
  pinReset _ := ⟨Nat.zero_le _, nofun, List.Pairwise.nil⟩

/-! ### The request port -/

theorem Port.sound_reset : Port.reset.sound := ⟨by decide, by decide, by decide, by decide⟩

theorem Port.sound_submit {p : Port} (h : p.sound) (v : Word) : (p.submit v).sound := by
  obtain ⟨hreqs, hresps, hinte, hdiv⟩ := h
  unfold Port.submit Config.fifoCapacity
  split
  · rename_i hroom
    exact ⟨by simpa using hroom, hresps, hinte, hdiv⟩
  · exact ⟨hreqs, hresps, hinte, hdiv⟩

theorem Port.sound_pop {p : Port} (h : p.sound) : p.pop.sound := by
  obtain ⟨hreqs, hresps, hinte, hdiv⟩ := h
  refine ⟨hreqs, ?_, hinte, hdiv⟩
  show (p.resps.drop 1).length ≤ 8
  rw [List.length_drop]
  omega

theorem Port.sound_enable {p : Port} (h : p.sound) (v : Word) (st : BitVec 4) : (p.enable v st).sound := by
  obtain ⟨hreqs, hresps, -, hdiv⟩ := h
  exact ⟨hreqs, hresps, causeMask_idem _, hdiv⟩

theorem Port.sound_setDivider {p : Port} (h : p.sound) (v : Word) (st : BitVec 4) : (p.setDivider v st).sound := by
  obtain ⟨hreqs, hresps, hinte, hdiv⟩ := h
  unfold Port.setDivider
  split
  · rename_i hv
    exact ⟨hreqs, hresps, hinte, hv.2⟩
  · exact ⟨hreqs, hresps, hinte, hdiv⟩

/-- A write that is taken keeps the port sound where what it does keeps it. -/
theorem State.onWrite_portSound {s : State} (st : BitVec 4) {f : State → State} (h : s.port.sound)
    (hf : (f s).port.sound) : (s.onWrite st f).port.sound := by
  unfold State.onWrite
  split
  · exact hf
  · exact h

theorem State.writeRegister_portSound {s : State} (o : BitVec 7) (v : Word) (st : BitVec 4) (h : s.port.sound) :
    (s.writeRegister o v st).port.sound := by
  unfold State.writeRegister
  split
  case h_5 => exact Port.sound_submit h _
  case h_6 => exact Port.sound_pop h
  case h_8 => exact Port.sound_enable h _ _
  case h_9 => exact Port.sound_reset
  case h_10 => exact Port.sound_setDivider h _ _
  all_goals exact h

/-- The handler takes a request only where the response FIFO has a place (R33). -/
theorem State.handle_portSound {s : State} (code : ReqCode) (act : Request → Blocks → Blocks × Answer)
    (h : s.port.sound) : (s.handle code act).port.sound := by
  obtain ⟨hreqs, hresps, hinte, hdiv⟩ := h
  unfold State.handle Config.fifoCapacity
  split
  · exact ⟨hreqs, hresps, hinte, hdiv⟩
  · rename_i r rest hq
    split
    · rename_i htakes
      obtain ⟨-, hroom, -⟩ := htakes
      rw [hq, List.length_cons] at hreqs
      refine ⟨?_, by simpa using hroom, hinte, hdiv⟩
      show rest.length ≤ 8
      omega
    · exact ⟨hreqs, hresps, hinte, hdiv⟩

/-- Only the resets, the register writes and the requests reach the port; every other command is an event of the blocks. -/
theorem exec_portSound (i : Instr) {s t : State} (h : s.port.sound) (ht : exec i s = .next t) : t.port.sound := by
  cases i with
  | pinReset => cases ht; exact Port.sound_reset
  | softResetComplete =>
    cases ht
    split
    · exact Port.sound_reset
    · exact h
  | rqgoSubmit v st => cases ht; exact State.onWrite_portSound st h (Port.sound_submit h _)
  | rsnextPop v st => cases ht; exact State.onWrite_portSound st h (Port.sound_pop h)
  | intsWrite v st => cases ht; exact State.onWrite_portSound st h h
  | inteWrite v st => cases ht; exact State.onWrite_portSound st h (Port.sound_enable h _ _)
  | prstWrite v st => cases ht; exact State.onWrite_portSound st h Port.sound_reset
  | tbdivWrite v st => cases ht; exact State.onWrite_portSound st h (Port.sound_setDivider h _ _)
  | registerWrite o v st => cases ht; exact State.onWrite_portSound st h (State.writeRegister_portSound o v st h)
  | openUnit | closeUnit | startChain | haltUnit | probeUnit | collectReport | laneControl | resetLane | setPolicy
  | laneStatus | unknownRequest => cases ht; exact State.handle_portSound _ _ h
  | timebaseTick | detachTimerExpiry _ | ledgerRecordExpiry | responseTimeout _ | breakSpaceEnd _ | breakRecoveryEnd _
  | attentionLineChange _ _ | frameMalformed _ _ _ | frameAttn _ _ _ _ | frameEcho _ _ | frameAcpt _ _ _
  | frameNeed _ _ _ | frameDin _ _ _ _ | frameWait _ _ | frameEnd _ _ _ | memoryBurstResponse _ _ | frameSent _
  | frameFirstStartBit _ | unbrokenMarkResync _ => cases ht; exact h

theorem step_portSound {s t : State} (h : s.port.sound) (ht : step s = .next t) : t.port.sound := by
  unfold step at ht
  split at ht
  · cases ht
    unfold State.idle
    split <;> exact h
  · rename_i c rest _
    exact exec_portSound c (s := { s with pending := rest }) h ht

/-- Settles O57: `stepKept_windowSound` for the start window, and `step_portSound` for the request port. -/
theorem everyStepKeepsThePortAndWindowBounds : Obligations.EveryStepKeepsThePortAndWindowBounds :=
  fun s t ht => ⟨fun h => step_portSound h ht, fun h => stepKept_windowSound.step s t h ht⟩

end Sys2Proof.Machine

/-!
Words read bit by bit, byte by byte and below a mask.
-/
namespace Sys2Proof.Machine

open Sys2Proof.Claims

/-! ### Packed words -/

/-- A bit of a packed word is set where a field that covers it has that bit. -/
theorem packWord_getLsbD (fs : List WordField) (i : Nat) : (packWord fs).getLsbD i = true ↔
    i < 32 ∧ ∃ f ∈ fs, f.lo ≤ i ∧ i < f.lo + f.width ∧ f.value.testBit (i - f.lo) = true := by
  induction fs with
  | nil => simp [packWord]
  | cons f rest ih =>
    have hfield : (BitVec.ofNat 32 (f.value % 2 ^ f.width) <<< f.lo).getLsbD i = true ↔
        i < 32 ∧ f.lo ≤ i ∧ i < f.lo + f.width ∧ f.value.testBit (i - f.lo) = true := by
      simp only [BitVec.getLsbD_shiftLeft, BitVec.getLsbD_ofNat, Nat.testBit_mod_two_pow, Bool.and_eq_true,
        Bool.not_eq_true', decide_eq_true_eq, decide_eq_false_iff_not]
      constructor
      · rintro ⟨⟨hi, hlo⟩, -, hw, hbit⟩
        exact ⟨hi, by omega, by omega, hbit⟩
      · rintro ⟨hi, hlo, hw, hbit⟩
        exact ⟨⟨hi, by omega⟩, by omega, by omega, hbit⟩
    simp only [packWord, BitVec.getLsbD_or, Bool.or_eq_true, hfield, ih, List.exists_mem_cons_iff, and_or_left]

/-- A mark is a field of one bit. -/
theorem testBit_toNat_sub (b : Bool) (lo i : Nat) (h : lo ≤ i) (hi : i < lo + 1) :
    b.toNat.testBit (i - lo) = true ↔ b = true := by
  obtain rfl : i = lo := by omega
  cases b <;> simp

/-- The fields of a word in ascending order stand at or above the bit they begin from. -/
theorem fieldsFrom_le_lo {lo : Nat} {fs : List WordField} (h : fieldsFrom lo fs) {f : WordField} (hf : f ∈ fs) : lo ≤ f.lo := by
  induction fs generalizing lo with
  | nil => exact nomatch hf
  | cons g rest ih =>
    obtain ⟨hlo, hrest⟩ := h
    rcases List.mem_cons.mp hf with rfl | hf
    · exact hlo
    · have := ih hrest hf
      omega

/-- No two fields of a word in ascending order cover one bit. -/
theorem fieldsFrom_unique {lo : Nat} {fs : List WordField} (h : fieldsFrom lo fs) {f g : WordField} (hf : f ∈ fs) (hg : g ∈ fs)
    {i : Nat} (hfi : f.lo ≤ i ∧ i < f.lo + f.width) (hgi : g.lo ≤ i ∧ i < g.lo + g.width) : f = g := by
  induction fs generalizing lo with
  | nil => exact nomatch hf
  | cons e rest ih =>
    obtain ⟨-, hrest⟩ := h
    rcases List.mem_cons.mp hf with rfl | hfr <;> rcases List.mem_cons.mp hg with rfl | hgr
    · rfl
    · have := fieldsFrom_le_lo hrest hgr
      omega
    · have := fieldsFrom_le_lo hrest hfr
      omega
    · exact ih hrest hfr hgr

/-- A mark of a packed word is its bit. -/
theorem packWord_mark {fs : List WordField} {lo : Nat} {b : Bool} (h : fieldsFrom 0 fs) (hm : ⟨lo, 1, b.toNat⟩ ∈ fs)
    (hlo : lo < 32) : (packWord fs).getLsbD lo = b := by
  rw [Bool.eq_iff_iff, packWord_getLsbD]
  constructor
  · rintro ⟨-, f, hf, h1, h2, hbit⟩
    obtain rfl := fieldsFrom_unique h hm hf ⟨Nat.le_refl lo, Nat.lt_succ_self lo⟩ ⟨h1, h2⟩
    exact (testBit_toNat_sub b lo lo h1 h2).mp hbit
  · intro hb
    exact ⟨hlo, _, hm, Nat.le_refl lo, Nat.lt_succ_self lo,
      (testBit_toNat_sub b lo lo (Nat.le_refl lo) (Nat.lt_succ_self lo)).mpr hb⟩

/-! ### Bytes -/

theorem byteOf_getLsbD (w : Word) (k i : Nat) (h : i < 8) : (byteOf w k).getLsbD i = w.getLsbD (8 * k + i) := by
  simp [byteOf, h]

/-- Byte 0 is the low byte. -/
theorem byteOf_zero (w : Word) : byteOf w 0 = w.setWidth 8 := by
  apply BitVec.eq_of_getLsbD_eq
  intro i hi
  simp [byteOf, hi]

/-- A strobed write, byte by byte (R30). -/
theorem byteOf_mergeStrobes (old v : Word) (st : BitVec 4) (k : Nat) (hk : k < 4) :
    byteOf (mergeStrobes old v st) k = strobedByte old v st k := by
  apply BitVec.eq_of_getLsbD_eq
  intro i hi
  have hbyte : (8 * k + i) / 8 = k := by omega
  rw [byteOf_getLsbD _ _ _ hi, mergeStrobes_getLsbD _ _ _ _ (by omega), hbyte, strobedByte]
  split <;> rw [byteOf_getLsbD _ _ _ hi]

theorem byteOf_and (w v : Word) (k : Nat) : byteOf (w &&& v) k = byteOf w k &&& byteOf v k := by
  apply BitVec.eq_of_getLsbD_eq
  intro i hi
  rw [BitVec.getLsbD_and, byteOf_getLsbD _ _ _ hi, byteOf_getLsbD _ _ _ hi, byteOf_getLsbD _ _ _ hi, BitVec.getLsbD_and]

/-- The tag of a submission: byte 0, or 0 where its strobe is clear (R32). -/
theorem strobed_setWidth (v : Word) (st : BitVec 4) :
    (strobed v st).setWidth 8 = if st.getLsbD 0 then byteOf v 0 else 0 := by
  apply BitVec.eq_of_getLsbD_eq
  intro i hi
  have hbyte : i / 8 = 0 := by omega
  rw [BitVec.getLsbD_setWidth, strobed_getLsbD _ _ _ (by omega), hbyte]
  cases st.getLsbD 0 <;> simp [byteOf, hi]

/-! ### Masks -/

/-- No bit outside a mask is set exactly where the mask takes nothing away. -/
theorem and_not_eq_zero_iff (w m : Word) : w &&& ~~~m = 0 ↔ w &&& m = w := by
  constructor
  · intro h
    apply BitVec.eq_of_getLsbD_eq
    intro i hi
    have hbit : (w &&& ~~~m).getLsbD i = false := by simp [h]
    simp only [BitVec.getLsbD_and, BitVec.getLsbD_not, hi, decide_true, Bool.true_and] at hbit
    rw [BitVec.getLsbD_and]
    cases hw : w.getLsbD i <;> simp_all
  · intro h
    rw [← h, BitVec.and_assoc]
    simp

theorem and_lowMask_toNat (w : Word) (k : Nat) (hk : k ≤ 32) :
    (w &&& BitVec.ofNat 32 (2 ^ k - 1)).toNat = w.toNat % 2 ^ k := by
  have hle : 2 ^ k ≤ 2 ^ 32 := Nat.pow_le_pow_right (by decide) hk
  have hpos := Nat.two_pow_pos k
  rw [BitVec.toNat_and, BitVec.toNat_ofNat, Nat.mod_eq_of_lt (by omega), Nat.and_two_pow_sub_one_eq_mod]

/-- No bit from `k` on is set exactly in a number below `2 ^ k`. -/
theorem and_not_lowMask_eq_zero_iff (w : Word) (k : Nat) (hk : k ≤ 32) :
    w &&& ~~~BitVec.ofNat 32 (2 ^ k - 1) = 0 ↔ w.toNat < 2 ^ k := by
  rw [and_not_eq_zero_iff, ← BitVec.toNat_inj, and_lowMask_toNat w k hk]
  exact ⟨fun h => h ▸ Nat.mod_lt _ (Nat.two_pow_pos k), Nat.mod_eq_of_lt⟩

/-- The lowest `k` bits are clear exactly in a multiple of `2 ^ k`. -/
theorem and_lowMask_eq_zero_iff (w : Word) (k : Nat) (hk : k ≤ 32) :
    w &&& BitVec.ofNat 32 (2 ^ k - 1) = 0 ↔ w.toNat % 2 ^ k = 0 := by
  rw [← BitVec.toNat_inj, and_lowMask_toNat w k hk]
  rfl

end Sys2Proof.Machine

/-!
The register window and the resets: what each register reads, what each write stores, and what a reset leaves.
-/
namespace Sys2Proof.Machine

open Sys2Proof.Claims

/-! ### What the window reads -/

theorem Port.pstatWord_ready {p : Port} (h : p.pstat = .ready) : p.pstatWord = 0x100 := by
  rw [Port.pstatWord, h]
  decide

theorem Port.pstatWord_resetting {p : Port} (h : p.pstat = .resetting) : p.pstatWord = 0x101 := by
  rw [Port.pstatWord, h]
  decide

theorem State.read_pstat (s : State) : s.readRegister 0x48 = s.port.pstatWord := rfl

/-- While PSTAT shows RESETTING every other register reads 0 (R52). -/
theorem State.read_resetting {s : State} (h : s.port.pstat = .resetting) (o : BitVec 7) (ho : o.toNat / 4 ≠ 18) :
    s.readRegister o = 0 := by
  simp [State.readRegister, ho, h]

section
variable {s : State} (hp : s.port.pstat = .ready)
include hp

theorem State.read_staging (i : Fin 4) : s.readRegister (BitVec.ofNat 7 (4 * i.val)) = s.port.rqw.get i := by
  fin_cases i <;> simp [State.readRegister, hp]

theorem State.read_rqgo : s.readRegister 0x10 = packWord [⟨0, 4, 8 - s.port.reqs.length⟩] := by
  simp [State.readRegister, hp, Config.fifoCapacity]

theorem State.read_responses : s.readRegister 0x18 = s.port.responseWord 0 ∧ s.readRegister 0x1C = s.port.responseWord 1
    ∧ s.readRegister 0x20 = s.port.responseWord 2 ∧ s.readRegister 0x24 = s.port.responseWord 3 := by
  simp [State.readRegister, hp]

theorem State.read_ints : s.readRegister 0x40 = s.causes := by simp [State.readRegister, hp]

theorem State.read_inte : s.readRegister 0x44 = s.port.inte := by simp [State.readRegister, hp]

theorem State.read_tbdiv : s.readRegister 0x50 = s.port.tbdiv.setWidth 32 := by simp [State.readRegister, hp]

end

/-- With no response the words are 0 (R181). -/
theorem Port.responseWord_nil (p : Port) (h : p.resps = []) (i : Nat) : p.responseWord i = 0 := by
  simp [Port.responseWord, h]

theorem Port.responseWord_cons (p : Port) {e : Response} {rest : List Response} (h : p.resps = e :: rest) :
    p.responseWord 0 = packWord [⟨0, 8, e.tag.toNat⟩, ⟨8, 4, e.result.code⟩, ⟨31, 1, 1⟩] ∧ p.responseWord 1 = e.d1
      ∧ p.responseWord 2 = e.d2 ∧ p.responseWord 3 = e.d3 := by
  simp [Port.responseWord, h]

/-- The attention slot shows something exactly while the report queue holds an entry (R160). -/
theorem Blocks.shown_isSome_iff (b : Blocks) : b.shown.isSome = true ↔ b.reports.queue ≠ [] := by
  unfold Blocks.shown
  cases b.reports.queue with
  | nil => simp
  | cons e rest =>
    simp only [ne_eq, reduceCtorEq, not_false_eq_true, iff_true]
    split <;> rfl

/-- The bits of INTS are the active causes (TABLE 57). -/
theorem State.causes_getLsbD (s : State) (k : Nat) : s.causes.getLsbD k = true ↔ causeActive s k := by
  have hbit (b : Bool) (lo : Nat) : (lo ≤ k ∧ k < lo + 1 ∧ b.toNat.testBit (k - lo) = true) ↔ k = lo ∧ b = true := by
    constructor
    · rintro ⟨h1, h2, h3⟩
      exact ⟨by omega, (testBit_toNat_sub b lo k h1 h2).mp h3⟩
    · rintro ⟨rfl, hb⟩
      exact ⟨Nat.le_refl _, Nat.lt_succ_self _, (testBit_toNat_sub b k k (Nat.le_refl _) (Nat.lt_succ_self _)).mpr hb⟩
  have hlanes : (∃ n : LaneId, k = 4 + n.val ∧ s.blocks.laneFault.get n = true) ↔
      (k = 4 ∧ s.blocks.laneFault.get 0 = true) ∨ (k = 5 ∧ s.blocks.laneFault.get 1 = true)
        ∨ (k = 6 ∧ s.blocks.laneFault.get 2 = true) ∨ (k = 7 ∧ s.blocks.laneFault.get 3 = true) := by
    constructor
    · rintro ⟨n, hk, hn⟩
      fin_cases n <;> simp_all
    · rintro (⟨rfl, h⟩ | ⟨rfl, h⟩ | ⟨rfl, h⟩ | ⟨rfl, h⟩) <;> exact ⟨_, rfl, h⟩
  rw [State.causes, packWord_getLsbD]
  simp only [List.exists_mem_cons_iff, List.not_mem_nil, false_and, exists_false, or_false, hbit, causeActive, hlanes,
    Blocks.shown_isSome_iff, Bool.not_eq_true', List.isEmpty_eq_false_iff, or_assoc]
  exact and_iff_right_of_imp fun h => by omega

/-! ### What the writes store -/

/-- A write that is taken does what its register does. -/
theorem exec_write {i : Instr} {s t : State} {st : BitVec 4} {f : State → State} (h : writable s st)
    (hi : exec i s = .next (s.onWrite st f)) (ht : f s = t) : exec i s = .next t := by
  obtain ⟨hp, hs⟩ := h
  rw [hi, s.onWrite_taken st f hp hs, ht]

/-- Settles O5: the submission, taken, is `Port.submit`. -/
theorem submissionJoinsTheFifoOrIsDropped : Obligations.SubmissionJoinsTheFifoOrIsDropped := by
  intro s v st hw
  have hexec : exec (.rqgoSubmit v st) s = .next (s.onPort (·.submit (strobed v st))) := exec_write hw rfl rfl
  refine ⟨fun hroom => ?_, fun hfull => ?_, fun hlen => ?_⟩
  · rw [hexec, State.onPort, Port.submit, Config.fifoCapacity, if_pos hroom, Port.staged, strobed_setWidth]
  · rw [hexec, State.onPort, Port.submit, Config.fifoCapacity, if_neg (by omega)]
  · rw [State.read_rqgo hw.1, packWord_toNat (lo := 0) (by simp [fieldsFrom])]
    simp [fieldSum]
    omega

/-- Settles O7: the words are fields of the head, and the pop is `Port.pop`. -/
theorem responseWordsShowTheHeadAndPopRemovesIt : Obligations.ResponseWordsShowTheHeadAndPopRemovesIt := by
  refine ⟨fun s hp hq => ?_, fun s e rest hp hq => ?_, fun s v st hw => ?_⟩
  · obtain ⟨h0, h1, h2, h3⟩ := State.read_responses hp
    exact ⟨h0.trans (s.port.responseWord_nil hq 0), h1.trans (s.port.responseWord_nil hq 1),
      h2.trans (s.port.responseWord_nil hq 2), h3.trans (s.port.responseWord_nil hq 3)⟩
  · obtain ⟨h0, h1, h2, h3⟩ := State.read_responses hp
    obtain ⟨hw0, hw1, hw2, hw3⟩ := s.port.responseWord_cons hq
    refine ⟨?_, h1.trans hw1, h2.trans hw2, h3.trans hw3⟩
    have hcode : e.result.code < 16 := by cases e.result <;> decide
    have htag := e.tag.isLt
    rw [h0, hw0, packWord_toNat (lo := 0) (by simp [fieldsFrom])]
    simp only [fieldSum]
    omega
  · have hexec : exec (.rsnextPop v st) s = .next (s.onPort (·.pop)) := exec_write hw rfl rfl
    rw [hexec, State.onPort, Port.pop, List.drop_one]

/-- The line is asserted exactly while a cause is active and enabled (R51). -/
theorem State.interruptLine_iff {s : State} (hp : s.port.pstat = .ready) :
    s.interruptLine = true ↔ ∃ k, causeActive s k ∧ s.port.inte.getLsbD k = true := by
  have hline : s.interruptLine = true ↔ s.causes &&& s.port.inte ≠ 0 := by simp [State.interruptLine, hp]
  simp only [hline, ← State.causes_getLsbD, ← Bool.and_eq_true, ← BitVec.getLsbD_and]
  constructor
  · intro hne
    by_contra hno
    refine hne (BitVec.eq_of_getLsbD_eq fun k _ => ?_)
    simpa using not_exists.mp hno k
  · rintro ⟨k, hk⟩ h0
    simp [h0] at hk

/-- Settles O8: the two writes byte by byte, and the words read. -/
theorem interruptRegistersClearAndEnable : Obligations.InterruptRegistersClearAndEnable := by
  refine ⟨fun s v st hw => ?_, fun s v st hw => ?_, fun s hp => ⟨fun k => ?_, State.read_inte hp, ?_, s.interruptLine_iff hp⟩⟩
  · have hexec : exec (.intsWrite v st) s = .next (s.clearCauses (strobed v st)) := exec_write hw rfl rfl
    refine ⟨_, hexec, ?_, fun n => ?_, rfl, rfl⟩
    · rw [State.clearCauses, strobed_getLsbD v st 8 (by decide)]
    · have hn := n.isLt
      have hbyte : (4 + n.val) / 8 = 0 := by omega
      show (Vector.ofFn _)[n.val] = _
      rw [Vector.getElem_ofFn, strobed_getLsbD v st _ (by omega), hbyte]
  · have hexec : exec (.inteWrite v st) s = .next (s.onPort (·.enable v st)) := exec_write hw rfl rfl
    refine ⟨_, hexec, fun k hk => ?_⟩
    rw [byteOf_and, byteOf_mergeStrobes _ _ _ _ hk]
    rfl
  · rw [State.read_ints hp]
    exact s.causes_getLsbD k
  · rw [State.read_tbdiv hp, BitVec.toNat_setWidth]
    have hdiv := s.port.tbdiv.isLt
    omega

/-- The word a register write reaches (R30; log 22). -/
theorem offset_word (i : Nat) (h : i < 32) : (BitVec.ofNat 7 (4 * i)).toNat / 4 = i := by
  rw [BitVec.toNat_ofNat]
  omega

theorem State.writeRegister_staging (s : State) (i : Fin 4) (v : Word) (st : BitVec 4) :
    s.writeRegister (BitVec.ofNat 7 (4 * i.val)) v st = s.onPort (·.stage i v st) := by
  fin_cases i <;> rfl

/-- A register that is read only, and an unused offset, ignore the write. -/
theorem State.writeRegister_ignored (s : State) (i : Nat) (v : Word) (st : BitVec 4)
    (h : (6 ≤ i ∧ i ≤ 15) ∨ i = 18 ∨ (21 ≤ i ∧ i ≤ 23)) : s.writeRegister (BitVec.ofNat 7 (4 * i)) v st = s := by
  unfold State.writeRegister
  rw [offset_word i (by omega)]
  split
  case h_11 => rfl
  all_goals omega

/-- Settles O10: the staging words, the words that ignore a write, the six registers of their own, the divider, and the
writes that are ignored. -/
theorem registerWritesFollowTheStrobes : Obligations.RegisterWritesFollowTheStrobes := by
  refine ⟨⟨fun s i v st hw => ?_, fun s i v st hi => ?_⟩, fun s v st => ⟨rfl, rfl, rfl, rfl, rfl, rfl⟩,
    fun s v st hw => ?_, fun s v st o h => ?_⟩
  · refine ⟨mergeStrobes (s.port.rqw.get i) v st, ?_, fun k hk => byteOf_mergeStrobes _ _ _ _ hk⟩
    exact exec_write hw rfl (s.writeRegister_staging i v st)
  · show Host.Outcome.next (s.onWrite st _) = _
    unfold State.onWrite
    simp only [s.writeRegister_ignored i v st hi, ite_self]
  · have hexec : exec (.tbdivWrite v st) s = .next (s.onPort (·.setDivider v st)) := exec_write hw rfl rfl
    rw [hexec, State.onPort, Port.setDivider, byteOf_zero]
    split <;> rfl
  · have hignored (f : State → State) : (.next (s.onWrite st f) : Host.Outcome State Fault Refusal) = .next s := by
      rw [s.onWrite_ignored st f h]
    exact ⟨hignored _, hignored _, hignored _, hignored _, hignored _, hignored _, hignored _⟩

/-! ### The resets -/

/-- A reset leaves of a lane the level of its attention pin (log 6). -/
theorem Blocks.pinReset_lane (b : Blocks) (n : LaneId) : b.pinReset.lane n = { Lane.reset with atn := (b.lane n).atn } :=
  Vector.getElem_ofFn n.isLt

/-- With no transaction in flight the drained port is at its reset values (R146). -/
theorem MemPort.drained_quiet {m : MemPort} (h : m.inflight = none) : m.drained = MemPort.reset := by
  rw [MemPort.drained, h]
  rfl

/-- With no transaction in flight a soft reset leaves what pin reset leaves (R53). -/
theorem Blocks.softReset_quiet {b : Blocks} (h : b.mem.inflight = none) : b.softReset = b.pinReset := by
  rw [Blocks.softReset, MemPort.drained_quiet h]
  rfl

theorem exec_softResetComplete {s : State} (hp : s.port.pstat = .resetting) (hm : s.blocks.mem.inflight = none) :
    exec .softResetComplete s = exec .pinReset s := by
  have hdue : s.softResetDue = true := by simp [State.softResetDue, hp, hm]
  show Host.Outcome.next (if s.softResetDue = true then _ else _) = Host.Outcome.next _
  rw [if_pos hdue, Blocks.softReset_quiet hm]

/-- A transaction in flight holds the soft reset up (R52, R146). -/
theorem exec_softResetComplete_busy {s : State} {x : Txn} (hm : s.blocks.mem.inflight = some x) :
    exec .softResetComplete s = .next s := by
  have hdue : s.softResetDue = false := by simp [State.softResetDue, hm]
  show Host.Outcome.next (if s.softResetDue = true then _ else _) = Host.Outcome.next _
  rw [hdue, if_neg nofun]

theorem Blocks.pinReset_lane_reset (b : Blocks) (n : LaneId) : { b.pinReset.lane n with atn := false } = Lane.reset := by
  rw [b.pinReset_lane n]
  rfl

/-- Settles O4: pin reset field by field, and the soft reset of a quiet port. -/
theorem pinResetSetsEveryBlock : Obligations.PinResetSetsEveryBlock := by
  refine ⟨fun s => ?_, fun s => exec_softResetComplete, fun s => ?_⟩
  · exact ⟨_, rfl, rfl, rfl, rfl, rfl, rfl, s.blocks.pinReset_lane_reset, rfl, rfl, rfl, rfl, rfl, Port.pstatWord_ready rfl⟩
  · rw [State.read_pstat]
    cases hp : s.port.pstat with
    | ready => rw [Port.pstatWord_ready hp]; decide
    | resetting => rw [Port.pstatWord_resetting hp]; decide

/-- Settles O9: what PRST leaves is `State.beginSoftReset`, and what it completes to is pin reset. -/
theorem prstBeginsASoftResetThatCompletesWhenThePortIsQuiet :
    Obligations.PrstBeginsASoftResetThatCompletesWhenThePortIsQuiet := by
  refine ⟨fun s v st hw => ?_, fun s hp => ⟨fun x hx => exec_softResetComplete_busy hx, fun hm => ?_⟩⟩
  · refine ⟨s.beginSoftReset, exec_write hw rfl rfl, rfl, Port.pstatWord_resetting rfl, State.read_resetting rfl, rfl, rfl, rfl,
      fun n => ?_, rfl, fun n => Vector.getElem_replicate (n := 4) n.isLt, rfl, rfl⟩
    show (s.blocks.pinReset.lane n).tx = none ∧ (s.blocks.pinReset.lane n).brk = none
    rw [Blocks.pinReset_lane]
    exact ⟨rfl, rfl⟩
  · rw [exec_softResetComplete hp hm]
    exact ⟨_, rfl, rfl, s.blocks.pinReset_ctx, s.blocks.pinReset_lane_reset, rfl, Port.pstatWord_ready rfl⟩

/-- Settles O3: the words by evaluation, and the invariants as pin reset leaves them. -/
theorem theWindowReadsAndTheInvariantsHoldAtReset : Obligations.TheWindowReadsAndTheInvariantsHoldAtReset := by
  refine ⟨rfl, rfl, by decide, by decide, Port.sound_reset, stepKept_windowSound.pinReset Blocks.reset, fun n => ?_,
    ?_, stepKept_reportsSound.pinReset Blocks.reset⟩
  · have hlane : State.reset.blocks.lane n = Lane.reset := Vector.getElem_replicate (n := 4) n.isLt
    rw [hlane]
    exact Lane.halfDuplex_of_deaf _ rfl
  · exact Blocks.indexSound_congr (b := Blocks.reset.pinReset) rfl (fun _ => rfl) (fun _ => Iff.rfl)
      (stepKept_indexSound.pinReset Blocks.reset)

end Sys2Proof.Machine

/-!
The request handler: the conditions of R33, the staging words, the range checks of R35.
-/
namespace Sys2Proof.Machine

open Sys2Proof.Claims

/-! ### The commands of the handler -/

/-- A command of the handler is `State.handle` of its code and its action. -/
theorem exec_handler {c : Instr} {code : ReqCode} (h : handlerCode c = some code) :
    ∃ act, ∀ s, exec c s = .next (s.handle code act) := by
  cases c
  case openUnit | closeUnit | startChain | haltUnit | probeUnit | collectReport | laneControl | resetLane | setPolicy
      | laneStatus | unknownRequest =>
    cases h
    exact ⟨_, fun _ => rfl⟩
  all_goals exact nomatch h

/-- The request at the head is carried out, or refused by its range checks. -/
theorem State.handle_atHead {s : State} {r : Request} {rest : List Request} {code : ReqCode} (h : atHead s r rest code)
    (act : Request → Blocks → Blocks × Answer) : s.handle code act =
      s.answeredWith r rest (if r.inRange = true then act r s.blocks else (s.blocks, bare .badRequest)) := by
  obtain ⟨hr, hl, hp, hc⟩ := h
  cases hin : r.inRange with
  | true => exact s.handle_taken code act r rest hr hl hp hc hin
  | false => exact s.handle_bad code act r rest hr hl hp hc hin

/-- Settles O11: each command of the handler is `State.handle`. -/
theorem theHandlerTakesOneRequestUnderItsThreeConditions :
    Obligations.TheHandlerTakesOneRequestUnderItsThreeConditions := by
  refine ⟨fun c code s r rest hc h => ?_, fun c code s hc h => ?_⟩
  · obtain ⟨act, hact⟩ := exec_handler hc
    rw [hact s, State.handle_atHead h act]
    exact ⟨_, _, _, _, _, rfl, answered_answeredWith s r rest _ rfl, rfl⟩
  · obtain ⟨act, hact⟩ := exec_handler hc
    rw [hact s, s.handle_waits code act h]

/-! ### The staging words -/

/-- A submission leaves the staging words. -/
theorem Port.submit_rqw (p : Port) (v : Word) : (p.submit v).rqw = p.rqw := by
  unfold Port.submit
  split <;> rfl

/-- Settles O6: a write of all four bytes, a submission, and the handler, which passes the words by. -/
theorem stagingWordsAreTheSoftwaresOwn : Obligations.StagingWordsAreTheSoftwaresOwn := by
  refine ⟨fun s i v hp => ?_, fun s v st => ?_, fun c code s t words hc ht => ?_⟩
  · have hexec := exec_write (i := .registerWrite (BitVec.ofNat 7 (4 * i.val)) v 15) ⟨hp, by decide⟩ rfl
      (s.writeRegister_staging i v 15)
    have hword : (s.port.stage i v 15).rqw.get i = v := by
      rw [Port.stage, vector_get_set_same, mergeStrobes_all]
    exact ⟨_, hexec, hword, (State.read_staging (s := s.onPort (·.stage i v 15)) hp i).trans hword⟩
  · refine ⟨s.onWrite st fun s => s.onPort (·.submit (strobed v st)), rfl, ?_, fun hw hroom => ?_⟩
    · unfold State.onWrite
      split
      · exact s.port.submit_rqw _
      · rfl
    · obtain ⟨hp, hs⟩ := hw
      refine ⟨s.port.staged (strobed v st), ?_, rfl, rfl, rfl, rfl⟩
      rw [s.onWrite_taken st _ hp hs, State.onPort_port, Port.submit, Config.fifoCapacity, if_pos hroom]
  · obtain ⟨act, hact⟩ := exec_handler hc
    rw [hact s] at ht
    cases ht
    rw [hact, State.handle_rqw]

/-! ### The range checks (R35, TABLE 58, TABLE 59) -/

/-- No unused bit is set, said of each word. -/
theorem Request.unusedZero_iff {r : Request} {m0 m1 m2 : Word} {p0 p1 p2 : Prop} (h0 : r.w0 &&& ~~~m0 = 0 ↔ p0)
    (h1 : r.w1 &&& ~~~m1 = 0 ↔ p1) (h2 : r.w2 &&& ~~~m2 = 0 ↔ p2) :
    r.unusedZero m0 m1 m2 = true ↔ r.w3 = 0 ∧ p0 ∧ p1 ∧ p2 := by
  simp only [Request.unusedZero, Bool.and_eq_true, beq_iff_eq, h0, h1, h2, and_assoc, and_comm (a := r.w3 = 0)]

/-- The unused bits of a mask written out. -/
theorem and_not_iff (w : Word) {m n : Word} (h : ~~~m = n) : w &&& ~~~m = 0 ↔ w &&& n = 0 := by rw [h]

/-- A word of which no bit is used is 0. -/
theorem and_not_zero_iff (w : Word) : w &&& ~~~(0 : Word) = 0 ↔ w = 0 := by
  rw [and_not_eq_zero_iff, eq_comm]
  simp

/-- A word of which every bit is used may be any. -/
theorem and_not_ones_iff (w : Word) : w &&& ~~~(0xFFFFFFFF : Word) = 0 ↔ True :=
  (and_not_iff w (by decide)).trans (by simp : w &&& 0 = 0 ↔ True)

theorem fieldOf_low (w : Word) (width : Nat) : fieldOf w 0 width = w.toNat % 2 ^ width := by simp [fieldOf]

theorem Request.detachLimit_eq (r : Request) : r.detachLimit = r.w2.toNat % 65536 := fieldOf_low r.w2 16
theorem Request.selectRetries_eq (r : Request) : r.selectRetries = r.w2.toNat / 65536 % 16 := by
  simp [Request.selectRetries, fieldOf]
theorem Request.rateCode_eq (r : Request) : r.rateCode = r.w1.toNat / 16 % 16 := by
  simp [Request.rateCode, fieldOf]
theorem Request.respLimit_eq (r : Request) : r.respLimit = r.w2.toNat % 65536 := fieldOf_low r.w2 16
theorem Request.startLimit_eq (r : Request) : r.startLimit = r.w1.toNat % 16 := fieldOf_low r.w1 4
theorem Request.windowUs_eq (r : Request) : r.windowUs = r.w2.toNat % 65536 := fieldOf_low r.w2 16

/-- The checks are those of the tables. -/
theorem Request.inRange_iff (r : Request) : r.inRange = true ↔ fieldsInRange r := by
  have hunit : r.w0 &&& ~~~unitMask = 0 ↔ r.w0 &&& 0xFFE0FC00 = 0 := and_not_iff _ (by decide)
  have hlane : r.w0 &&& ~~~laneMask = 0 ↔ r.w0 &&& 0xFFFFFC00 = 0 := and_not_iff _ (by decide)
  have hcode : r.w0 &&& ~~~codeMask = 0 ↔ r.w0 &&& 0xFFFFFF00 = 0 := and_not_iff _ (by decide)
  have hlow : r.w2 &&& ~~~(0x0000FFFF : Word) = 0 ↔ r.w2.toNat < 65536 := and_not_lowMask_eq_zero_iff _ 16 (by decide)
  unfold Request.inRange fieldsInRange
  cases r.code with
  | openUnit =>
    have hw2 : r.w2 &&& ~~~(0x000FFFFF : Word) = 0 ↔ r.w2 &&& 0xFFF00000 = 0 := and_not_iff _ (by decide)
    simp only [Bool.and_eq_true, decide_eq_true_eq, Request.unusedZero_iff hunit (and_not_ones_iff r.w1) hw2,
      r.detachLimit_eq, r.selectRetries_eq, and_assoc, true_and]
  | startChain =>
    have hw1 : r.w1 &&& ~~~(0xFFFFFFF0 : Word) = 0 ↔ r.w1.toNat % 16 = 0 := and_lowMask_eq_zero_iff _ 4 (by decide)
    exact Request.unusedZero_iff hunit hw1 hlow
  | closeUnit | haltUnit | probeUnit | collectReport =>
    exact Request.unusedZero_iff hunit (and_not_zero_iff r.w1) (and_not_zero_iff r.w2)
  | laneControl =>
    have hw1 : r.w1 &&& ~~~(0x000000F1 : Word) = 0 ↔ r.w1 &&& 0xFFFFFF0E = 0 := and_not_iff _ (by decide)
    simp only [Bool.and_eq_true, decide_eq_true_eq, Request.unusedZero_iff hlane hw1 hlow, r.rateCode_eq,
      r.respLimit_eq]
    constructor
    · rintro ⟨⟨⟨⟨h3, h0, h1, h2⟩, hrate⟩, hmin⟩, hmax⟩
      exact ⟨h3, h0, h1, hrate, by omega, by omega⟩
    · rintro ⟨h3, h0, h1, hrate, hmin, hmax⟩
      exact ⟨⟨⟨⟨h3, h0, h1, by omega⟩, hrate⟩, by omega⟩, by omega⟩
  | resetLane | laneStatus =>
    exact Request.unusedZero_iff hlane (and_not_zero_iff r.w1) (and_not_zero_iff r.w2)
  | setPolicy =>
    have hw1 : r.w1 &&& ~~~(0x0000000F : Word) = 0 ↔ r.w1.toNat < 16 := and_not_lowMask_eq_zero_iff _ 4 (by decide)
    simp only [Bool.and_eq_true, decide_eq_true_eq, Request.unusedZero_iff hcode hw1 hlow, r.startLimit_eq,
      r.windowUs_eq]
    constructor
    · rintro ⟨⟨⟨⟨h3, h0, h1, h2⟩, hmin⟩, hmax⟩, hwindow⟩
      exact ⟨h3, h0, by omega, by omega, by omega, by omega⟩
    · rintro ⟨h3, h0, hmin, hmax, hwindow, htop⟩
      exact ⟨⟨⟨⟨h3, h0, by omega, by omega⟩, by omega⟩, by omega⟩, by omega⟩
  | unknown => simp

/-- Ten codes are named (TABLE 58). -/
theorem Request.code_unknown_iff (r : Request) :
    r.code = .unknown ↔ r.w0.toNat % 256 = 0 ∨ 10 < r.w0.toNat % 256 := by
  unfold Request.code
  rw [fieldOf_low]
  generalize r.w0.toNat % 2 ^ 8 = code
  match code with
  | 0 | 1 | 2 | 3 | 4 | 5 | 6 | 7 | 8 | 9 | 10 => simp
  | k + 11 => simp

/-- Settles O12: `State.handle_atHead` where a check fails, and the checks read off the tables. -/
theorem badRequestsChangeNothing : Obligations.BadRequestsChangeNothing := by
  refine ⟨fun c code s r rest hc h hbad => ?_, Request.inRange_iff, Request.code_unknown_iff⟩
  obtain ⟨act, hact⟩ := exec_handler hc
  have hin : ¬r.inRange = true := fun hin => hbad (r.inRange_iff.mp hin)
  rw [hact s, State.handle_atHead h act, if_neg hin]
  exact ⟨_, rfl, answered_answeredWith s r rest _ rfl, s.answeredWith_same r rest _, rfl⟩

end Sys2Proof.Machine

/-!
The requests on a unit: the refusals of OPEN, START and HALT, and CLOSE and PROBE.
-/
namespace Sys2Proof.Machine

open Sys2Proof.Claims

/-! ### Refusals -/

/-- A request whose action leaves the blocks is answered, and the blocks are left, the update count included. -/
theorem exec_answer_only {c : Instr} {code : ReqCode} {act : Request → Blocks → Blocks × Answer} {s : State} {r : Request}
    {rest : List Request} {result : Result} {d1 d2 d3 : Word} (h : taken s r rest code)
    (hc : exec c s = .next (s.handle code act)) (ha : act r s.blocks = (s.blocks, ⟨result, d1, d2, d3⟩)) :
    ∃ t, exec c s = .next t ∧ answered s t r rest result d1 d2 d3 ∧ t.blocks = s.blocks := by
  refine ⟨_, exec_taken h hc, answered_answeredWith s r rest _ ?_, ?_⟩ <;> rw [ha]
  exact s.answeredWith_same r rest _

theorem CtxState.code_lt (x : CtxState) : x.code < 8 := by cases x <;> decide
theorem LaneState.code_lt (x : LaneState) : x.code < 11 := by cases x <;> decide

/-- A data word that is one number below 2 ^ `width`. -/
theorem withFields_low (result : Result) {width v : Nat} (hw : width ≤ 32) (hv : v < 2 ^ width) :
    withFields result [⟨0, width, v⟩] = ⟨result, BitVec.ofNat 32 v, 0, 0⟩ :=
  withFields_eq result (by simpa [fieldsFrom] using hw) (by simp [fieldSum, Nat.mod_eq_of_lt hv])

theorem withFields_slot (result : Result) (k : Slot) :
    withFields result [⟨0, 6, k.val⟩] = ⟨result, BitVec.ofNat 32 k.val, 0, 0⟩ :=
  withFields_low result (by decide) (Nat.lt_of_lt_of_le k.isLt (by decide))

theorem withFields_ctxState (result : Result) (x : CtxState) :
    withFields result [⟨0, 4, x.code⟩] = ⟨result, BitVec.ofNat 32 x.code, 0, 0⟩ :=
  withFields_low result (by decide) (Nat.lt_of_lt_of_le x.code_lt (by decide))

theorem withFields_laneState (result : Result) (x : LaneState) :
    withFields result [⟨0, 4, x.code⟩] = ⟨result, BitVec.ofNat 32 x.code, 0, 0⟩ :=
  withFields_low result (by decide) (Nat.lt_of_lt_of_le x.code_lt (by decide))

/-- A HALT that leaves the state names it twice (TABLE 61). -/
theorem haltAnswer_same (result : Result) (x : CtxState) :
    haltAnswer result x x = ⟨result, BitVec.ofNat 32 (17 * x.code), 0, 0⟩ := by
  have hx := x.code_lt
  refine withFields_eq result (by simp [fieldsFrom]) ?_
  simp only [fieldSum]
  omega

/-- A running context is none of those that START and CLOSE tell apart. -/
theorem CtxState.running_ne {x : CtxState} (h : x.running = true) : x ≠ .reported ∧ x ≠ .idle := by
  constructor <;> rintro rfl <;> cases h

/-! ### The actions that answer only -/

section
variable {b : Blocks} {r : Request}

/-- With every slot taken there is none to bind (R37). -/
theorem Blocks.doOpen_full (hl : b.lookup r.lane r.unit = none) (hfull : ∀ k : Slot, (b.ctx k).state ≠ .free) :
    Blocks.doOpen r b = (b, bare .tableFull) := by
  rw [Blocks.doOpen, Blocks.onBound_none _ _ _ _ hl, b.lowestFree_eq_none hfull]

variable {k : Slot} (hl : b.lookup r.lane r.unit = some k)
include hl

theorem Blocks.doOpen_bound : Blocks.doOpen r b = (b, ⟨.alreadyOpen, BitVec.ofNat 32 k.val, 0, 0⟩) := by
  rw [Blocks.doOpen, Blocks.onBound_some _ _ _ _ k hl, withFields_slot]

theorem Blocks.doStart_reported (hs : (b.ctx k).state = .reported) :
    Blocks.doStart r b = (b, bare .reportPending) := by
  rw [Blocks.doStart, Blocks.onBound_some _ _ _ _ k hl]
  simp only [hs]

theorem Blocks.doStart_running (hs : (b.ctx k).state.running = true) :
    Blocks.doStart r b = (b, ⟨.busy, BitVec.ofNat 32 (b.ctx k).state.code, 0, 0⟩) := by
  obtain ⟨hrep, hidle⟩ := CtxState.running_ne hs
  rw [Blocks.doStart, Blocks.onBound_some _ _ _ _ k hl, ← withFields_ctxState]
  split
  · exact absurd ‹_› hrep
  · exact absurd ‹_› hidle
  · rfl

/-- An IDLE context does not start on a lane that is disabled or in L_FAULT (R39). -/
theorem Blocks.doStart_laneUnavailable (hs : (b.ctx k).state = .idle)
    (hlane : (b.lane r.lane).state = .disabled ∨ (b.lane r.lane).state = .fault) :
    Blocks.doStart r b = (b, ⟨.laneUnavailable, BitVec.ofNat 32 (b.lane r.lane).state.code, 0, 0⟩) := by
  rw [Blocks.doStart, Blocks.onBound_some _ _ _ _ k hl, ← withFields_laneState]
  rcases hlane with hlane | hlane <;> simp only [hs, hlane]

theorem Blocks.doHalt_nothing (hs : (b.ctx k).state = .idle ∨ (b.ctx k).state = .reported) :
    Blocks.doHalt r b = (b, ⟨.nothingToHalt, BitVec.ofNat 32 (17 * (b.ctx k).state.code), 0, 0⟩) := by
  rw [Blocks.doHalt, Blocks.onBound_some _ _ _ _ k hl, Blocks.haltSlot, ← haltAnswer_same]
  rcases hs with hs | hs <;> simp only [hs]

theorem Blocks.doHalt_again
    (hs : (b.ctx k).state = .halting ∨ ((b.ctx k).state = .loading ∧ (b.ctx k).haltCause ≠ none)) :
    Blocks.doHalt r b = (b, ⟨.alreadyHalting, BitVec.ofNat 32 (17 * (b.ctx k).state.code), 0, 0⟩) := by
  rw [Blocks.doHalt, Blocks.onBound_some _ _ _ _ k hl, Blocks.haltSlot, ← haltAnswer_same]
  rcases hs with hs | ⟨hs, hcause⟩
  · simp only [hs]
  · simp only [hs, Option.isSome_iff_ne_none.mpr hcause, if_true]

theorem Blocks.doClose_reported (hs : (b.ctx k).state = .reported) :
    Blocks.doClose r b = (b, bare .reportPending) := by
  rw [Blocks.doClose, Blocks.onBound_some _ _ _ _ k hl]
  simp only [hs]

theorem Blocks.doClose_running (hs : (b.ctx k).state.running = true) :
    Blocks.doClose r b = (b, ⟨.busy, BitVec.ofNat 32 (b.ctx k).state.code, 0, 0⟩) := by
  obtain ⟨hrep, hidle⟩ := CtxState.running_ne hs
  rw [Blocks.doClose, Blocks.onBound_some _ _ _ _ k hl, ← withFields_ctxState]
  split
  · exact absurd ‹_› hrep
  · exact absurd ‹_› hidle
  · rfl

/-- CLOSE of an IDLE context frees its slot and unbinds its entry (R6). -/
theorem Blocks.doClose_idle (hs : (b.ctx k).state = .idle) : Blocks.doClose r b =
    ((b.setCtx k Context.reset).setIndex r.lane r.unit none, ⟨.accepted, BitVec.ofNat 32 k.val, 0, 0⟩) := by
  rw [Blocks.doClose, Blocks.onBound_some _ _ _ _ k hl, ← withFields_slot]
  simp only [hs]

end

/-- Settles O14: each refusal is an answer only. -/
theorem refusalsOfOpenStartAndHalt : Obligations.RefusalsOfOpenStartAndHalt := by
  refine ⟨fun s r rest h => ⟨fun k hl => ?_, fun hl hfull => ?_⟩,
    fun s r rest h => ⟨fun hl => ?_, fun k hl => ⟨fun hs => ?_, fun hs => ?_, fun hs hlane => ?_⟩⟩,
    fun s r rest h => ⟨fun hl => ?_, fun k hl => ⟨fun hs => ?_, fun hs => ?_⟩⟩⟩
  · exact exec_answer_only h rfl (Blocks.doOpen_bound hl)
  · exact exec_answer_only h rfl (Blocks.doOpen_full hl hfull)
  · exact exec_answer_only h rfl (s.blocks.onBound_none r _ _ hl)
  · exact exec_answer_only h rfl (Blocks.doStart_reported hl hs)
  · exact exec_answer_only h rfl (Blocks.doStart_running hl hs)
  · exact exec_answer_only h rfl (Blocks.doStart_laneUnavailable hl hs hlane)
  · exact exec_answer_only h rfl (s.blocks.onBound_none r _ _ hl)
  · exact exec_answer_only h rfl (Blocks.doHalt_nothing hl hs)
  · exact exec_answer_only h rfl (Blocks.doHalt_again hl hs)

/-- Settles O15: the slot freed, and the refusals. -/
theorem closeFreesAnIdleSlotAndIsRefusedOtherwise : Obligations.CloseFreesAnIdleSlotAndIsRefusedOtherwise := by
  refine fun s r rest h => ⟨fun hl => ?_, fun k hl => ⟨fun hs => ?_, fun hs => ?_, fun hs => ?_⟩⟩
  · exact exec_answer_only h rfl (s.blocks.onBound_none r _ _ hl)
  · have hclose := Blocks.doClose_idle hl hs
    refine ⟨_, exec_taken h rfl, answered_answeredWith s r rest _ (by rw [hclose]), ?_⟩
    simp only [State.answeredWith_blocks, hclose, otherCtxs, Blocks.settled_ctx, Blocks.settled_lookup,
      Blocks.settled_lanes, Blocks.setIndex_ctx]
    exact ⟨s.blocks.setCtx_ctx_same k _, fun j hj => s.blocks.setCtx_ctx_ne k j _ hj,
      Blocks.setIndex_lookup_same _ _ _ _, fun n u hnu => Blocks.setIndex_lookup_ne _ _ _ _ _ _ hnu, rfl⟩
  · exact exec_answer_only h rfl (Blocks.doClose_reported hl hs)
  · exact exec_answer_only h rfl (Blocks.doClose_running hl hs)

/-! ### PROBE -/

theorem entryKindCode_lt (e : Option EntryKind) : entryKindCode e < 4 := by
  rcases e with _ | _ | _ <;> decide

/-- The residual and the upper address bits that PROBE answers with (TABLE 61). -/
theorem Blocks.probeAnswer_d2 (b : Blocks) (k : Slot) (hres : (b.ctx k).residual < 65536) : (b.probeAnswer k).d2 =
    BitVec.ofNat 32 ((b.ctx k).residual + 65536 * ((b.ctx k).chainAddr.toNat / 2 ^ 32)) := by
  have haddr := (b.ctx k).chainAddr.isLt
  refine packWord_eq_ofNat (by simp [fieldsFrom]) ?_
  simp only [fieldSum]
  omega

theorem Blocks.probeAnswer_d3 (b : Blocks) (k : Slot) : (b.probeAnswer k).d3 = (b.ctx k).chainAddr.setWidth 32 := by
  apply BitVec.eq_of_toNat_eq
  rw [Blocks.probeAnswer, packWord_toNat (lo := 0) (by simp [fieldsFrom]), BitVec.toNat_setWidth]
  simp [fieldSum]

/-- The fields of the first word PROBE answers with (TABLE 61). -/
theorem Blocks.probeAnswer_d1 (b : Blocks) (k : Slot) : (b.probeAnswer k).d1.toNat =
    (b.ctx k).state.code + 256 * k.val + 65536 * entryKindCode (b.entryOf k)
      + 2 ^ 18 * (b.ctx k).lastStatus.isSome.toNat + 2 ^ 24 * ((b.ctx k).lastStatus.getD 0).toNat := by
  have hcode := (b.ctx k).state.code_lt
  have hk := k.isLt
  have hkind := entryKindCode_lt (b.entryOf k)
  have hmark := Bool.toNat_lt (b.ctx k).lastStatus.isSome
  have hbyte := ((b.ctx k).lastStatus.getD 0).isLt
  have hstatus : ((b.ctx k).lastStatus.map BitVec.toNat).getD 0 = ((b.ctx k).lastStatus.getD 0).toNat := by
    cases (b.ctx k).lastStatus <;> rfl
  rw [Blocks.probeAnswer, packWord_toNat (lo := 0) (by simp [fieldsFrom]), hstatus]
  simp only [fieldSum]
  omega

theorem Blocks.probeAnswer_mark (b : Blocks) (k : Slot) :
    (b.probeAnswer k).d1.getLsbD 18 = true ↔ (b.ctx k).lastStatus ≠ none := by
  rw [← Option.isSome_iff_ne_none]
  exact Bool.eq_iff_iff.mp (packWord_mark (by simp [fieldsFrom]) (by simp) (by decide))

theorem Blocks.doProbe_bound {b : Blocks} {r : Request} {k : Slot} (hl : b.lookup r.lane r.unit = some k)
    (hres : (b.ctx k).residual < 65536) : Blocks.doProbe r b = (b, ⟨.accepted, (b.probeAnswer k).d1,
      BitVec.ofNat 32 ((b.ctx k).residual + 65536 * ((b.ctx k).chainAddr.toNat / 2 ^ 32)),
      (b.ctx k).chainAddr.setWidth 32⟩) := by
  rw [Blocks.doProbe, Blocks.onBound_some _ _ _ _ k hl, ← b.probeAnswer_d2 k hres, ← b.probeAnswer_d3 k]
  rfl

/-- Settles O19: the data words are packed fields of the record. -/
theorem probeReadsAndChangesNothing : Obligations.ProbeReadsAndChangesNothing := by
  refine fun s r rest h => ⟨fun hl => exec_answer_only h rfl ?_, fun k hl hres => ?_⟩
  · rw [Blocks.doProbe, Blocks.onBound_none _ _ _ _ hl, Lane.defers,
      withFields_low .notOpen (by decide) (Bool.toNat_lt _)]
    cases (s.blocks.lane r.lane).deferred.getLsbD r.unit.val <;> rfl
  · obtain ⟨t, hexec, hans, hblocks⟩ := exec_answer_only (c := .probeUnit) h rfl (Blocks.doProbe_bound hl hres)
    have hd1 := s.blocks.probeAnswer_d1 k
    have hcode := (s.blocks.ctx k).state.code_lt
    have hk := k.isLt
    have hkind := entryKindCode_lt (s.blocks.entryOf k)
    have hmark := Bool.toNat_lt (s.blocks.ctx k).lastStatus.isSome
    have hbyte := ((s.blocks.ctx k).lastStatus.getD 0).isLt
    exact ⟨t, _, hexec, hblocks, hans, by omega, by omega, by omega, by omega, s.blocks.probeAnswer_mark k⟩

end Sys2Proof.Machine

/-!
The requests on a lane: LANE, POLICY and LANE_STATUS.
-/
namespace Sys2Proof.Machine

open Sys2Proof.Claims

/-! ### LANE -/

/-- A LANE that leaves the state names it twice (TABLE 61). -/
theorem laneAnswer_same (result : Result) (x : LaneState) :
    laneAnswer result x x = ⟨result, BitVec.ofNat 32 (17 * x.code), 0, 0⟩ := by
  have hx := x.code_lt
  refine withFields_eq result (by simp [fieldsFrom]) ?_
  simp only [fieldSum]
  omega

theorem laneAnswer_disabled (result : Result) (x : LaneState) :
    laneAnswer result x .disabled = ⟨result, BitVec.ofNat 32 x.code, 0, 0⟩ := by
  have hx := x.code_lt
  have hdisabled : LaneState.code .disabled = 0 := rfl
  refine withFields_eq result (by simp [fieldsFrom]) ?_
  simp only [fieldSum, hdisabled]
  omega

theorem Lane.withParams_eq (l : Lane) (r : Request) : l.withParams r =
    { l with rate := Fin.ofNat 4 (r.w1.toNat / 16 % 16), limit := r.w2.toNat % 65536 } := by
  rw [Lane.withParams, r.rateCode_eq, r.respLimit_eq]

/-- The parameters are those the lane holds (R44). -/
theorem Lane.paramsChange_false_iff (l : Lane) (r : Request) :
    l.paramsChange r = false ↔ l.rate.val = r.w1.toNat / 16 % 16 ∧ l.limit = r.w2.toNat % 65536 := by
  simp [Lane.paramsChange, r.rateCode_eq, r.respLimit_eq]

theorem Lane.withParams_unchanged {l : Lane} {r : Request} (h : l.paramsChange r = false) : l.withParams r = l := by
  obtain ⟨hrate, hlimit⟩ := (l.paramsChange_false_iff r).mp h
  rw [Lane.withParams_eq, ← hrate, ← hlimit, Fin.ofNat_val_eq_self]

/-- A LANE that passes the range checks carries a bit-rate code of two bits (TABLE 59). -/
theorem rate_of_taken {s : State} {r : Request} {rest : List Request} (h : taken s r rest .laneControl) :
    (Fin.ofNat 4 (r.w1.toNat / 16 % 16)).val = r.w1.toNat / 16 % 16 := by
  obtain ⟨⟨-, -, -, hcode⟩, hin⟩ := h
  have hfields := r.inRange_iff.mp hin
  simp only [fieldsInRange, hcode] at hfields
  obtain ⟨-, -, -, hrate, -, -⟩ := hfields
  exact Nat.mod_eq_of_lt (Nat.lt_succ_of_le hrate)

/-- At most every slot is running on a lane. -/
theorem Blocks.runningOn_le (b : Blocks) (n : LaneId) : b.runningOn n ≤ 40 := by
  have h := List.length_filter_le (fun s => b.onLane s n && (b.ctx s).state.running) allSlots
  rwa [allSlots, List.length_finRange] at h

section
variable {b : Blocks} {r : Request}

theorem Blocks.doLane_fault (hs : (b.lane r.lane).state = .fault) :
    Blocks.doLane r b = (b, ⟨.laneUnavailable, 0xAA, 0, 0⟩) := by
  simp only [Blocks.doLane, hs, laneAnswer_same]
  rfl

theorem Blocks.doLane_enables (hs : (b.lane r.lane).state = .disabled) (he : r.enable = true) :
    Blocks.doLane r b = (b.setLane r.lane ((b.lane r.lane).withParams r).enabled, ⟨.accepted, 0x10, 0, 0⟩) := by
  simp only [Blocks.doLane, hs, he, if_true]
  rfl

theorem Blocks.doLane_stores (hs : (b.lane r.lane).state = .disabled) (he : r.enable = false) :
    Blocks.doLane r b = (b.setLane r.lane ((b.lane r.lane).withParams r), ⟨.accepted, 0, 0, 0⟩) := by
  simp only [Blocks.doLane, hs, he, Bool.false_eq_true, if_false]
  rfl

variable (hf : (b.lane r.lane).state ≠ .fault) (hd : (b.lane r.lane).state ≠ .disabled)
include hf hd

theorem Blocks.doLane_unchanged (he : r.enable = true) (hp : (b.lane r.lane).paramsChange r = false) :
    Blocks.doLane r b = (b, ⟨.accepted, BitVec.ofNat 32 (17 * (b.lane r.lane).state.code), 0, 0⟩) := by
  simp only [Blocks.doLane_active r b hf hd, he, hp, Bool.not_false, Bool.and_self, if_true, laneAnswer_same]

/-- Running contexts hold back every LANE but an enable with the parameters in force (R44). -/
theorem Blocks.doLane_busy (hrun : 0 < b.runningOn r.lane)
    (h : r.enable = false ∨ (b.lane r.lane).paramsChange r = true) :
    Blocks.doLane r b = (b, ⟨.busy, BitVec.ofNat 32 (b.runningOn r.lane), 0, 0⟩) := by
  have hchange : ¬(r.enable && !(b.lane r.lane).paramsChange r) = true := by rcases h with h | h <;> simp [h]
  have hle := b.runningOn_le r.lane
  rw [Blocks.doLane_active r b hf hd, if_neg hchange, if_pos (Nat.ne_of_gt hrun),
    withFields_low .busy (by decide) (by omega)]

theorem Blocks.doLane_disables (hrun : b.runningOn r.lane = 0) (he : r.enable = false) :
    Blocks.doLane r b = (b.setLane r.lane ((b.lane r.lane).disabled.withParams r),
      ⟨.accepted, BitVec.ofNat 32 (b.lane r.lane).state.code, 0, 0⟩) := by
  have hoff : (b.lane r.lane).controlled r = (b.lane r.lane).disabled.withParams r := by simp [Lane.controlled, he]
  rw [Blocks.doLane_active r b hf hd, if_neg (by simp [he]), if_neg (by simp [hrun]), hoff, ← laneAnswer_disabled]
  rfl

/-- With no running context an enable stores the parameters, which changes nothing where they are those in force. -/
theorem Blocks.doLane_changes (hrun : b.runningOn r.lane = 0) (he : r.enable = true) :
    Blocks.doLane r b = (b.setLane r.lane ((b.lane r.lane).withParams r),
      ⟨.accepted, BitVec.ofNat 32 (17 * (b.lane r.lane).state.code), 0, 0⟩) := by
  cases hp : (b.lane r.lane).paramsChange r with
  | false => rw [Blocks.doLane_unchanged hf hd he hp, Lane.withParams_unchanged hp, b.setLane_self]
  | true =>
    have hon : (b.lane r.lane).controlled r = (b.lane r.lane).withParams r := by simp [Lane.controlled, he]
    rw [Blocks.doLane_active r b hf hd, if_neg (by simp [hp]), if_neg (by simp [hrun]), hon, ← laneAnswer_same]
    rfl

end

/-- A request that sets its lane is answered, and no other lane has changed. -/
theorem exec_sets_lane {s : State} {r : Request} {rest : List Request} {l : Lane} {result : Result} {d1 d2 d3 : Word}
    (h : taken s r rest .laneControl)
    (ha : Blocks.doLane r s.blocks = (s.blocks.setLane r.lane l, ⟨result, d1, d2, d3⟩)) :
    ∃ t, exec .laneControl s = .next t ∧ answered s t r rest result d1 d2 d3 ∧ t.blocks.lane r.lane = l
      ∧ otherLanes s t r.lane := by
  refine ⟨_, exec_taken h rfl, answered_answeredWith s r rest _ (by rw [ha]), ?_, fun m hm => ?_⟩
  all_goals rw [State.answeredWith_blocks, Blocks.settled_lane, ha]
  · exact Blocks.setLane_lane_same _ _ _
  · exact Blocks.setLane_lane_ne _ _ _ _ hm

/-- Settles O21: L_FAULT, L_DISABLED and the enabled lane, by `Blocks.doLane` in each. -/
theorem laneActsByTheLaneState : Obligations.LaneActsByTheLaneState := by
  rintro s r rest l same h rfl hsame
  have hrate := rate_of_taken h
  rw [← Lane.paramsChange_false_iff] at hsame
  refine ⟨fun hs => ?_, fun hs he => ?_, fun hs he => ?_, fun hf hd he hp => ?_, fun hf hd hrun hc => ?_,
    fun hf hd hrun he => ?_, fun hf hd hrun he => ?_⟩
  · exact exec_answer_only h rfl (Blocks.doLane_fault hs)
  · obtain ⟨t, hexec, hans, hlane, hother⟩ := exec_sets_lane h (Blocks.doLane_enables hs he)
    refine ⟨t, hexec, hans, hother, ?_⟩
    rw [hlane, Lane.withParams_eq]
    exact ⟨rfl, rfl, rfl, hrate, rfl, rfl, rfl, rfl, rfl, rfl⟩
  · obtain ⟨t, hexec, hans, hlane, hother⟩ := exec_sets_lane h (Blocks.doLane_stores hs he)
    exact ⟨t, hexec, hans, hother, hlane.trans (Lane.withParams_eq _ r)⟩
  · exact exec_answer_only h rfl (Blocks.doLane_unchanged hf hd he (hsame.mp hp))
  · refine exec_answer_only h rfl (Blocks.doLane_busy hf hd hrun (hc.imp_right fun hne => ?_))
    exact Bool.eq_true_of_not_eq_false fun hp => hne (hsame.mpr hp)
  · obtain ⟨t, hexec, hans, hlane, hother⟩ := exec_sets_lane h (Blocks.doLane_disables hf hd hrun he)
    refine ⟨t, hexec, hans, ?_⟩
    rw [outgoing, hlane, Lane.withParams_eq]
    exact ⟨rfl, rfl, rfl, hrate, rfl, rfl, hother⟩
  · obtain ⟨t, hexec, hans, hlane, hother⟩ := exec_sets_lane h (Blocks.doLane_changes hf hd hrun he)
    exact ⟨t, hexec, hans, hlane.trans (Lane.withParams_eq _ r), hother⟩

/-! ### POLICY -/

/-- With no lane waiting a decision grants none. -/
theorem Blocks.grantDecision_empty {b : Blocks} (h : b.window.permits = []) :
    b.grantDecision = { b with window := { b.window with asked := false } } := by
  rw [Blocks.grantDecision, h]
  rfl

/-- POLICY answers with the values in force before (R48). -/
theorem Blocks.doPolicy_answer (r : Request) {b : Blocks} (hlimit : b.window.startLimit < 16)
    (hus : b.window.windowUs < 65536) : (Blocks.doPolicy r b).2 =
      ⟨.accepted, BitVec.ofNat 32 (b.window.startLimit + 65536 * b.window.windowUs), 0, 0⟩ := by
  refine withFields_eq _ (by simp [fieldsFrom]) ?_
  simp only [fieldSum]
  omega

/-- The blocks with the two values of POLICY (R48). -/
def Blocks.withPolicy (b : Blocks) (r : Request) : Blocks :=
  { b with window := { b.window with startLimit := r.w1.toNat % 16, windowUs := r.w2.toNat % 65536 } }

/-- A grant decision follows the new values (R133), and the update count is left. -/
theorem Blocks.settled_doPolicy (r : Request) (b : Blocks) :
    b.settled (Blocks.doPolicy r b).1 = (b.withPolicy r).grantDecision := by
  have hdo : (Blocks.doPolicy r b).1 = (b.withPolicy r).grantDecision := by
    rw [Blocks.doPolicy, r.startLimit_eq, r.windowUs_eq]
    rfl
  obtain ⟨lanes, ledger, permits, hg⟩ := (b.withPolicy r).grantDecision_spec
  rw [hdo]
  exact b.settled_of_same _ (by rw [hg]; rfl) (by rw [hg]; rfl)

/-! ### LANE_STATUS -/

/-- The fields of the first word LANE_STATUS answers with (TABLE 61). -/
theorem Lane.statusAnswer_d1 (l : Lane) (h : l.limit < 8192) : l.statusAnswer.d1.toNat =
    l.state.code + 16 * l.enable.toNat + 32 * l.rate.val + 128 * l.faultCause.isSome.toNat + 256 * l.lineStuck.toNat
      + 512 * l.strayFrame.toNat + 65536 * l.limit := by
  have hcode := l.state.code_lt
  have hrate := l.rate.isLt
  have henable := Bool.toNat_lt l.enable
  have hfault := Bool.toNat_lt l.faultCause.isSome
  have hstuck := Bool.toNat_lt l.lineStuck
  have hstray := Bool.toNat_lt l.strayFrame
  rw [Lane.statusAnswer, packWord_toNat (lo := 0) (by simp [fieldsFrom])]
  simp only [fieldSum]
  omega

/-- The marks of the first word LANE_STATUS answers with (TABLE 61). -/
theorem Lane.statusAnswer_marks (l : Lane) : (l.statusAnswer.d1.getLsbD 4 = true ↔ l.state ≠ .disabled)
    ∧ (l.statusAnswer.d1.getLsbD 7 = true ↔ l.faultCause ≠ none) ∧ l.statusAnswer.d1.getLsbD 8 = l.lineStuck
    ∧ l.statusAnswer.d1.getLsbD 9 = l.strayFrame := by
  have henable : l.enable = true ↔ l.state ≠ .disabled := by simp [Lane.enable]
  rw [← henable, ← Option.isSome_iff_ne_none]
  refine ⟨Bool.eq_iff_iff.mp ?_, Bool.eq_iff_iff.mp ?_, ?_, ?_⟩
  all_goals exact packWord_mark (by simp [fieldsFrom]) (by simp) (by decide)

theorem Lane.statusAnswer_d3 (l : Lane) (hr : l.readyQ.length < 64) (hh : l.haltList.length < 64) :
    l.statusAnswer.d3 = BitVec.ofNat 32 (l.readyQ.length + 256 * l.haltList.length) := by
  refine packWord_eq_ofNat (by simp [fieldsFrom]) ?_
  simp only [fieldSum]
  omega

/-- Settles O23: `Blocks.withPolicy` and its decision, and the fields of `Lane.statusAnswer`. -/
theorem policyReplacesBothValuesAndLaneStatusClearsStrayFrame :
    Obligations.PolicyReplacesBothValuesAndLaneStatusClearsStrayFrame := by
  refine ⟨fun s r rest h hlimit hus => ?_, ?_⟩
  · refine ⟨_, exec_taken h rfl, answered_answeredWith s r rest _ (Blocks.doPolicy_answer r hlimit hus), ?_⟩
    rw [State.answeredWith_blocks, Blocks.settled_doPolicy]
    refine ⟨?_, ?_, fun hq => (s.blocks.withPolicy r).grantDecision_empty hq⟩
    all_goals
      obtain ⟨lanes, ledger, permits, hg⟩ := (s.blocks.withPolicy r).grantDecision_spec
      rw [hg]
      rfl
  · rintro s r rest l h rfl hlimit hready hhalt
    have hd1 := (s.blocks.lane r.lane).statusAnswer_d1 hlimit
    have hcode := (s.blocks.lane r.lane).state.code_lt
    have hrate := (s.blocks.lane r.lane).rate.isLt
    have henable := Bool.toNat_lt (s.blocks.lane r.lane).enable
    have hfault := Bool.toNat_lt (s.blocks.lane r.lane).faultCause.isSome
    have hstuck := Bool.toNat_lt (s.blocks.lane r.lane).lineStuck
    have hstray := Bool.toNat_lt (s.blocks.lane r.lane).strayFrame
    obtain ⟨h4, h7, h8, h9⟩ := (s.blocks.lane r.lane).statusAnswer_marks
    have hsettled : (s.answeredWith r rest (Blocks.doLaneStatus r s.blocks)).blocks =
        s.blocks.modLane r.lane fun l => { l with strayFrame := false } := s.blocks.settled_of_same _ rfl rfl
    refine ⟨s.answeredWith r rest (Blocks.doLaneStatus r s.blocks), _, exec_taken h rfl, answered_answeredWith s r rest _ ?_,
      by omega, by omega, by omega, h4, h7, h8, h9, ?_, fun m hm => ?_, ?_, ?_⟩
    · rw [← Lane.statusAnswer_d3 _ hready hhalt]
      rfl
    · rw [hsettled, Blocks.modLane_lane_same]
    · rw [hsettled, Blocks.modLane_lane_ne _ _ _ _ hm]
    · rw [sameTables, hsettled]
      exact ⟨rfl, rfl, rfl, rfl, rfl, rfl⟩
    · rw [elsewhere, hsettled]
      exact ⟨rfl, rfl, rfl, rfl, rfl⟩

end Sys2Proof.Machine

/-!
The answers to a NEED: DOUT of the bytes staged, and STOP (R63, R107, R112, R115).
-/
namespace Sys2Proof.Machine

open Sys2Proof.Claims

/-! ### A NEED of the served unit -/

/-- A NEED of the served unit leads, in the states of a connection that take it, to what `Blocks.needTaken` makes of it. -/
theorem exec_need {s : State} {n : LaneId} {k : Slot} {chunks : Nat} {c : Blocks} (hrx : receiving s n)
    (hserved : serving s n k) (hst : (s.blocks.lane n).state = .transfer ∨ (s.blocks.lane n).state = .ending)
    (h1 : 1 ≤ chunks) (h8 : chunks ≤ 8) (hc : (s.blocks.heard n).needTaken n chunks = c) :
    ∃ t, exec (.frameNeed n (s.blocks.unitOf k) chunks) s = .next t ∧ t.port = s.port ∧ t.pending = s.pending
      ∧ t.blocks = s.blocks.settled c := by
  obtain ⟨tx, q, hlane⟩ := s.blocks.heard_lane_spec n
  have hconn := Blocks.inConnection_served (s.blocks.heard n) n (s.blocks.unitOf k) (fun b => b.needTaken n chunks)
    (by rw [hlane]; exact Or.inr (hst.imp_right Or.inr))
    (Blocks.servedUnit_eq (s.blocks.heard n) n k .connection (by rw [hlane]; exact hserved)).symm
  have hwf : (decide (1 ≤ chunks) && decide (chunks ≤ 8)) = true := by simp [h1, h8]
  exact exec_frame (i := .frameNeed n (s.blocks.unitOf k) chunks)
    (f := fun b => b.inConnection n (s.blocks.unitOf k) fun b => b.needTaken n chunks) hrx
    (by rw [← hwf]; rfl) (hconn.trans hc)

/-! ### DOUT -/

/-- The blocks at which the chunks of a NEED are owed and the response timer stands still (R107). -/
def Blocks.owing (b : Blocks) (n : LaneId) (chunks : Nat) : Blocks :=
  b.modLane n fun l => { l with doutOwed := chunks, timer := none }

section
variable (b : Blocks) (n : LaneId) (chunks : Nat)

theorem Blocks.owing_lane : (b.owing n chunks).lane n = { b.lane n with doutOwed := chunks, timer := none } :=
  b.modLane_lane_same n fun l => { l with doutOwed := chunks, timer := none }

theorem Blocks.arrived_owing (k : Slot) : Blocks.Arrived n k b (b.owing n chunks) :=
  Blocks.arrived_modLane n k b (fun l => { l with doutOwed := chunks, timer := none }) rfl rfl rfl

theorem Blocks.needTaken_owes (hst : (b.lane n).state = .transfer) (hdir : (b.lane n).dir = .outbound)
    (howed : (b.lane n).doutOwed = 0) (hnotice : (b.lane n).haltNotice = false) (hres : (b.lane n).residual ≠ 0) :
    b.needTaken n chunks = (b.owing n chunks).pump n := by
  simp only [Blocks.needTaken, hst, hdir, if_true, Blocks.needOut]
  rw [if_neg (not_not.mpr howed), hnotice, if_neg nofun, if_pos hres]
  rfl

/-- The DOUT goes out where one is owed, bytes are staged, and nothing holds it back. -/
theorem Blocks.sendDout_sends (howed : (b.lane n).doutOwed ≠ 0) (hfree : ¬(b.lane n).heldBack)
    (hbytes : (b.lane n).staging.get (b.lane n).staging.drain ≠ []) :
    b.sendDout n = b.send n (.dout (b.servedUnit n) (b.lane n).outToggle
      (((b.lane n).staging.get (b.lane n).staging.drain).take 16)) := by
  obtain ⟨htx, hrx, hnotice⟩ : (b.lane n).tx = none ∧ (b.lane n).rx.isAssembling = false
      ∧ (b.lane n).haltNotice = false := by simpa [Lane.heldBack] using hfree
  refine if_pos ⟨howed, by simp [htx], hrx, hnotice, ?_⟩
  simpa [List.take_eq_nil_iff] using hbytes

/-- So it does when the pumps run; the staging read asked for behind it sends nothing. -/
theorem Blocks.sent_pump_dout (hst : (b.lane n).state = .transfer) (hdir : (b.lane n).dir = .outbound)
    (howed : (b.lane n).doutOwed ≠ 0) (hfree : ¬(b.lane n).heldBack)
    (hbytes : (b.lane n).staging.get (b.lane n).staging.drain ≠ []) :
    Lane.Sent (b.lane n) ((b.pump n).lane n) [.dout (b.servedUnit n) (b.lane n).outToggle
      (((b.lane n).staging.get (b.lane n).staging.drain).take 16)] := by
  rw [b.pump_outbound n hst hdir, b.sendDout_sends n howed hfree hbytes]
  refine Lane.Sent.trans (fs := [_]) ?_ (Blocks.memOnly_askRead _ n).sent
  rw [Blocks.send_lane_same]
  exact Lane.sent_send _ _

end

theorem Lane.outgoing_eq_nil {l : Lane} : l.outgoing = [] ↔ l.tx = none ∧ l.txQueue = [] := by
  simp [Lane.outgoing]

/-- A lane with nothing outgoing only listens again when the reception ends. -/
theorem Blocks.heard_lane_silent (b : Blocks) (n : LaneId) (h : (b.lane n).outgoing = []) :
    (b.heard n).lane n = { b.lane n with rx := .listening } := by
  obtain ⟨-, hq⟩ := Lane.outgoing_eq_nil.mp h
  simp only [Blocks.heard_lane, Lane.endReception, Lane.drive, hq]
  exact ite_self _

/-- The first clause of O37. (That the residual stands and DOUT owed is the whole chunk count while the DOUT is on the wire
is log 11: a DOUT counts at its last stop bit.) -/
theorem need_answered_with_dout (s : State) (n : LaneId) (k : Slot) (chunks : Nat) (d : Descriptor)
    (hrx : receiving s n) (hst : (s.blocks.lane n).state = .transfer) (hserved : serving s n k)
    (hd : (s.blocks.lane n).desc = some d) (hdir : d.dir = .outbound) (hnotice : (s.blocks.lane n).haltNotice = false)
    (hsilent : outgoing s n = []) (howed : (s.blocks.lane n).doutOwed = 0) (hres : (s.blocks.lane n).residual ≠ 0)
    (hbytes : (s.blocks.lane n).staging.get (s.blocks.lane n).staging.drain ≠ []) (h1 : 1 ≤ chunks) (h8 : chunks ≤ 8) :
    ∃ t, exec (.frameNeed n (s.blocks.unitOf k) chunks) s = .next t ∧ t.port = s.port ∧ elsewhere s t
      ∧ (t.blocks.lane n).doutOwed = chunks ∧ (t.blocks.lane n).timer = none
      ∧ sends s t n (.dout (s.blocks.unitOf k) (s.blocks.lane n).outToggle
          (((s.blocks.lane n).staging.get (s.blocks.lane n).staging.drain).take 16))
      ∧ (t.blocks.lane n).residual = (s.blocks.lane n).residual ∧ t.blocks.ctxs = s.blocks.ctxs ∧ otherLanes s t n := by
  have hout : (s.blocks.lane n).dir = .outbound := by rw [Lane.dir, hd]; exact hdir
  obtain ⟨htx, -⟩ := Lane.outgoing_eq_nil.mp hsilent
  have hlane := s.blocks.heard_lane_silent n hsilent
  obtain ⟨t, hexec, hport, hp, ht⟩ := exec_need hrx hserved (Or.inl hst) h1 h8
    ((s.blocks.heard n).needTaken_owes n chunks (by rw [hlane]; exact hst) (by rw [hlane]; exact hout)
      (by rw [hlane]; exact howed) (by rw [hlane]; exact hnotice) (by rw [hlane]; exact hres))
  have harr := (s.blocks.arrived_heard n k).trans ((s.blocks.heard n).arrived_owing n chunks k)
  have hl := (s.blocks.heard n).owing_lane n chunks
  have hctxs : ((s.blocks.heard n).owing n chunks).ctxs = s.blocks.ctxs := rfl
  generalize (s.blocks.heard n).owing n chunks = b at ht harr hl hctxs
  rw [hlane] at hl
  have hstB : (b.lane n).state = .transfer := by rw [hl]; exact hst
  have hpumped := b.pumped_transfer n hstB
  have hsent := b.sent_pump_dout n hstB (by rw [hl]; exact hout) (by rw [hl]; exact Nat.ne_of_gt h1)
    (by simp [Lane.heldBack, hl, htx, hnotice, Receiver.isAssembling]) (by rw [hl]; exact hbytes)
  rw [b.servedUnit_eq n k .connection (by rw [hl]; exact hserved), harr.toLocal.toReach.unitOf] at hsent
  have hsent' := harr.sent.trans hsent
  obtain ⟨mr, sa, st, cr, hn, tx', q', hfields⟩ := hpumped.lane
  have htl : t.blocks.lane n = (b.pump n).lane n := by rw [ht, Blocks.settled_lane]
  rw [← htl, hl] at hsent'
  rw [← htl, hl] at hfields
  refine ⟨t, hexec, hport,
    elsewhere_of_local (k := k) (by rw [ht]; exact (harr.toLocal.trans (hpumped.toLocal k)).settled _) hp,
    by rw [hfields], by rw [hfields], sends_of_sent hsent', by rw [hfields], ?_, ?_⟩
  · rw [ht]
    exact hpumped.ctxs.trans hctxs
  · rw [otherLanes, ht]
    exact (harr.apart.trans hpumped.apart).settled _

/-! ### STOP -/

section
variable (b : Blocks) (n : LaneId) (chunks : Nat)

theorem Blocks.sendStop_lane : (b.sendStop n).lane n = Lane.send
    { b.lane n with state := .ending, closing := none, doutOwed := 0, heldNeed := none, timer := none }
    (.stop (b.servedUnit n)) := by
  rw [Blocks.sendStop, Blocks.send_lane_same, Blocks.modLane_lane_same]

theorem Blocks.laneOnly_sendStop : Blocks.LaneOnly n b (b.sendStop n) :=
  (b.laneOnly_modLane n _).trans (Blocks.laneOnly_send _ n _)

theorem Blocks.sent_sendStop : Lane.Sent (b.lane n) ((b.sendStop n).lane n) [.stop (b.servedUnit n)] := by
  rw [Blocks.sendStop_lane]
  refine Lane.Sent.send ?_ _
  exact .of_wire rfl rfl rfl

/-- The blocks at which the excess of data asked for is recorded (R63). -/
def Blocks.tooLong (b : Blocks) (n : LaneId) (k : Slot) : Blocks :=
  (b.modCtx k fun c => { c with flags := c.flags.addLengthLong }).modLane n fun l => { l with lengthCond := true }

theorem Blocks.tooLong_lane (k : Slot) : (b.tooLong n k).lane n = { b.lane n with lengthCond := true } :=
  Blocks.modLane_lane_same _ n fun l => { l with lengthCond := true }

theorem Blocks.tooLong_ctx (k : Slot) :
    (b.tooLong n k).ctx k = { b.ctx k with flags := { (b.ctx k).flags with lengthLong := true } } := by
  rw [Blocks.tooLong, Blocks.modLane_ctx, Blocks.modCtx_ctx_same]
  rfl

theorem Blocks.arrived_tooLong (k : Slot) : Blocks.Arrived n k b (b.tooLong n k) :=
  Blocks.Arrived.trans (b := b.modCtx k fun c => { c with flags := c.flags.addLengthLong })
    ⟨Blocks.local_modCtx _ fun _ => rfl, .of_lanes n fun _ => rfl, .refl _⟩
    (Blocks.arrived_modLane n k _ (fun l => { l with lengthCond := true }) rfl rfl rfl)

theorem Blocks.needTaken_tooLong (k : Slot) (hst : (b.lane n).state = .transfer) (hdir : (b.lane n).dir = .noData)
    (hnotice : (b.lane n).haltNotice = false) (hserved : (b.lane n).served = some ⟨k, .connection⟩) :
    b.needTaken n chunks = (b.tooLong n k).sendStop n := by
  simp only [Blocks.needTaken, hst, hdir, if_true, Blocks.needNone]
  rw [hnotice, if_neg nofun, Blocks.needBeyond, b.addServedFlag_eq n k .connection _ hserved]
  rfl

theorem Blocks.needTaken_awaitsEnd (hst : (b.lane n).state = .ending) (hcl : (b.lane n).closing = none)
    (hnotice : (b.lane n).haltNotice = false) : b.needTaken n chunks = b.sendStop n := by
  have hlink : (b.lane n).inLinkData = false := by rw [Lane.inLinkData, hst]; rfl
  have hawaits : (b.lane n).awaitsEnd = true := by rw [Lane.awaitsEnd, hst, hcl]; rfl
  simp only [Blocks.needTaken, hlink, hawaits, hnotice, if_true, Bool.false_eq_true, if_false]
  exact if_neg (by rw [hst]; nofun)

end

/-- STOP, in the words of the statements: `b` are the blocks at which it is sent. -/
theorem stopped_of_arrived {s t : State} {n : LaneId} {k : Slot} {b : Blocks} (h : Blocks.Arrived n k s.blocks b)
    (hserved : (b.lane n).served = some ⟨k, .connection⟩) (hp : t.pending = s.pending)
    (ht : t.blocks = s.blocks.settled (b.sendStop n)) :
    elsewhere s t ∧ (t.blocks.lane n).state = .ending ∧ (t.blocks.lane n).closing = none
      ∧ sends s t n (.stop (s.blocks.unitOf k)) ∧ (t.blocks.lane n).lengthCond = (b.lane n).lengthCond
      ∧ t.blocks.ctxs = b.ctxs ∧ otherLanes s t n := by
  have honly := b.laneOnly_sendStop n
  have hsent := b.sent_sendStop n
  rw [b.servedUnit_eq n k .connection hserved, h.toLocal.toReach.unitOf] at hsent
  have htl : t.blocks.lane n = (b.sendStop n).lane n := by rw [ht, Blocks.settled_lane]
  refine ⟨elsewhere_of_local (k := k) (by rw [ht]; exact (h.toLocal.trans (honly.toLocal k)).settled _) hp, ?_, ?_,
    sends_of_sent (by rw [htl]; exact h.sent.trans hsent), ?_, by rw [ht]; exact honly.ctxs, ?_⟩
  · rw [htl, Blocks.sendStop_lane, Lane.send_state]
  · rw [htl, Blocks.sendStop_lane, Lane.send_closing]
  · rw [htl, Blocks.sendStop_lane, Lane.send_lengthCond]
  · rw [otherLanes, ht]
    exact (h.apart.trans honly.apart).settled _

theorem need_without_data_stopped (s : State) (n : LaneId) (k : Slot) (chunks : Nat) (d : Descriptor)
    (hrx : receiving s n) (hst : (s.blocks.lane n).state = .transfer) (hserved : serving s n k)
    (hd : (s.blocks.lane n).desc = some d) (hdir : d.dir = .noData) (hnotice : (s.blocks.lane n).haltNotice = false)
    (h1 : 1 ≤ chunks) (h8 : chunks ≤ 8) :
    ∃ t, exec (.frameNeed n (s.blocks.unitOf k) chunks) s = .next t ∧ t.port = s.port ∧ elsewhere s t
      ∧ (t.blocks.lane n).state = .ending ∧ (t.blocks.lane n).closing = none
      ∧ sends s t n (.stop (s.blocks.unitOf k)) ∧ (t.blocks.lane n).lengthCond = true
      ∧ t.blocks.ctx k = { s.blocks.ctx k with flags := { (s.blocks.ctx k).flags with lengthLong := true } }
      ∧ otherCtxs s t k ∧ otherLanes s t n := by
  obtain ⟨tx, q, hlane⟩ := s.blocks.heard_lane_spec n
  have hservedH : ((s.blocks.heard n).lane n).served = some ⟨k, .connection⟩ := by rw [hlane]; exact hserved
  obtain ⟨t, hexec, hport, hp, ht⟩ := exec_need hrx hserved (Or.inl hst) h1 h8
    ((s.blocks.heard n).needTaken_tooLong n chunks k (by rw [hlane]; exact hst)
      (by rw [hlane, Lane.dir, hd]; exact hdir) (by rw [hlane]; exact hnotice) hservedH)
  have harr := (s.blocks.arrived_heard n k).trans ((s.blocks.heard n).arrived_tooLong n k)
  have hl := (s.blocks.heard n).tooLong_lane n k
  have hctx := (s.blocks.heard n).tooLong_ctx n k
  generalize (s.blocks.heard n).tooLong n k = b at ht harr hl hctx
  obtain ⟨helse, hstate, hclosing, hsends, hcond, hctxs, hlanes⟩ :=
    stopped_of_arrived harr (by rw [hl]; exact hservedH) hp ht
  refine ⟨t, hexec, hport, helse, hstate, hclosing, hsends, by rw [hcond, hl], ?_, otherCtxs_of_ctxs harr hctxs, hlanes⟩
  have htk : t.blocks.ctx k = b.ctx k := by simp only [Blocks.ctx, hctxs]
  rw [htk, hctx]
  rfl

/-- The third clause of O37 (log 34: R115 against the example after TABLE 30). -/
theorem need_awaiting_end_stopped (s : State) (n : LaneId) (k : Slot) (chunks : Nat) (hrx : receiving s n)
    (hst : (s.blocks.lane n).state = .ending) (hcl : (s.blocks.lane n).closing = none) (hserved : serving s n k)
    (hnotice : (s.blocks.lane n).haltNotice = false) (h1 : 1 ≤ chunks) (h8 : chunks ≤ 8) :
    ∃ t, exec (.frameNeed n (s.blocks.unitOf k) chunks) s = .next t ∧ t.port = s.port ∧ elsewhere s t
      ∧ (t.blocks.lane n).state = .ending ∧ (t.blocks.lane n).closing = none
      ∧ sends s t n (.stop (s.blocks.unitOf k)) ∧ (t.blocks.lane n).lengthCond = (s.blocks.lane n).lengthCond
      ∧ t.blocks.ctxs = s.blocks.ctxs ∧ otherLanes s t n := by
  obtain ⟨tx, q, hlane⟩ := s.blocks.heard_lane_spec n
  obtain ⟨t, hexec, hport, hp, ht⟩ := exec_need hrx hserved (Or.inr hst) h1 h8
    ((s.blocks.heard n).needTaken_awaitsEnd n chunks (by rw [hlane]; exact hst) (by rw [hlane]; exact hcl)
      (by rw [hlane]; exact hnotice))
  obtain ⟨helse, hstate, hclosing, hsends, hcond, hctxs, hlanes⟩ :=
    stopped_of_arrived (s.blocks.arrived_heard n k) (by rw [hlane]; exact hserved) hp ht
  exact ⟨t, hexec, hport, helse, hstate, hclosing, hsends, by rw [hcond, hlane], hctxs, hlanes⟩

/-- Settles O37, one lemma for each answer: DOUT, STOP beyond the data chain, and STOP again. -/
theorem aNeedIsAnsweredWithDoutOrWithStop : Obligations.ANeedIsAnsweredWithDoutOrWithStop :=
  ⟨need_answered_with_dout, need_without_data_stopped, need_awaiting_end_stopped⟩

end Sys2Proof.Machine

/-!
The END that gives the final report (R62, R85, R118, R119).
-/
namespace Sys2Proof.Machine

open Sys2Proof.Claims

/-- An END of an OUT command without LINK_DATA is short exactly where bytes remain (R62). -/
theorem Lane.endsShort_outbound (l : Lane) (d : Descriptor) (hd : l.desc = some d) (hdir : d.dir = .outbound)
    (hlink : d.flags.linkData = false) : l.endsShort = true ↔ l.residual ≠ 0 := by
  simp [Lane.endsShort, Lane.testedResidual, Lane.dir, Lane.dflags, hd, hdir, hlink, Nat.pos_iff_ne_zero]

/-- The DESEL that ends the served context, in the words of the statements; the slot may be bound to any lane. -/
theorem ended_of_arrived {s t : State} {n : LaneId} {k : Slot} {b : Blocks} {named : List Named}
    (h : Blocks.Arrived n k s.blocks b) (hserved : (b.lane n).served = some ⟨k, .connection⟩)
    (hf : (b.ctx k).state ≠ .free) (hp : t.pending = s.pending)
    (ht : t.blocks = s.blocks.settled ((b.sendDesel n).endServed n named)) :
    elsewhere s t ∧ sendsFirst s t n (.desel (s.blocks.unitOf k)) ∧ otherCtxs s t k
      ∧ ∃ l, l.residual = (b.lane n).residual ∧ t.blocks.ctx k = ((b.ctx k).writtenBack l).toReported k named := by
  have hloc := h.toLocal.trans (Blocks.local_deselEnd named hserved)
  obtain ⟨l, hres, hctx⟩ := Blocks.deselEnd_ctx named hserved hf
  obtain ⟨more, hsent⟩ := Blocks.deselEnd_sent named hserved
  refine ⟨elsewhere_of_local (k := k) (by rw [ht]; exact hloc.settled _) hp, sendsFirst_of_sent ⟨more, ?_⟩, ?_,
    l, hres, by rw [ht, Blocks.settled_ctx, hctx]⟩
  · rw [ht, Blocks.settled_lane, ← h.toLocal.toReach.unitOf k]
    exact h.sent.trans hsent
  · rw [otherCtxs, ht]
    exact (hloc.settled _).ctx_ne

/-- Settles O40: `exec_end_outbound` gives the blocks at which the unit is deselected, `chooseClass_endNames` the class. -/
theorem anEndGivesTheFinalReport : Obligations.AnEndGivesTheFinalReport := by
  intro s n k status d hrx hst hserved hd hdir hflags hconn hlen hm hv hexc
  obtain ⟨t, b, hexec, hport, hp, harr, hservedB, hres, hctx, -, ht⟩ := exec_end_outbound (status := status) hrx hst hserved
    hd hdir (by rw [hflags]) (Or.inl (by rw [hflags])) hm hv
  have hfree : (b.ctx k).state ≠ .free := by
    rw [hctx]
    exact fun hf => absurd (hconn.symm.trans hf) nofun
  obtain ⟨helse, hsend, hother, l, hresl, htk⟩ := ended_of_arrived harr hservedB hfree hp ht
  have hclass := chooseClass_endNames _ status d false hd hdir hflags hlen
  rw [hexc, if_neg (c := false = true) nofun] at hclass
  have hshort := (s.blocks.lane n).endsShort_outbound d hd hdir (by rw [hflags])
  refine ⟨t, hexec, hport, helse, hsend, reportedAs_of htk hclass, ?_, by rw [htk, hctx]; rfl, ?_, hother⟩
  · rw [htk]
    exact hresl.trans hres
  · rw [htk, hctx, ← hshort]
    exact Bool.or_eq_true_iff

end Sys2Proof.Machine

/-!
Every step keeps the lanes half-duplex (R74): the events that Laws/HalfDuplex.lean does not speak of, and a whole step.
-/
namespace Sys2Proof.Machine

/-- A change of a lane that touches neither its state, its BREAK, its wire nor its receiver. -/
theorem Blocks.modLane_halfDuplex_untouched (b : Blocks) (n : LaneId) (f : Lane → Lane) (h : b.halfDuplex)
    (hs : ∀ l, (f l).state = l.state := by exact fun _ => rfl) (hb : ∀ l, (f l).brk = l.brk := by exact fun _ => rfl)
    (ht : ∀ l, (f l).tx = l.tx := by exact fun _ => rfl) (hr : ∀ l, (f l).rx = l.rx := by exact fun _ => rfl) :
    (b.modLane n f).halfDuplex :=
  b.modLane_halfDuplex_of_same n f h (fun l => by simp only [Lane.enable, hs]; exact id) hb ht hr

/-! ### Requests -/

section
variable (b : Blocks) (n : LaneId) (s : Slot)

theorem Blocks.finaliseAll_halfDuplex (slots : List Slot) (h : b.halfDuplex) : (b.finaliseAll slots).halfDuplex := by
  induction slots generalizing b with
  | nil => exact h
  | cons s rest ih => exact ih _ (b.endContext_halfDuplex s _ h)

/-- The BREAK of a lane reset leaves the receiver deaf (R74, R125). -/
theorem Blocks.laneReset_halfDuplex (h : b.halfDuplex) : (b.laneReset n).halfDuplex := by
  have h1 := Blocks.finaliseAll_halfDuplex _ (b.finalisedOn n) (b.writeBack_halfDuplex n h)
  refine Blocks.modLane_halfDuplex _ n _ (Blocks.halfDuplex_of_lanes _ _ h1 fun _ => rfl) fun _ => ?_
  exact Lane.halfDuplex_of_deaf _ (Receiver.deafened_isAssembling _)

theorem Blocks.haltNotice_halfDuplex (h : b.halfDuplex) : (b.haltNotice n s).halfDuplex := by
  have h1 : (b.modLane n fun l => { l with haltNotice := true }).halfDuplex := b.modLane_halfDuplex_untouched n _ h
  unfold Blocks.haltNotice
  simp only
  split
  · exact Blocks.endServed_halfDuplex _ _ _ (Blocks.send_halfDuplex _ _ _ (Blocks.halfDuplex_of_lanes _ _ h1 fun _ => rfl))
  · split
    · exact Blocks.endServed_halfDuplex _ _ _ (Blocks.send_halfDuplex _ _ _ (Blocks.withdrawFetch_halfDuplex _ _ h1))
    · exact Blocks.haltIfTurn_halfDuplex _ _ h1

theorem Blocks.loseSelection_halfDuplex (u : UnitAddr) (h : b.halfDuplex) : (b.loseSelection n u).halfDuplex := by
  unfold Blocks.loseSelection
  split
  · exact Blocks.enterIdle_halfDuplex _ _ (b.release_halfDuplex n h)
  · exact b.modLane_halfDuplex_untouched n _ h

theorem Blocks.haltReady_halfDuplex (h : b.halfDuplex) : (b.haltReady s).halfDuplex := by
  have h1 := Blocks.endContext_halfDuplex _ s [plain .halted] (b.modCtx_halfDuplex s Context.haltRequested h)
  unfold Blocks.haltReady
  simp only
  split
  · exact Blocks.loseSelection_halfDuplex _ _ _ h1
  · exact h1

theorem Blocks.haltSlot_halfDuplex (h : b.halfDuplex) : (b.haltSlot s).1.halfDuplex := by
  unfold Blocks.haltSlot
  simp only
  split
  case h_5 =>
    split
    · exact h
    · unfold Blocks.haltLoading
      simp only
      split
      · exact Blocks.endContext_halfDuplex _ _ _ (b.modCtx_halfDuplex _ _ h)
      · exact b.modCtx_halfDuplex _ _ h
  case h_6 => exact b.haltReady_halfDuplex s h
  case h_7 => exact Blocks.haltNotice_halfDuplex _ _ _ (b.modCtx_halfDuplex _ _ h)
  case h_8 => exact Blocks.appendHalt_halfDuplex _ _ _ (b.modCtx_halfDuplex _ _ h)
  all_goals exact h

end

section
variable (l : Lane) (r : Request)

theorem Lane.withParams_halfDuplex (h : l.halfDuplex) : (l.withParams r).halfDuplex :=
  Lane.halfDuplex_of_same l _ h id rfl rfl rfl

/-- The BREAK that begins leaves the receiver deaf (R74, R95). -/
theorem Lane.enabled_halfDuplex : l.enabled.halfDuplex :=
  Lane.halfDuplex_of_deaf _ (Receiver.deafened_isAssembling l.rx)

/-- So does the disabling of the lane (R74, R96). -/
theorem Lane.disabled_halfDuplex : l.disabled.halfDuplex :=
  Lane.halfDuplex_of_deaf _ (Receiver.deafened_isAssembling l.rx)

theorem Lane.controlled_halfDuplex (h : l.halfDuplex) : (l.controlled r).halfDuplex := by
  unfold Lane.controlled
  split
  · exact l.withParams_halfDuplex r h
  · exact Lane.withParams_halfDuplex _ r l.disabled_halfDuplex

end

section
variable (b : Blocks) (r : Request)

theorem Blocks.doOpen_halfDuplex (h : b.halfDuplex) : (Blocks.doOpen r b).1.halfDuplex := by
  refine Kept.onBound r _ _ ?_ fun _ => h
  split
  · exact h
  · exact Blocks.modLane_halfDuplex_untouched _ _ _ (Blocks.halfDuplex_of_lanes _ _ h fun _ => rfl)

theorem Blocks.doClose_halfDuplex (h : b.halfDuplex) : (Blocks.doClose r b).1.halfDuplex := by
  refine Kept.onBound r _ _ h fun k => ?_
  split
  · exact h
  · exact b.halfDuplex_of_lanes _ h fun _ => rfl
  · exact h

theorem Blocks.doStart_halfDuplex (h : b.halfDuplex) : (Blocks.doStart r b).1.halfDuplex := by
  refine Kept.onBound r _ _ h fun k => ?_
  split
  · exact h
  · split
    · exact h
    · exact h
    · exact b.halfDuplex_of_lanes _ h fun _ => by simp
  · exact h

theorem Blocks.doCollect_halfDuplex (h : b.halfDuplex) : (Blocks.doCollect r b).1.halfDuplex := by
  refine Kept.onBound r _ _ h fun k => ?_
  split
  · exact h
  · split
    · exact b.halfDuplex_of_lanes _ h fun _ => rfl
    · exact h

theorem Blocks.doLane_halfDuplex (h : b.halfDuplex) : (Blocks.doLane r b).1.halfDuplex := by
  unfold Blocks.doLane
  simp only
  split
  · exact h
  · split
    · exact b.setLane_halfDuplex _ _ h (Lane.enabled_halfDuplex _)
    · exact b.setLane_halfDuplex _ _ h (Lane.withParams_halfDuplex _ r (h _))
  · split
    · exact h
    · split
      · exact h
      · exact b.setLane_halfDuplex _ _ h (Lane.controlled_halfDuplex _ r (h _))

theorem Blocks.doResetLane_halfDuplex (h : b.halfDuplex) : (Blocks.doResetLane r b).1.halfDuplex := by
  unfold Blocks.doResetLane
  simp only
  split
  · exact h
  · exact b.laneReset_halfDuplex _ h

theorem Blocks.doPolicy_halfDuplex (h : b.halfDuplex) : (Blocks.doPolicy r b).1.halfDuplex :=
  Blocks.grantDecision_halfDuplex _ (b.halfDuplex_of_lanes _ h fun _ => rfl)

theorem Blocks.doLaneStatus_halfDuplex (h : b.halfDuplex) : (Blocks.doLaneStatus r b).1.halfDuplex :=
  b.modLane_halfDuplex_untouched _ _ h

end

/-! ### Time -/

/-- A lane in a BREAK receives nothing, so neither does the lane as its BREAK runs on or ends. -/
theorem Lane.halfDuplex_of_break (l : Lane) (k : Option Break) (hb : l.brk ≠ none) (h : l.halfDuplex) :
    ({ l with brk := k } : Lane).halfDuplex := by
  refine Lane.halfDuplex_of_deaf _ (Bool.eq_false_iff.mpr fun ha => ?_)
  have hl := h ha
  simp only [Lane.listens, Bool.and_eq_true, Option.isNone_iff_eq_none] at hl
  exact hb hl.1.2

theorem Lane.tick_halfDuplex (l : Lane) (h : l.halfDuplex) : l.tick.halfDuplex := by
  cases hb : l.brk with
  | none => exact Lane.halfDuplex_of_same l _ h id (by simp [Lane.tick, hb]) rfl rfl
  | some k => exact Lane.halfDuplex_of_same _ _ (l.halfDuplex_of_break _ (by simp [hb]) h) id rfl rfl rfl

theorem Lane.breakSpaceEnd_halfDuplex (l : Lane) (h : l.halfDuplex) : l.breakSpaceEnd.halfDuplex := by
  unfold Lane.breakSpaceEnd
  split
  · rename_i hdue
    have hb : l.brk = some ⟨.space, 0⟩ := beq_iff_eq.mp hdue
    exact l.halfDuplex_of_break _ (by simp [hb]) h
  · exact h

section
variable (b : Blocks) (n : LaneId)

theorem Blocks.advance_halfDuplex (d : BitVec 8) (h : b.halfDuplex) : (b.advance d).halfDuplex := fun n => by
  rw [Blocks.advance_lane]
  exact Lane.tick_halfDuplex _ (h n)

theorem Blocks.detachExpiry_halfDuplex (s : Slot) (h : b.halfDuplex) : (b.detachExpiry s).halfDuplex := by
  unfold Blocks.detachExpiry
  split
  · exact Blocks.appendHalt_halfDuplex _ _ _ (b.modCtx_halfDuplex _ _ h)
  · exact h

theorem Blocks.ledgerExpiry_halfDuplex (h : b.halfDuplex) : b.ledgerExpiry.halfDuplex := by
  unfold Blocks.ledgerExpiry
  split
  · exact Blocks.grantDecision_halfDuplex _ (b.halfDuplex_of_lanes _ h fun _ => rfl)
  · exact h

theorem Blocks.attemptTimedOut_halfDuplex (h : b.halfDuplex) : (b.attemptTimedOut n).halfDuplex := by
  unfold Blocks.attemptTimedOut
  split
  · exact b.endLostAttempt_halfDuplex n h
  · split
    · exact b.nextAttempt_halfDuplex n h
    · exact b.selectionFailed_halfDuplex n h

theorem Lane.emptyPoll_halfDuplex (l : Lane) (h : l.halfDuplex) : l.emptyPoll.halfDuplex := by
  unfold Lane.emptyPoll
  split
  all_goals exact Lane.halfDuplex_of_same l _ h id rfl rfl rfl

theorem Blocks.responseTimeout_halfDuplex (h : b.halfDuplex) : (b.responseTimeout n).halfDuplex := by
  unfold Blocks.responseTimeout
  split
  · unfold Blocks.timedOut
    split
    · exact Blocks.enterIdle_halfDuplex _ _ (b.modLane_halfDuplex n _ h (Lane.emptyPoll_halfDuplex _))
    · exact b.attemptTimedOut_halfDuplex n h
    · exact b.linkError_halfDuplex n h
    · exact b.linkError_halfDuplex n h
    · exact b.linkError_halfDuplex n h
    · exact Blocks.pump_halfDuplex _ _ (b.modLane_halfDuplex_untouched n _ h)
    all_goals exact h
  · exact h

theorem Blocks.breakRecoveryEnd_halfDuplex (h : b.halfDuplex) : (b.breakRecoveryEnd n).halfDuplex := by
  unfold Blocks.breakRecoveryEnd
  split
  · rename_i hdue
    have hb : (b.lane n).brk = some ⟨.recovery, 0⟩ := beq_iff_eq.mp hdue
    exact Blocks.serviceChoice_halfDuplex _ _
      (b.modLane_halfDuplex n _ h (Lane.halfDuplex_of_break _ _ (by simp [hb])))
  · exact h

/-! ### The lane wire -/

/-- The receiver begins a frame only while it listens. -/
theorem Lane.firstStartBit_halfDuplex (l : Lane) (h : l.halfDuplex) : l.firstStartBit.halfDuplex := by
  unfold Lane.firstStartBit
  split
  · rename_i hl
    exact fun _ => (Bool.and_eq_true_iff.mp hl).1
  · exact h

theorem Lane.resync_halfDuplex (l : Lane) (h : l.halfDuplex) : l.resync.halfDuplex := by
  unfold Lane.resync
  split
  · exact Lane.halfDuplex_of_deaf _ rfl
  · exact h

theorem Lane.takeAttention_halfDuplex (l : Lane) (a : Bool) (h : l.halfDuplex) : (l.takeAttention a).halfDuplex := by
  unfold Lane.takeAttention
  split
  all_goals exact Lane.halfDuplex_of_same l _ h id rfl rfl rfl

theorem Lane.startTimer_halfDuplex (l : Lane) (h : l.halfDuplex) : l.startTimer.halfDuplex :=
  Lane.halfDuplex_of_same l _ h id rfl rfl rfl

theorem Lane.awaitIn_halfDuplex (l : Lane) (st : LaneState) (h : l.halfDuplex) : (l.awaitIn st).halfDuplex := by
  unfold Lane.awaitIn
  split
  · exact l.startTimer_halfDuplex h
  · exact h

theorem Lane.takeHeldNeed_halfDuplex (l : Lane) (h : l.halfDuplex) : l.takeHeldNeed.halfDuplex := by
  obtain ⟨owed, held, e⟩ := l.takeHeldNeed_spec
  rw [e]
  exact Lane.halfDuplex_of_same l _ h id rfl rfl rfl

/-- The pair released, the receiver is as it was. -/
theorem Lane.nextFrame_halfDuplex (l : Lane) (h : l.halfDuplex) : l.nextFrame.halfDuplex := by
  refine Lane.drive_halfDuplex _ fun ha => ?_
  have hl := h ha
  simp only [Lane.listens, Bool.and_eq_true] at hl ⊢
  exact ⟨hl.1, rfl⟩

theorem Blocks.attentionChange_halfDuplex (a : Bool) (h : b.halfDuplex) : (b.attentionChange n a).halfDuplex := by
  have h1 : (b.modLane n (·.takeAttention a)).halfDuplex := b.modLane_halfDuplex n _ h (Lane.takeAttention_halfDuplex _ a)
  unfold Blocks.attentionChange
  simp only
  split
  · exact h
  · split
    · exact Blocks.serviceChoice_halfDuplex _ _ h1
    · exact h1

theorem Blocks.startTimer_halfDuplex (h : b.halfDuplex) : (b.modLane n (·.startTimer)).halfDuplex :=
  b.modLane_halfDuplex n _ h (Lane.startTimer_halfDuplex _)

theorem Blocks.afterResume_halfDuplex (h : b.halfDuplex) : (b.afterResume n).halfDuplex := by
  unfold Blocks.afterResume
  simp only
  split
  · exact h
  · split
    · exact b.haltIfTurn_halfDuplex n h
    · exact Blocks.pump_halfDuplex _ _ (b.startTimer_halfDuplex n h)

theorem Blocks.outFinished_halfDuplex (h : b.halfDuplex) : (b.outFinished n).halfDuplex := by
  have h1 := b.postNote_halfDuplex n h
  unfold Blocks.outFinished
  simp only
  split
  · exact Blocks.enterAborting_halfDuplex _ _ _ h1
  · split
    · exact Blocks.enterLinkFetch_halfDuplex _ _ h1
    · split
      · exact Blocks.sendStop_halfDuplex _ _ h1
      · split
        · exact Blocks.needBeyond_halfDuplex _ _ h1
        · exact Blocks.startTimer_halfDuplex _ _ h1

theorem Blocks.outGoesOn_halfDuplex (h : b.halfDuplex) : (b.outGoesOn n).halfDuplex := by
  unfold Blocks.outGoesOn
  simp only
  split
  · exact b.enterAborting_halfDuplex n _ h
  · split
    · exact b.pump_halfDuplex n h
    · split
      · exact Blocks.pump_halfDuplex _ _ (b.modLane_halfDuplex n _ h (Lane.takeHeldNeed_halfDuplex _))
      · exact Blocks.pump_halfDuplex _ _ (b.startTimer_halfDuplex n h)

theorem Blocks.afterDout_halfDuplex (k : Nat) (h : b.halfDuplex) : (b.afterDout n k).halfDuplex := by
  have h1 : (b.modLane n (·.doutSent k)).halfDuplex := b.modLane_halfDuplex_untouched n _ h
  unfold Blocks.afterDout
  simp only
  split
  · exact h1
  · split
    · exact Blocks.outFinished_halfDuplex _ _ h1
    · exact Blocks.outGoesOn_halfDuplex _ _ h1

theorem Blocks.awaitIn_halfDuplex (st : LaneState) (h : b.halfDuplex) : (b.modLane n (·.awaitIn st)).halfDuplex :=
  b.modLane_halfDuplex n _ h (Lane.awaitIn_halfDuplex _ st)

theorem Blocks.afterFrame_halfDuplex (f : PartFrame) (h : b.halfDuplex) : (b.afterFrame n f).halfDuplex := by
  cases f with
  | poll => exact b.awaitIn_halfDuplex n _ h
  | sel u => exact b.awaitIn_halfDuplex n _ h
  | desel u =>
    show (b.afterDesel n).halfDuplex
    unfold Blocks.afterDesel
    split
    · exact b.nextAttempt_halfDuplex n h
    · exact h
  | cmd u code dir count => exact Blocks.haltIfTurn_halfDuplex _ _ (b.awaitIn_halfDuplex n _ h)
  | dout u toggle bytes => exact b.afterDout_halfDuplex n _ h
  | grant u chunks tail => exact b.awaitIn_halfDuplex n _ h
  | stop u =>
    refine b.modLane_halfDuplex n _ h fun hl => ?_
    unfold Lane.afterStop
    split
    · exact Lane.awaitIn_halfDuplex _ _ hl
    · exact hl
  | abort u =>
    refine b.modLane_halfDuplex n _ h fun hl => ?_
    unfold Lane.afterAbort
    split
    · exact Lane.awaitIn_halfDuplex _ _ hl
    · exact hl
  | resume u => exact b.afterResume_halfDuplex n h
  | defer u => exact h

theorem Blocks.frameSent_halfDuplex (h : b.halfDuplex) : (b.frameSent n).halfDuplex := by
  unfold Blocks.frameSent
  split
  · exact h
  · exact Blocks.afterFrame_halfDuplex _ _ _ (b.modLane_halfDuplex n _ h (Lane.nextFrame_halfDuplex _))

/-! ### Frames taken -/

theorem Blocks.deferUnit_halfDuplex (u : UnitAddr) (h : b.halfDuplex) : (b.deferUnit n u).halfDuplex :=
  Blocks.enterIdle_halfDuplex _ _ (b.send_halfDuplex n _ h)

theorem Blocks.connectAborting_halfDuplex (s : Slot) (cause : AbortCause) (h : b.halfDuplex) :
    (b.connectAborting n s cause).halfDuplex := Blocks.enterAborting_halfDuplex _ _ _ (b.connect_halfDuplex n s h)

theorem Blocks.resume_halfDuplex (s : Slot) (h : b.halfDuplex) : (b.resume n s).halfDuplex :=
  Blocks.pump_halfDuplex _ _ (Blocks.send_halfDuplex _ _ _
    (Blocks.modLane_halfDuplex_of_same _ n _ (b.connect_halfDuplex n s h) (fun _ _ => rfl) (fun _ => rfl) (fun _ => rfl)
      (fun _ => rfl)))

theorem Blocks.attnDetached_halfDuplex (s : Slot) (u : UnitAddr) (reason : AttnReason) (status : Byte)
    (h : b.halfDuplex) : (b.attnDetached n s u reason status).halfDuplex := by
  have h1 := b.setCtx_halfDuplex s ((b.ctx s).takeStatus status) h
  have h2 := Blocks.modCtx_halfDuplex _ s Context.reconnected h1
  unfold Blocks.attnDetached
  simp only
  split
  · exact Blocks.deferUnit_halfDuplex _ _ _ (Blocks.modCtx_halfDuplex _ _ _ h1)
  · split
    · exact Blocks.resume_halfDuplex _ _ _ h2
    · exact Blocks.connectAborting_halfDuplex _ _ _ _ h2
  · split
    · exact Blocks.joinPermit_halfDuplex _ _ (Blocks.connect_halfDuplex _ _ _ h2)
    · exact Blocks.connectAborting_halfDuplex _ _ _ _ h2

theorem Blocks.attnTaken_halfDuplex (u : UnitAddr) (reason : AttnReason) (status : Byte) (h : b.halfDuplex) :
    (b.attnTaken n u reason status).halfDuplex := by
  have h1 : (b.modLane n fun l => { l with emptyPolls := 0, timer := none }).halfDuplex :=
    b.modLane_halfDuplex_untouched n _ h
  unfold Blocks.attnTaken
  simp only
  split
  · exact Blocks.deferUnit_halfDuplex _ _ _ (Blocks.modLane_halfDuplex_untouched _ n _ h1)
  · split
    case h_1 =>
      exact Blocks.enterIdle_halfDuplex _ _ (Blocks.send_halfDuplex _ _ _
        (Blocks.endContext_halfDuplex _ _ _ (Blocks.modCtx_halfDuplex _ _ _ h1)))
    case h_5 => exact Blocks.attnDetached_halfDuplex _ _ _ _ _ _ h1
    case h_6 =>
      exact Blocks.connectAborting_halfDuplex _ _ _ _
        (Blocks.dropFromLists_halfDuplex _ _ _ (Blocks.modCtx_halfDuplex _ _ _ h1))
    case h_7 => exact Blocks.deferUnit_halfDuplex _ _ _ h1
    case h_8 => exact Blocks.deferUnit_halfDuplex _ _ _ h1
    all_goals exact Blocks.deferUnit_halfDuplex _ _ _ (Blocks.modCtx_halfDuplex _ _ _ h1)

theorem Blocks.attnFrame_halfDuplex (u : UnitAddr) (reason : AttnReason) (status : Byte) (h : b.halfDuplex) :
    (b.attnFrame n u reason status).halfDuplex := by
  unfold Blocks.attnFrame
  split
  · exact b.attnTaken_halfDuplex n u reason status h
  · exact b.inConnection_halfDuplex n u _ h fun c => c.linkError_halfDuplex n

theorem Blocks.readySelected_halfDuplex (s : Slot) (h : b.halfDuplex) : (b.readySelected n s).halfDuplex :=
  Blocks.joinPermit_halfDuplex _ _ (Blocks.connect_halfDuplex _ _ _ (Blocks.release_halfDuplex _ _
    (Blocks.dropFromLists_halfDuplex _ _ _ (b.modCtx_halfDuplex _ _ h))))

theorem Blocks.haltSelected_halfDuplex (s : Slot) (h : b.halfDuplex) : (b.haltSelected n s).halfDuplex :=
  Blocks.connectAborting_halfDuplex _ _ _ _ (Blocks.release_halfDuplex _ _ (b.dropFromLists_halfDuplex _ _ h))

theorem Blocks.echoMismatch_halfDuplex (u : UnitAddr) (h : b.halfDuplex) : (b.echoMismatch n u).halfDuplex := by
  have h1 : ((b.modLane n fun l => { l with mismatch := true, timer := none }).send n (.desel u)).halfDuplex :=
    Blocks.send_halfDuplex _ _ _ (b.modLane_halfDuplex_untouched n _ h)
  unfold Blocks.echoMismatch
  simp only
  split
  · exact Blocks.modLane_halfDuplex_untouched _ n _ h1
  · exact Blocks.selectionFailed_halfDuplex _ _ h1

theorem Blocks.echoFrame_halfDuplex (u : UnitAddr) (h : b.halfDuplex) : (b.echoFrame n u).halfDuplex := by
  unfold Blocks.echoFrame
  split
  · unfold Blocks.echoTaken
    split
    · exact Blocks.endLostAttempt_halfDuplex _ _ (b.send_halfDuplex n _ h)
    · split
      · split
        · exact b.readySelected_halfDuplex n _ h
        · exact b.haltSelected_halfDuplex n _ h
        · exact h
      · exact b.echoMismatch_halfDuplex n u h
  · exact b.inConnection_halfDuplex n u _ h fun c => c.linkError_halfDuplex n

theorem Blocks.beginTransfer_halfDuplex (h : b.halfDuplex) : (b.beginTransfer n).halfDuplex := by
  refine Blocks.pump_halfDuplex _ _ (b.modLane_halfDuplex n _ h fun hl => ?_)
  have h1 := Lane.halfDuplex_of_same _ ({ b.lane n with state := .transfer, timer := none } : Lane) hl (fun _ => rfl)
    rfl rfl rfl
  simp only
  split
  · exact h1
  · exact Lane.startTimer_halfDuplex _ h1

theorem Blocks.acptTaken_halfDuplex (status : Byte) (h : b.halfDuplex) : (b.acptTaken n status).halfDuplex := by
  unfold Blocks.acptTaken
  split
  · exact Blocks.endServed_halfDuplex _ _ _ (b.send_halfDuplex n _ h)
  · split
    · exact b.detachContext_halfDuplex n _ h
    · split
      · exact b.enterAborting_halfDuplex n _ h
      · exact b.beginTransfer_halfDuplex n h

theorem Blocks.acptFrame_halfDuplex (u : UnitAddr) (status : Byte) (h : b.halfDuplex) :
    (b.acptFrame n u status).halfDuplex := by
  refine Blocks.inConnection_halfDuplex _ n u _ (b.frameStatus_halfDuplex n u status h) fun c hc => ?_
  split
  · exact c.acptTaken_halfDuplex n status hc
  · exact c.linkError_halfDuplex n hc

theorem Blocks.needOut_halfDuplex (k : Nat) (h : b.halfDuplex) : (b.needOut n k).halfDuplex := by
  unfold Blocks.needOut
  simp only
  split
  · exact b.linkError_halfDuplex n h
  · split
    · exact b.enterAborting_halfDuplex n _ h
    · split
      · exact Blocks.pump_halfDuplex _ _ (b.modLane_halfDuplex_untouched n _ h)
      · split
        · exact b.modLane_halfDuplex_untouched n _ h
        · exact b.needBeyond_halfDuplex n h

theorem Blocks.needIn_halfDuplex (k : Nat) (h : b.halfDuplex) : (b.needIn n k).halfDuplex := by
  unfold Blocks.needIn
  simp only
  split
  · exact b.linkError_halfDuplex n h
  · split
    · exact b.enterAborting_halfDuplex n _ h
    · split
      · exact Blocks.pump_halfDuplex _ _ (b.modLane_halfDuplex_untouched n _ h)
      · split
        · exact b.modLane_halfDuplex_untouched n _ h
        · exact b.needBeyond_halfDuplex n h

theorem Blocks.needTaken_halfDuplex (k : Nat) (h : b.halfDuplex) : (b.needTaken n k).halfDuplex := by
  unfold Blocks.needTaken
  simp only
  split
  · split
    · exact b.needOut_halfDuplex n k h
    · exact b.needIn_halfDuplex n k h
    · unfold Blocks.needNone
      split
      · exact b.enterAborting_halfDuplex n _ h
      · exact b.needBeyond_halfDuplex n h
  · split
    · split
      · exact b.enterAborting_halfDuplex n _ h
      · exact b.modLane_halfDuplex_untouched n _ h
    · split
      · split
        · exact b.enterAborting_halfDuplex n _ h
        · exact b.sendStop_halfDuplex n h
      · exact b.linkError_halfDuplex n h

theorem Lane.takeDin_halfDuplex (l : Lane) (bytes : List Byte) (h : l.halfDuplex) : (l.takeDin bytes).halfDuplex := by
  obtain ⟨da, st, e⟩ := l.takeDin_spec bytes
  rw [e]
  exact Lane.halfDuplex_of_same l _ h id rfl rfl rfl

theorem Lane.timerAfterDin_halfDuplex (l : Lane) (h : l.halfDuplex) : l.timerAfterDin.halfDuplex := by
  unfold Lane.timerAfterDin
  split
  · exact l.startTimer_halfDuplex h
  · exact h

theorem Blocks.dinNew_halfDuplex (bytes : List Byte) (h : b.halfDuplex) : (b.dinNew n bytes).halfDuplex := by
  have h1 : (b.modLane n (·.takeDin bytes)).halfDuplex := b.modLane_halfDuplex n _ h (Lane.takeDin_halfDuplex _ bytes)
  simp only [Blocks.dinNew]
  generalize b.modLane n (·.takeDin bytes) = b1 at h1
  generalize hb2 : (if (b1.lane n).rxResidual = 0 ∧ (b1.lane n).dflags.discard = true then b1.postNote n else b1) = b2
  have h2 : b2.halfDuplex := by
    subst hb2
    split
    · exact b1.postNote_halfDuplex n h1
    · exact h1
  split
  · exact b2.enterAborting_halfDuplex n _ h2
  · split
    · exact b2.enterLinkFetch_halfDuplex n h2
    · exact Blocks.pump_halfDuplex _ _ (b2.modLane_halfDuplex n _ h2 (Lane.timerAfterDin_halfDuplex _))

theorem Blocks.dinTaken_halfDuplex (toggle : Bool) (bytes : List Byte) (h : b.halfDuplex) :
    (b.dinTaken n toggle bytes).halfDuplex := by
  unfold Blocks.dinTaken
  simp only
  split
  · split
    · exact b.haltIfTurn_halfDuplex n h
    · exact b.linkError_halfDuplex n h
    · split
      · exact b.dinNew_halfDuplex n bytes h
      · exact b.linkError_halfDuplex n h
  · exact b.linkError_halfDuplex n h

theorem Blocks.waitTaken_halfDuplex (h : b.halfDuplex) : (b.waitTaken n).halfDuplex := by
  unfold Blocks.waitTaken
  simp only
  split
  · unfold Blocks.waitInLinkFetch
    split
    · refine Blocks.beginClosing_halfDuplex _ _ _ ?_
      split
      · exact b.withdrawFetch_halfDuplex _ h
      · exact h
    · exact b.modLane_halfDuplex_untouched n _ h
  · split
    · exact b.beginClosing_halfDuplex n _ h
    · exact b.linkError_halfDuplex n h

theorem Blocks.endTaken_halfDuplex (status : Byte) (h : b.halfDuplex) : (b.endTaken n status).halfDuplex := by
  have h1 := b.addServedFlag_halfDuplex n (·.addLengthShort (b.lane n).endsShort) h
  simp only [Blocks.endTaken]
  generalize b.addServedFlag n (·.addLengthShort (b.lane n).endsShort) = b1 at h1
  generalize hb2 : (if (b.lane n).noteAtEnd = true then b1.postNote n else b1) = b2
  have h2 : b2.halfDuplex := by
    subst hb2
    split
    · exact b1.postNote_halfDuplex n h1
    · exact h1
  refine Blocks.beginClosing_halfDuplex _ _ _ ?_
  split
  · exact b2.withdrawFetch_halfDuplex _ h2
  · exact h2

theorem Blocks.endFrame_halfDuplex (u : UnitAddr) (status : Byte) (h : b.halfDuplex) :
    (b.endFrame n u status).halfDuplex := by
  unfold Blocks.endFrame
  simp only
  split
  · split
    · exact Blocks.pump_halfDuplex _ _ (Blocks.send_halfDuplex _ _ _
        (Blocks.modLane_halfDuplex_untouched _ n _ (b.takeStatus_halfDuplex n status h)))
    · exact h
  · refine Blocks.inConnection_halfDuplex _ n u _ (b.frameStatus_halfDuplex n u status h) fun c hc => ?_
    split
    · exact c.endTaken_halfDuplex n status hc
    · exact c.linkError_halfDuplex n hc

/-! ### The fetcher and the memory port -/

theorem Blocks.fetchBegin_halfDuplex (h : b.halfDuplex) : b.fetchBegin.halfDuplex :=
  b.halfDuplex_of_lanes _ h fun _ => by simp

theorem Blocks.afterDelivery_halfDuplex (wasData : Bool) (h : b.halfDuplex) : (b.afterDelivery n wasData).halfDuplex := by
  unfold Blocks.afterDelivery
  split
  · exact b.beginClosing_halfDuplex n _ h
  · split
    · refine Blocks.pump_halfDuplex _ _ (b.modLane_halfDuplex n _ h fun hl => Lane.takeHeldNeed_halfDuplex _ ?_)
      exact Lane.halfDuplex_of_same _ _ hl (fun _ => rfl) rfl rfl rfl
    · exact b.joinPermit_halfDuplex n h

theorem Blocks.deliver_halfDuplex (s : Slot) (d : Descriptor) (a : Addr48) (h : b.halfDuplex) :
    (b.deliver s d a).halfDuplex := by
  unfold Blocks.deliver
  simp only
  split
  case h_1 =>
    split
    · exact b.endContext_halfDuplex _ _ h
    · exact Blocks.appendReady_halfDuplex _ _ _ (b.setCtx_halfDuplex _ _ h)
  case h_2 =>
    exact Blocks.afterDelivery_halfDuplex _ _ _ (Blocks.modLane_halfDuplex_untouched _ _ _ (b.setCtx_halfDuplex _ _ h))
  all_goals exact h

theorem Blocks.chainFault_halfDuplex (s : Slot) (r : Reason) (a : Addr48) (h : b.halfDuplex) :
    (b.chainFault s r a).halfDuplex := by
  have h1 := b.setCtx_halfDuplex s { b.ctx s with chainAddr := a } h
  unfold Blocks.chainFault
  simp only
  split
  · exact Blocks.endContext_halfDuplex _ _ _ h1
  · split
    · exact Blocks.enterAborting_halfDuplex _ _ _ h1
    · exact Blocks.endServed_halfDuplex _ _ _ (Blocks.send_halfDuplex _ _ _ h1)
  all_goals exact h

theorem Blocks.handOn_halfDuplex (f : Fetch) (e : FetchEnd) (h : b.halfDuplex) : (b.handOn f e).halfDuplex := by
  cases e with
  | delivery d => exact b.deliver_halfDuplex _ _ _ h
  | fault r => exact b.chainFault_halfDuplex _ _ _ h

theorem Blocks.endFetch_halfDuplex (f : Fetch) (e : FetchEnd) (h : b.halfDuplex) : (b.endFetch f e).halfDuplex := by
  unfold Blocks.endFetch
  simp only
  split
  · exact Blocks.fetchBegin_halfDuplex _ (Blocks.handOn_halfDuplex _ _ _ (b.halfDuplex_of_lanes _ h fun _ => rfl))
  · have h1 : ({ b with fetch := none, choice := b.choice + 1 } : Blocks).halfDuplex :=
      b.halfDuplex_of_lanes _ h fun _ => rfl
    split
    · exact Blocks.handOn_halfDuplex _ _ _ (Blocks.fetchBegin_halfDuplex _ h1)
    · exact Blocks.fetchBegin_halfDuplex _ (Blocks.handOn_halfDuplex _ _ _ h1)

theorem Blocks.fetchRead_halfDuplex (error : Bool) (bytes : List Byte) (h : b.halfDuplex) :
    (b.fetchRead error bytes).halfDuplex := by
  unfold Blocks.fetchRead
  split
  · exact h
  · split
    · exact Blocks.fetchBegin_halfDuplex _ (b.halfDuplex_of_lanes _ h fun _ => rfl)
    · split
      · exact b.halfDuplex_of_lanes _ h fun _ => by rw [Blocks.askFetcher_lane]; rfl
      · exact b.endFetch_halfDuplex _ _ h

theorem Blocks.writeDone_halfDuplex (m : LaneMem) (h : b.halfDuplex) : (b.writeDone n m).halfDuplex := by
  simp only [Blocks.writeDone]
  generalize hb1 : b.modLane n _ = b1
  have h1 : b1.halfDuplex := hb1 ▸ b.modLane_halfDuplex_untouched n _ h
  generalize hb2 : (if (b1.lane n).residual = 0 ∧ (b1.lane n).state ≠ .aborting then b1.postNote n else b1) = b2
  have h2 : b2.halfDuplex := by
    subst hb2
    split
    · exact b1.postNote_halfDuplex n h1
    · exact h1
  split
  · exact b2.enterLinkFetch_halfDuplex n h2
  · exact b2.pump_halfDuplex n h2

theorem Blocks.memDone_halfDuplex (h : b.halfDuplex) : (b.modLane n (·.memDone)).halfDuplex :=
  b.modLane_halfDuplex_untouched n _ h

theorem Blocks.laneMemDone_halfDuplex (x : Txn) (h : b.halfDuplex) : (b.laneMemDone n x).halfDuplex := by
  unfold Blocks.laneMemDone
  split
  · exact h
  · split
    · exact Blocks.dataFault_halfDuplex _ _ _ (b.memDone_halfDuplex n h)
    · split
      · exact b.writeDone_halfDuplex n _ h
      · exact Blocks.pump_halfDuplex _ _ (b.modLane_halfDuplex_untouched n _ h)

theorem Blocks.completeTxn_halfDuplex (x : Txn) (h : b.halfDuplex) : (b.completeTxn x).halfDuplex := by
  have h1 : b.portNext.halfDuplex := b.halfDuplex_of_lanes _ h fun _ => by simp
  unfold Blocks.completeTxn
  simp only
  split
  · split
    · exact h1
    · exact Blocks.fetchRead_halfDuplex _ _ _ h1
  · split
    · exact Blocks.pump_halfDuplex _ _ (Blocks.memDone_halfDuplex _ _ h1)
    · exact Blocks.laneMemDone_halfDuplex _ _ _ h1

theorem Blocks.burstDone_halfDuplex (resps : List BusResp) (bytes : List Byte) (h : b.halfDuplex) :
    (b.burstDone resps bytes).halfDuplex := by
  unfold Blocks.burstDone
  simp only
  split
  · exact h
  · split
    · split
      · split
        · exact b.completeTxn_halfDuplex _ h
        · exact b.halfDuplex_of_lanes _ h fun _ => rfl
      · exact b.completeTxn_halfDuplex _ h
    · exact h

end

/-! ### A whole step -/

theorem Blocks.pinReset_halfDuplex (b : Blocks) : b.pinReset.halfDuplex := fun n => by
  rw [Blocks.pinReset_lane]
  exact Lane.halfDuplex_of_deaf _ rfl

theorem Blocks.softReset_halfDuplex (b : Blocks) : b.softReset.halfDuplex :=
  Blocks.halfDuplex_of_lanes _ _ b.pinReset_halfDuplex fun _ => rfl

section
variable (s : State)

/-- The update count bears on no lane. -/
theorem State.onBlocks_halfDuplex (f : Blocks → Blocks) (h : (f s.blocks).halfDuplex) :
    (s.onBlocks f).blocks.halfDuplex := h

theorem State.onBlocksAsking_halfDuplex (f : Blocks → Blocks) (h : (f s.blocks).halfDuplex) :
    (s.onBlocksAsking f).blocks.halfDuplex := by
  refine s.onBlocks_halfDuplex _ ?_
  split
  · exact h
  · exact Blocks.answerAsking_halfDuplex _ _ h

theorem State.handle_halfDuplex (code : ReqCode) (act : Request → Blocks → Blocks × Answer) (h : s.blocks.halfDuplex)
    (ha : ∀ r, (act r s.blocks).1.halfDuplex) : (s.handle code act).blocks.halfDuplex := by
  unfold State.handle
  split
  · exact h
  · split
    · show (ite _ _ _ : Blocks × Answer).1.halfDuplex
      split
      · exact ha _
      · exact h
    · exact h

theorem State.writeRegister_halfDuplex (o : BitVec 7) (v : Word) (st : BitVec 4) (h : s.blocks.halfDuplex) :
    (s.writeRegister o v st).blocks.halfDuplex := by
  unfold State.writeRegister
  split
  case h_9 => exact Blocks.softReset_halfDuplex _
  all_goals exact h

end

theorem exec_halfDuplex (i : Instr) (s t : State) (h : s.blocks.halfDuplex) (ht : exec i s = .next t) :
    t.blocks.halfDuplex := by
  cases i with
  | pinReset => cases ht; exact s.blocks.pinReset_halfDuplex
  | rqgoSubmit v st => cases ht; exact Kept.onWrite _ _ _ h h
  | rsnextPop v st => cases ht; exact Kept.onWrite _ _ _ h h
  | intsWrite v st => cases ht; exact Kept.onWrite _ _ _ h h
  | inteWrite v st => cases ht; exact Kept.onWrite _ _ _ h h
  | prstWrite v st => cases ht; exact Kept.onWrite _ _ _ h s.blocks.softReset_halfDuplex
  | tbdivWrite v st => cases ht; exact Kept.onWrite _ _ _ h h
  | registerWrite o v st => cases ht; exact Kept.onWrite _ _ _ h (s.writeRegister_halfDuplex o v st h)
  | softResetComplete =>
    cases ht
    split
    · exact s.blocks.softReset_halfDuplex
    · exact h
  | openUnit => cases ht; exact s.handle_halfDuplex _ _ h fun r => s.blocks.doOpen_halfDuplex r h
  | closeUnit => cases ht; exact s.handle_halfDuplex _ _ h fun r => s.blocks.doClose_halfDuplex r h
  | startChain => cases ht; exact s.handle_halfDuplex _ _ h fun r => s.blocks.doStart_halfDuplex r h
  | haltUnit =>
    cases ht
    exact s.handle_halfDuplex _ _ h fun r => Kept.onBound r _ _ h fun k => s.blocks.haltSlot_halfDuplex k h
  | probeUnit => cases ht; exact s.handle_halfDuplex _ _ h fun r => Kept.onBound r _ _ h fun _ => h
  | collectReport => cases ht; exact s.handle_halfDuplex _ _ h fun r => s.blocks.doCollect_halfDuplex r h
  | laneControl => cases ht; exact s.handle_halfDuplex _ _ h fun r => s.blocks.doLane_halfDuplex r h
  | resetLane => cases ht; exact s.handle_halfDuplex _ _ h fun r => s.blocks.doResetLane_halfDuplex r h
  | setPolicy => cases ht; exact s.handle_halfDuplex _ _ h fun r => s.blocks.doPolicy_halfDuplex r h
  | laneStatus => cases ht; exact s.handle_halfDuplex _ _ h fun r => s.blocks.doLaneStatus_halfDuplex r h
  | unknownRequest => cases ht; exact s.handle_halfDuplex _ _ h fun _ => h
  | timebaseTick =>
    cases ht
    exact s.onBlocks_halfDuplex _ (Blocks.advance_halfDuplex _ _ (s.blocks.decideIfAsked_halfDuplex h))
  | detachTimerExpiry slot => cases ht; exact s.onBlocks_halfDuplex _ (s.blocks.detachExpiry_halfDuplex slot h)
  | ledgerRecordExpiry => cases ht; exact s.onBlocks_halfDuplex _ (s.blocks.ledgerExpiry_halfDuplex h)
  | responseTimeout n => cases ht; exact s.onBlocks_halfDuplex _ (s.blocks.responseTimeout_halfDuplex n h)
  | breakSpaceEnd n =>
    cases ht
    exact s.onBlocks_halfDuplex _ (s.blocks.modLane_halfDuplex n _ h (Lane.breakSpaceEnd_halfDuplex _))
  | breakRecoveryEnd n => cases ht; exact s.onBlocks_halfDuplex _ (s.blocks.breakRecoveryEnd_halfDuplex n h)
  | attentionLineChange n a => cases ht; exact s.onBlocks_halfDuplex _ (s.blocks.attentionChange_halfDuplex n a h)
  | frameMalformed n check above => cases ht; exact s.onBlocks_halfDuplex _ (s.blocks.discardFrame_halfDuplex n _ h)
  | frameAttn n u reason status =>
    cases ht
    exact s.onBlocksAsking_halfDuplex _
      (s.blocks.takeFrame_halfDuplex n _ _ _ h fun c => c.attnFrame_halfDuplex n u reason status)
  | frameEcho n u =>
    cases ht
    exact s.onBlocksAsking_halfDuplex _ (s.blocks.takeFrame_halfDuplex n _ _ _ h fun c => c.echoFrame_halfDuplex n u)
  | frameAcpt n u status =>
    cases ht
    exact s.onBlocks_halfDuplex _ (s.blocks.takeFrame_halfDuplex n _ _ _ h fun c => c.acptFrame_halfDuplex n u status)
  | frameNeed n u k =>
    cases ht
    exact s.onBlocks_halfDuplex _ (s.blocks.takeFrame_halfDuplex n _ _ _ h fun c hc =>
      c.inConnection_halfDuplex n u _ hc fun d => d.needTaken_halfDuplex n k)
  | frameDin n u toggle bytes =>
    cases ht
    exact s.onBlocks_halfDuplex _ (s.blocks.takeFrame_halfDuplex n _ _ _ h fun c hc =>
      c.inConnection_halfDuplex n u _ hc fun d => d.dinTaken_halfDuplex n toggle bytes)
  | frameWait n u =>
    cases ht
    exact s.onBlocks_halfDuplex _ (s.blocks.takeFrame_halfDuplex n _ _ _ h fun c hc =>
      c.inConnection_halfDuplex n u _ hc fun d => d.waitTaken_halfDuplex n)
  | frameEnd n u status =>
    cases ht
    exact s.onBlocks_halfDuplex _ (s.blocks.takeFrame_halfDuplex n _ _ _ h fun c => c.endFrame_halfDuplex n u status)
  | memoryBurstResponse resps bytes =>
    cases ht
    exact s.onBlocksAsking_halfDuplex _ (s.blocks.burstDone_halfDuplex resps bytes h)
  | frameSent n => cases ht; exact s.onBlocks_halfDuplex _ (s.blocks.frameSent_halfDuplex n h)
  | frameFirstStartBit n =>
    cases ht
    exact s.onBlocks_halfDuplex _ (s.blocks.modLane_halfDuplex n _ h (Lane.firstStartBit_halfDuplex _))
  | unbrokenMarkResync n =>
    cases ht
    exact s.onBlocks_halfDuplex _ (s.blocks.modLane_halfDuplex n _ h (Lane.resync_halfDuplex _))

/-- Settles O60: every event keeps the lanes half-duplex, and so does a grant decision taken on an empty queue. -/
theorem everyStepKeepsTheLanesHalfDuplex : Obligations.EveryStepKeepsTheLanesHalfDuplex := by
  intro s t h ht
  unfold step at ht
  split at ht
  · cases ht
    unfold State.idle
    split
    · exact s.onBlocks_halfDuplex _ (s.blocks.grantDecision_halfDuplex h)
    · exact h
  · rename_i c rest _
    exact exec_halfDuplex c { s with pending := rest } t h ht

end Sys2Proof.Machine

/-!
Frames as bytes: the CRC of a whole frame, and a unit's frame read back through the seven checks (R79, R80, R184).
-/
namespace Sys2Proof.Machine

/-! ### The CRC -/

theorem crc8_concat (bytes : List Byte) (b : Byte) : crc8 (bytes ++ [b]) = crcStep (crc8 bytes) b := by
  simp [crc8]

/-- A byte that equals the register clears it. -/
theorem crcStep_self (r : Byte) : crcStep r r = 0 := by
  rw [crcStep, BitVec.xor_self]
  decide

/-- The CRC of a whole frame is 0 (R80). -/
theorem crc8_frameBytes (kind addr : Byte) (payload : List Byte) : crc8 (frameBytes kind addr payload) = 0 := by
  rw [frameBytes, crc8_concat, crcStep_self]

/-- Settles O55: the worked values are computed; the CRC of a whole frame is `crc8_frameBytes`. -/
theorem crcCheckValues : Obligations.CrcCheckValues :=
  ⟨by decide +kernel, by decide, by decide +kernel, crc8_frameBytes⟩

/-! ### A frame read back -/

/-- A unit address read from its address byte. -/
theorem addrByte_toNat (u : UnitAddr) : (addrByte u).toNat = u.val := by
  have := u.isLt
  simp only [addrByte, BitVec.toNat_ofNat]
  omega

theorem ofNat_toNat_byte (k : Nat) (h : k < 256) : (BitVec.ofNat 8 k).toNat = k := by
  simp only [BitVec.toNat_ofNat]
  omega

/-- With every byte of the frame received, checks 3 to 7 are made of its parts (R80). -/
theorem receiveChars_frameBytes (kind addr : Byte) (payload : List Byte) (h : payload.length ≤ 16) :
    receiveChars ((frameBytes kind addr payload).map some) =
      frameVerdict kind addr (BitVec.ofNat 8 payload.length) payload (crc8 (frameBody kind addr payload)) := by
  have hlen := ofNat_toNat_byte payload.length (by omega)
  have hany : ((frameBytes kind addr payload).map some).any (·.isNone) = false := by simp
  have hbytes : ((frameBytes kind addr payload).map some).filterMap id =
      kind :: addr :: BitVec.ofNat 8 payload.length :: (payload ++ [crc8 (frameBody kind addr payload)]) := by
    simp [List.filterMap_map, frameBytes, frameBody]
  rw [receiveChars, hany, if_neg nofun, hbytes]
  simp [hlen, Nat.not_lt.mpr h]

/-- A frame of a unit kind, with a length its kind admits and the CRC of its body, is what its payload makes of it. -/
theorem frameVerdict_taken (kind : Byte) (u : UnitAddr) (payload : List Byte) (f : UnitFrame)
    (hkind : kindValid kind = true) (hlen : lengthValid kind payload.length = true) (h16 : payload.length ≤ 16)
    (hf : payloadFrame kind u payload = some f) :
    frameVerdict kind (addrByte u) (BitVec.ofNat 8 payload.length) payload
      (crc8 (frameBody kind (addrByte u) payload)) = .taken f := by
  have haddr := addrByte_toNat u
  have hlt : (addrByte u).toNat < 32 := haddr ▸ u.isLt
  have hunit : (⟨(addrByte u).toNat, hlt⟩ : UnitAddr) = u := Fin.ext haddr
  rw [frameBody, frameVerdict, ofNat_toNat_byte _ (by omega), hkind, hlen, if_neg nofun, if_neg nofun, dif_pos hlt,
    if_neg (not_not.mpr rfl), hunit, hf]

/-- A frame received as sent is what its payload makes of it. -/
theorem receiveChars_taken (kind : Byte) (u : UnitAddr) (payload : List Byte) (f : UnitFrame)
    (hkind : kindValid kind = true) (hlen : lengthValid kind payload.length = true) (h16 : payload.length ≤ 16)
    (hf : payloadFrame kind u payload = some f) :
    receiveChars ((frameBytes kind (addrByte u) payload).map some) = .taken f :=
  (receiveChars_frameBytes kind _ payload h16).trans (frameVerdict_taken kind u payload f hkind hlen h16 hf)

theorem reasonOf_reasonByte (r : AttnReason) : reasonOf (reasonByte r) = some r := by cases r <;> decide

/-- Settles O56: the seven checks pass, kind by kind, and the payload reads back (`receiveChars_taken`). -/
theorem everyUnitFrameIsReceivedAsSent : Obligations.EveryUnitFrameIsReceivedAsSent := by
  intro f hwf
  cases f with
  | echo a => exact receiveChars_taken 0x11 a [] _ rfl rfl (by simp) rfl
  | acpt a status =>
    refine receiveChars_taken 0x12 a [status] _ rfl rfl (by simp) ?_
    have hv : statusValid status = true := hwf
    simp [payloadFrame, hv]
  | din a toggle bytes =>
    obtain ⟨h1, h16⟩ : 1 ≤ bytes.length ∧ bytes.length ≤ 16 := by simpa [UnitFrame.wf] using hwf
    have hlen : ∀ kind : Byte, kind = 0x13 ∨ kind = 0x93 → lengthValid kind bytes.length = true := by
      rintro kind (rfl | rfl) <;> simp [lengthValid, h1, h16]
    cases toggle with
    | false => exact receiveChars_taken 0x13 a bytes _ rfl (hlen _ (Or.inl rfl)) h16 rfl
    | true => exact receiveChars_taken 0x93 a bytes _ rfl (hlen _ (Or.inr rfl)) h16 rfl
  | need a chunks =>
    obtain ⟨h1, h8⟩ : 1 ≤ chunks ∧ chunks ≤ 8 := by simpa [UnitFrame.wf] using hwf
    have hchunks := ofNat_toNat_byte chunks (by omega)
    refine receiveChars_taken 0x14 a [BitVec.ofNat 8 chunks] _ rfl rfl (by simp) ?_
    simp [payloadFrame, hchunks, h1, h8]
  | wait a => exact receiveChars_taken 0x15 a [] _ rfl rfl (by simp) rfl
  | endFrame a status =>
    refine receiveChars_taken 0x16 a [status] _ rfl rfl (by simp) ?_
    have hv : statusValid status = true := hwf
    simp [payloadFrame, hv]
  | attn a reason status =>
    refine receiveChars_taken 0x17 a [reasonByte reason, status] _ rfl rfl (by simp) ?_
    have hv : statusValid status = true := hwf
    simp [payloadFrame, reasonOf_reasonByte, hv]

end Sys2Proof.Machine

/-!
The driver and the levels of the pair (R74, R75, R76, TABLE 24).
-/
namespace Sys2Proof.Machine

open Sys2Proof.Claims

/-! ### The driver -/

/-- The lane is in the space of a BREAK. -/
def Lane.inSpace (l : Lane) : Prop := ∃ left, l.brk = some ⟨.space, left⟩

section
variable (l : Lane)

theorem Lane.driverEnable_iff : l.driverEnable = true ↔ l.tx ≠ none ∨ l.inSpace := by
  rw [Lane.driverEnable, Bool.or_eq_true, Option.isSome_iff_ne_none]
  refine or_congr_right ?_
  cases hb : l.brk with
  | none => simp [Lane.inSpace, hb]
  | some k =>
    obtain ⟨phase, left⟩ := k
    simp [Lane.inSpace, hb]

theorem Lane.txd_space (k : Nat) (ht : l.tx = none) (h : l.inSpace) : l.txd k = .space := by
  simp [Lane.txd, ht, l.driverEnable_iff.mpr (Or.inr h)]

theorem Lane.txd_rest (k : Nat) (ht : l.tx = none) (h : ¬l.inSpace) : l.txd k = .mark := by
  have hd : l.driverEnable ≠ true := fun hd => (l.driverEnable_iff.mp hd).elim (· ht) h
  simp [Lane.txd, ht, hd]

/-- A lane with nothing to send and no BREAK leaves the pair at rest. -/
theorem Lane.atRest (k : Nat) (ht : l.tx = none) (hb : l.brk = none) : l.driverEnable = false ∧ l.txd k = .mark := by
  have h : ¬l.inSpace := by simp [Lane.inSpace, hb]
  exact ⟨Bool.eq_false_iff.mpr fun hd => (l.driverEnable_iff.mp hd).elim (· ht) h, l.txd_rest k ht h⟩

end

/-! ### A character -/

@[simp] theorem charLevels_length (b : Byte) : (charLevels b).length = 10 := by simp [charLevels]

theorem charLevels_start (b : Byte) : (charLevels b)[0]? = some .space := rfl

theorem charLevels_stop (b : Byte) : (charLevels b)[9]? = some .mark := rfl

theorem charLevels_bit (b : Byte) (j : Nat) (h : j < 8) : (charLevels b)[1 + j]? = some (levelOf (b.getLsbD j)) := by
  rw [charLevels, List.getElem?_append_left (by simp; omega), Nat.add_comm, List.getElem?_cons_succ]
  simp [h]

/-- The levels of a number's low bits, least significant first, are the number below the next power of 2. -/
theorem levelsNat_testBit (k x : Nat) :
    levelsNat ((List.range k).map fun i => levelOf (x.testBit i)) = x % 2 ^ k := by
  induction k generalizing x with
  | zero => simp [levelsNat, Nat.mod_one]
  | succ k ih =>
    have hbit : (if levelOf (x.testBit 0) = .mark then 1 else 0) = x % 2 := by
      rcases Nat.mod_two_eq_zero_or_one x with h | h <;> simp [levelOf, h]
    have htail : levelsNat ((List.range k).map fun i => levelOf (x.testBit (i + 1))) = x / 2 % 2 ^ k := by
      simp only [Nat.testBit_succ, ih]
    rw [List.range_succ_eq_map, List.map_cons, List.map_map, levelsNat, hbit, Nat.pow_succ', Nat.mod_mul, ← htail]
    rfl

/-- Ten levels of a character read back as its byte (R75). -/
theorem charOf_charLevels (b : Byte) : charOf (charLevels b) = some b := by
  have hbits : ((charLevels b).drop 1).take 8 = (List.range 8).map fun i => levelOf (b.toNat.testBit i) := by
    simp [charLevels, BitVec.testBit_toNat]
  have hstop : (charLevels b).getD 9 .space = .mark := rfl
  rw [charOf, if_pos hstop, hbits, levelsNat_testBit, Nat.mod_eq_of_lt b.isLt, BitVec.ofNat_toNat, BitVec.setWidth_eq]

/-! ### A frame -/

theorem flatMap_charLevels_length (bytes : List Byte) : (bytes.flatMap charLevels).length = 10 * bytes.length := by
  simp [List.length_flatMap, Nat.mul_comm]

/-- The characters of a frame stand back to back, ten levels each (R75). -/
theorem flatMap_charLevels_getElem? (bytes : List Byte) (i : Nat) (b : Byte) (h : bytes[i]? = some b) (j : Nat)
    (hj : j < 10) : (bytes.flatMap charLevels)[10 * i + j]? = (charLevels b)[j]? := by
  induction bytes generalizing i with
  | nil => cases h
  | cons c rest ih =>
    cases i with
    | zero =>
      obtain rfl : c = b := Option.some.inj h
      rw [List.flatMap_cons, List.getElem?_append_left (by simp; omega), Nat.mul_zero, Nat.zero_add]
    | succ i =>
      have hi : 10 * (i + 1) + j - 10 = 10 * i + j := by omega
      rw [List.flatMap_cons, List.getElem?_append_right (by simp; omega), charLevels_length, hi]
      exact ih i h

section
variable (l : Lane) (x : Tx) (h : l.tx = some x)
include h

theorem Lane.txd_frame (k : Nat) : l.txd k = x.frame.levels.getD k .mark := by
  simp only [Lane.txd, h]

/-- In bit time `j` of character `i` the pair is at that level of the character. -/
theorem Lane.txd_char (i : Nat) (b : Byte) (hb : x.frame.bytes[i]? = some b) (j : Nat) (hj : j < 10) :
    l.txd (1 + 10 * i + j) = (charLevels b).getD j .mark := by
  obtain ⟨hi, -⟩ := List.getElem?_eq_some_iff.mp hb
  have hidx : 1 + 10 * i + j = 10 * i + j + 1 := by omega
  rw [l.txd_frame x h, hidx, PartFrame.levels, List.cons_append, List.getD_cons_succ, List.getD_eq_getElem?_getD,
    List.getElem?_append_left (by rw [flatMap_charLevels_length]; omega), flatMap_charLevels_getElem? _ i b hb j hj,
    List.getD_eq_getElem?_getD]

/-- The bit time of mark after the last character. -/
theorem Lane.txd_afterFrame : l.txd (1 + 10 * x.frame.bytes.length) = .mark := by
  rw [l.txd_frame x h, Nat.add_comm, PartFrame.levels, List.cons_append, List.getD_cons_succ,
    ← flatMap_charLevels_length, List.getD_eq_getElem?_getD, List.getElem?_concat_length]
  rfl

theorem Lane.txd_frame_levels : l.txd 0 = .mark ∧ l.txd (1 + 10 * x.frame.bytes.length) = .mark
    ∧ ∀ i b, x.frame.bytes[i]? = some b →
        l.txd (1 + 10 * i) = .space ∧ l.txd (1 + 10 * i + 9) = .mark
          ∧ ∀ j, j < 8 → l.txd (1 + 10 * i + 1 + j) = if b.getLsbD j = true then .mark else .space := by
  refine ⟨l.txd_frame x h 0, l.txd_afterFrame x h, fun i b hb => ⟨?_, ?_, fun j hj => ?_⟩⟩
  · exact l.txd_char x h i b hb 0 (by decide)
  · exact l.txd_char x h i b hb 9 (by decide)
  · rw [Nat.add_assoc (1 + 10 * i), l.txd_char x h i b hb (1 + j) (by omega), List.getD_eq_getElem?_getD,
      charLevels_bit b j hj]
    rfl

end

/-! ### The resets -/

/-- After pin reset, and once a soft reset has begun, every lane leaves the pair at rest (R53, R52). -/
theorem atRest_afterReset {s t : State} (n : LaneId) (k : Nat)
    (h : exec .pinReset s = .next t ∨ ∃ v st, writable s st ∧ exec (.prstWrite v st) s = .next t) :
    (t.blocks.lane n).driverEnable = false ∧ (t.blocks.lane n).txd k = .mark := by
  have hl : t.blocks.lane n = s.blocks.pinReset.lane n := by
    rcases h with h | ⟨v, st, ⟨hp, hs⟩, h⟩
    · cases h
      rfl
    · cases h
      rw [s.onWrite_taken st _ hp hs]
      rfl
  rw [hl, Blocks.pinReset_lane]
  exact Lane.atRest _ k rfl rfl

/-- Settles O54. -/
theorem theDriverAndTheLevelsOfThePair : Obligations.TheDriverAndTheLevelsOfThePair :=
  ⟨Lane.driverEnable_iff,
    fun l k ht => ⟨l.txd_space k ht, fun hb => l.txd_rest k ht fun ⟨left, h⟩ => hb left h⟩,
    Lane.txd_frame_levels, charOf_charLevels, fun _ _ n k h => atRest_afterReset n k h, by decide, by decide⟩

end Sys2Proof.Machine

/-!
The events of the lane wire: the end of a BREAK, the receiver, and the last stop bit of a frame (R74 to R76, R80, R81,
R94).
-/
namespace Sys2Proof.Machine

open Sys2Proof.Claims

/-! ### An event of one lane -/

/-- An event that changes its lane alone, to `l`. -/
theorem exec_laneOnly {i : Instr} {s : State} {n : LaneId} {f : Blocks → Blocks} {l : Lane}
    (hi : exec i s = .next (s.onBlocks f)) (honly : Blocks.LaneOnly n s.blocks (f s.blocks))
    (hl : (f s.blocks).lane n = l) :
    ∃ t, exec i s = .next t ∧ t.port = s.port ∧ elsewhere s t ∧ t.blocks.lane n = l ∧ otherLanes s t n
      ∧ sameTables s t := by
  obtain ⟨helse, htables, hlanes⟩ := laneOnly_claims honly (t := s.onBlocks f) rfl rfl
  exact ⟨s.onBlocks f, hi, rfl, helse, hl, hlanes, htables⟩

/-- An event that changes its lane by `g` and leads to nothing further. -/
theorem exec_modLane {i : Instr} {s : State} {n : LaneId} {f : Blocks → Blocks} {g : Lane → Lane} {l : Lane}
    (hi : exec i s = .next (s.onBlocks f)) (hf : f s.blocks = s.blocks.modLane n g) (hl : g (s.blocks.lane n) = l) :
    ∃ t, exec i s = .next t ∧ t.port = s.port ∧ elsewhere s t ∧ t.blocks.lane n = l ∧ otherLanes s t n
      ∧ sameTables s t :=
  exec_laneOnly hi (hf ▸ s.blocks.laneOnly_modLane n g) (by rw [hf, Blocks.modLane_lane_same, hl])

/-- An event whose lane stays as it was changes nothing (log 1). -/
theorem State.onBlocks_modLane_self (s : State) (n : LaneId) (g : Lane → Lane)
    (h : g (s.blocks.lane n) = s.blocks.lane n) : (s.onBlocks fun b => b.modLane n g) = s := by
  have hself : s.blocks.modLane n g = s.blocks := by rw [Blocks.modLane, h, Blocks.setLane_self]
  rw [State.onBlocks, hself, Blocks.settled_self]

/-! ### The end of a BREAK -/

/-- A lane with no attention and no work chooses nothing (R97). -/
theorem Blocks.serviceChoice_idle (b : Blocks) (n : LaneId) (ha : (b.lane n).atn = false)
    (hr : (b.lane n).readyQ = []) (hh : (b.lane n).haltList = []) : b.serviceChoice n = b := by
  simp [Blocks.serviceChoice, Lane.wantsPoll, ha, hr, hh]

/-- Settles O29: recovery takes the place of the space, and a lane with nothing to do makes no service choice after it. -/
theorem breakSpaceThenRecovery : Obligations.BreakSpaceThenRecovery := by
  refine fun s n => ⟨fun hb hst => ?_, fun hb _ ha hr hh => ?_⟩
  · refine exec_modLane (f := fun b => b.modLane n (·.breakSpaceEnd)) rfl rfl ?_
    simp [Lane.breakSpaceEnd, Lane.breakDue, Lane.enable, hb, hst, Config.recoveryTicks]
  · refine exec_modLane (f := fun b => b.breakRecoveryEnd n) (g := fun l => { l with brk := none }) rfl ?_ rfl
    have hdue : (s.blocks.lane n).breakDue .recovery = true := by simp [Lane.breakDue, hb]
    rw [Blocks.breakRecoveryEnd, if_pos hdue, Blocks.serviceChoice_idle]
    all_goals rwa [Blocks.modLane_lane_same]

/-! ### The receiver -/

theorem Lane.listens_iff (l : Lane) : l.listens = true ↔ l.state ≠ .disabled ∧ l.brk = none ∧ l.tx = none := by
  simp [Lane.listens, Lane.enable, and_assoc]

theorem Lane.firstStartBit_listening (l : Lane) (hrx : l.rx = .listening) (h : l.listens = true) :
    l.firstStartBit = { l with rx := .assembling l.rate } := by
  simp [Lane.firstStartBit, h, hrx]

theorem Lane.resync_lost (l : Lane) (hrx : l.rx = .lostFooting) (h : l.listens = true) :
    l.resync = { l with rx := .listening } := by
  simp [Lane.resync, h, hrx]

/-- A lane that does not listen disregards LnRXD (R74). -/
theorem Lane.disregards (l : Lane) (h : l.listens = false) : l.firstStartBit = l ∧ l.resync = l := by
  simp [Lane.firstStartBit, Lane.resync, h]

/-- The receiver as a malformed frame leaves it (R80). -/
theorem receiver_after_malformed (check : FrameCheck) (above16 : Bool) :
    (if losesFooting check above16 = true then Receiver.lostFooting else .listening) =
      if above16 = true ∨ check = .framing ∨ check = .completeness then .lostFooting else .listening := by
  simp [losesFooting, or_assoc]

/-- With no frame on the wire the first that waited for the receiver goes out (log 9). -/
theorem Lane.endReception_next (l : Lane) (rx : Receiver) (hrx : rx.isAssembling = false) (f : PartFrame)
    (rest : List PartFrame) (ht : l.tx = none) (hq : l.txQueue = f :: rest) :
    l.endReception rx = { l with rx := rx, tx := some ⟨f, l.rate⟩, txQueue := rest } := by
  simp [Lane.endReception, Lane.drive, ht, hrx, hq]

/-- With a frame on the wire the reception's end sends none. -/
theorem Lane.endReception_sending (l : Lane) (rx : Receiver) (h : l.tx ≠ none) :
    l.endReception rx = { l with rx := rx } := by
  simp [Lane.endReception, Lane.drive, h]

/-- In these states it is not the lane's turn, and it has nothing to go on with. -/
theorem Blocks.haltIfTurn_quiet (b : Blocks) (n : LaneId)
    (h : (b.lane n).state = .polling ∨ (b.lane n).state = .selecting ∨ (b.lane n).state = .permitWait ∨
      (b.lane n).state = .commanding) : b.haltIfTurn n = b := by
  rw [b.haltIfTurn_pump n (Or.inl ?_), b.pump_quiet n]
  all_goals rcases h with h | h | h | h <;> simp [h, Lane.isLanesTurn]

/-- A malformed frame in a state in which the lane waits for nothing but its answer. -/
theorem malformed_discarded (s : State) (n : LaneId) (check : FrameCheck) (above16 : Bool) (rx : Receiver)
    (hrx : receiving s n)
    (hst : (s.blocks.lane n).state = .polling ∨ (s.blocks.lane n).state = .selecting ∨
      (s.blocks.lane n).state = .permitWait ∨ (s.blocks.lane n).state = .commanding)
    (hfooting : rx = if above16 = true ∨ check = .framing ∨ check = .completeness then .lostFooting else .listening) :
    ∃ t, exec (.frameMalformed n check above16) s = .next t ∧ t.port = s.port ∧ elsewhere s t ∧ otherLanes s t n
      ∧ sameTables s t ∧ outgoing t n = outgoing s n
      ∧ ((s.blocks.lane n).txQueue = [] ∨ (s.blocks.lane n).tx ≠ none →
          t.blocks.lane n = { s.blocks.lane n with rx := rx })
      ∧ ∀ f rest, (s.blocks.lane n).tx = none → (s.blocks.lane n).txQueue = f :: rest →
          t.blocks.lane n = { s.blocks.lane n with
            rx := rx, tx := some ⟨f, (s.blocks.lane n).rate⟩, txQueue := rest } := by
  have hdeaf : rx.isAssembling = false := by
    rw [hfooting]
    split <;> rfl
  rw [← receiver_after_malformed] at hfooting
  have hdiscard : s.blocks.discardFrame n (losesFooting check above16) =
      s.blocks.modLane n (·.endReception rx) := by
    rw [Blocks.discardFrame, if_pos (c := (s.blocks.lane n).rx.isAssembling = true) hrx, ← hfooting,
      Blocks.haltIfTurn_quiet]
    simpa using hst
  obtain ⟨t, hexec, hport, helse, hl, hlanes, htables⟩ := exec_modLane (i := .frameMalformed n check above16)
    (f := fun b => b.discardFrame n (losesFooting check above16)) rfl hdiscard rfl
  refine ⟨t, hexec, hport, helse, hlanes, htables, ?_, ?_, fun f rest ht hq => ?_⟩
  · show (t.blocks.lane n).outgoing = _
    rw [hl, Lane.endReception_outgoing]
    rfl
  · rintro (hq | ht)
    · rw [hl, Lane.endReception_quiet _ _ hq]
    · rw [hl, Lane.endReception_sending _ _ ht]
  · rw [hl, Lane.endReception_next _ _ hdeaf f rest ht hq]

/-- Settles O31, one lemma for each thing a receiver does. -/
theorem theReceiverBeginsDiscardsAndResynchronises : Obligations.TheReceiverBeginsDiscardsAndResynchronises := by
  refine ⟨fun s n hrx hst hb ht => ?_, fun s n hrx hst hb ht => ?_, fun s n h => ?_, malformed_discarded⟩
  · exact exec_modLane rfl rfl ((s.blocks.lane n).firstStartBit_listening hrx ((Lane.listens_iff _).mpr ⟨hst, hb, ht⟩))
  · exact exec_modLane rfl rfl ((s.blocks.lane n).resync_lost hrx ((Lane.listens_iff _).mpr ⟨hst, hb, ht⟩))
  · have hdeaf : (s.blocks.lane n).listens = false := by
      refine Bool.eq_false_iff.mpr fun hl => ?_
      obtain ⟨hst, hb, ht⟩ := (Lane.listens_iff _).mp hl
      exact h.elim hst (Or.elim · (· hb) (· ht))
    obtain ⟨hfirst, hresync⟩ := (s.blocks.lane n).disregards hdeaf
    exact ⟨congrArg Host.Outcome.next (s.onBlocks_modLane_self n _ hfirst),
      congrArg Host.Outcome.next (s.onBlocks_modLane_self n _ hresync)⟩

/-! ### The last stop bit of a frame -/

/-- With no frame waiting the pair is released (R74). -/
theorem Lane.nextFrame_released (l : Lane) (hq : l.txQueue = []) : l.nextFrame = { l with tx := none } := by
  simp [Lane.nextFrame, Lane.drive, hq]

/-- The blocks at which the pair is released. -/
def Blocks.released (b : Blocks) (n : LaneId) : Blocks := b.modLane n fun l => { l with tx := none }

section
variable (b : Blocks) (n : LaneId)

theorem Blocks.released_lane : (b.released n).lane n = { b.lane n with tx := none } :=
  b.modLane_lane_same n fun l => { l with tx := none }

theorem Blocks.laneOnly_released : Blocks.LaneOnly n b (b.released n) := b.laneOnly_modLane n _

theorem Blocks.frameSent_last (f : PartFrame) (rate : Fin 4) (ht : (b.lane n).tx = some ⟨f, rate⟩)
    (hq : (b.lane n).txQueue = []) : b.frameSent n = (b.released n).afterFrame n f := by
  have hl : b.modLane n (·.nextFrame) = b.released n := by
    rw [Blocks.modLane, Lane.nextFrame_released _ hq]
    rfl
  simp only [Blocks.frameSent, ht, hl]

/-- The frame's answer is awaited: it is a POLL, a SEL, a CMD or an ABORT, and the lane is in the state that takes the
answer (TABLE 26, TABLE 33). -/
def Lane.awaitsAnswer (l : Lane) (f : PartFrame) : Prop :=
  (f = .poll ∧ l.state = .polling) ∨ (∃ u, f = .sel u ∧ l.state = .selecting)
    ∨ (∃ u code dir count, f = .cmd u code dir count ∧ l.state = .commanding)
    ∨ ∃ u, f = .abort u ∧ l.state = .aborting ∧ l.abortPhase = .awaiting

theorem Lane.awaitIn_here (l : Lane) (st : LaneState) (h : l.state = st) : l.awaitIn st = l.startTimer := if_pos h

/-- The response timer starts when the answer is awaited (R81). -/
theorem Blocks.afterFrame_awaits (f : PartFrame) (h : (b.lane n).awaitsAnswer f) :
    b.afterFrame n f = b.modLane n (·.startTimer) := by
  have hawait : ∀ st, (b.lane n).state = st → b.modLane n (·.awaitIn st) = b.modLane n (·.startTimer) := by
    intro st hst
    rw [Blocks.modLane, Lane.awaitIn_here _ st hst]
    rfl
  rcases h with ⟨rfl, hst⟩ | ⟨u, rfl, hst⟩ | ⟨u, code, dir, count, rfl, hst⟩ | ⟨u, rfl, hst, hphase⟩
  · exact hawait _ hst
  · exact hawait _ hst
  · show (b.modLane n (·.awaitIn .commanding)).haltIfTurn n = _
    rw [hawait _ hst, Blocks.haltIfTurn_quiet]
    rw [Blocks.modLane_lane_same]
    exact Or.inr (Or.inr (Or.inr hst))
  · show b.modLane n (·.afterAbort) = _
    rw [Blocks.modLane, Lane.afterAbort, if_pos hphase, Lane.awaitIn_here _ _ hst]
    rfl

end

/-- Settles O32: the pair is released, and the timer starts where an answer is awaited. -/
theorem theTimerStartsAtTheLastStopBit : Obligations.TheTimerStartsAtTheLastStopBit := by
  intro s n f rate ht hq
  have hl := s.blocks.released_lane n
  have hsent := s.blocks.frameSent_last n f rate ht hq
  refine ⟨fun h => ?_, ?_⟩
  · have hawaits : ((s.blocks.released n).lane n).awaitsAnswer f := by
      rw [hl]
      exact h
    rw [Blocks.afterFrame_awaits _ n f hawaits] at hsent
    refine exec_laneOnly (f := fun b => b.frameSent n) rfl ?_ ?_
    · rw [hsent]
      exact (s.blocks.laneOnly_released n).trans (Blocks.laneOnly_modLane _ n _)
    · rw [hsent, Blocks.modLane_lane_same, hl]
      rfl
  · rintro u rfl
    exact exec_laneOnly (f := fun b => b.frameSent n) rfl (hsent ▸ s.blocks.laneOnly_released n) (hsent ▸ hl)

end Sys2Proof.Machine

/-!
A DIN of an IN command: the chunk it uses, and the duplicate that uses none (R88, R89, R110).
-/
namespace Sys2Proof.Machine

open Sys2Proof.Claims

/-! ### The pumps of an IN command -/

section
variable (b : Blocks) (n : LaneId)

/-- Of its lane, asking for a staging write touches the memory request alone. -/
theorem Blocks.askWrite_lane : ∃ mr, (b.askWrite n).lane n = { b.lane n with memReq := mr } := by
  simp only [Blocks.askWrite]
  split
  · rw [Blocks.askLane_lane, Blocks.modLane_lane_same]
    exact ⟨_, rfl⟩
  · exact ⟨_, rfl⟩

/-- While credit is out no GRANT goes (R109). -/
theorem Blocks.sendGrant_credited (h : (b.lane n).credit ≠ []) : b.sendGrant n = b := by
  simp [Blocks.sendGrant, Lane.mayGrant, h]

/-- What the pumps leave of the lane in an IN command: credit that is out stands, and staging with it. -/
theorem Blocks.pump_inbound_lane (hst : (b.lane n).state = .transfer) (hdir : (b.lane n).dir = .inbound) :
    ∃ mr cr hn tx q,
      (b.pump n).lane n = { b.lane n with memReq := mr, credit := cr, heldNeed := hn, tx := tx, txQueue := q }
        ∧ ((b.lane n).credit ≠ [] → cr = (b.lane n).credit) := by
  obtain ⟨mr, hl⟩ := b.askWrite_lane n
  rw [b.pump_inbound n hst hdir]
  by_cases hcr : (b.lane n).credit = []
  · by_cases hgrant : ((b.askWrite n).lane n).mayGrant = true
    · rw [Blocks.sendGrant_sends _ n hgrant, Lane.send_spec, hl]
      exact ⟨_, _, _, _, _, rfl, fun h => absurd hcr h⟩
    · rw [Blocks.sendGrant, if_neg hgrant, hl]
      exact ⟨_, _, _, _, _, rfl, fun _ => rfl⟩
  · rw [Blocks.sendGrant_credited _ n (by rw [hl]; exact hcr), hl]
    exact ⟨_, _, _, _, _, rfl, fun _ => rfl⟩

end

/-! ### A DIN of the served unit -/

section
variable {s : State} {n : LaneId} {k : Slot} {toggle : Bool} {bytes : List Byte} (hrx : receiving s n)
  (hst : (s.blocks.lane n).state = .transfer) (hserved : serving s n k) (h1 : 1 ≤ bytes.length)
  (h16 : bytes.length ≤ 16)
include hrx hst hserved h1 h16

/-- A DIN of the served unit in L_TRANSFER leads to what `Blocks.dinTaken` makes of it. -/
theorem exec_din {c : Blocks} (hc : (s.blocks.heard n).dinTaken n toggle bytes = c) :
    ∃ t, exec (.frameDin n (s.blocks.unitOf k) toggle bytes) s = .next t ∧ t.port = s.port ∧ t.pending = s.pending
      ∧ t.blocks = s.blocks.settled c := by
  obtain ⟨tx, q, hlane⟩ := s.blocks.heard_lane_spec n
  have hconn := Blocks.inConnection_served (s.blocks.heard n) n (s.blocks.unitOf k) (fun b => b.dinTaken n toggle bytes)
    (by rw [hlane]; exact Or.inr (Or.inl hst))
    (Blocks.servedUnit_eq (s.blocks.heard n) n k .connection (by rw [hlane]; exact hserved)).symm
  have hwf : (decide (1 ≤ bytes.length) && decide (bytes.length ≤ 16)) = true := by simp [h1, h16]
  have hlost : decide (16 < bytes.length) = false := by simp [h16]
  exact exec_frame (f := fun b => b.inConnection n (s.blocks.unitOf k) fun b => b.dinTaken n toggle bytes) hrx
    (by rw [← hwf, ← hlost]; rfl) (hconn.trans hc)

/-- A DIN after which the pumps run: `b` are the blocks at which they do. -/
theorem exec_din_pumped {b : Blocks} (hc : (s.blocks.heard n).dinTaken n toggle bytes = b.pump n)
    (honly : Blocks.LaneOnly n s.blocks b) (hstB : (b.lane n).state = .transfer) (hdirB : (b.lane n).dir = .inbound) :
    ∃ t mr cr hn tx q, exec (.frameDin n (s.blocks.unitOf k) toggle bytes) s = .next t ∧ t.port = s.port ∧ elsewhere s t
      ∧ t.blocks.lane n = { b.lane n with memReq := mr, credit := cr, heldNeed := hn, tx := tx, txQueue := q }
      ∧ ((b.lane n).credit ≠ [] → cr = (b.lane n).credit) ∧ t.blocks.ctxs = s.blocks.ctxs ∧ otherLanes s t n := by
  obtain ⟨t, hexec, hport, hp, ht⟩ := exec_din hrx hst hserved h1 h16 hc
  obtain ⟨mr, cr, hn, tx, q, hl, hcr⟩ := b.pump_inbound_lane n hstB hdirB
  have hpumped := b.pumped_transfer n hstB
  refine ⟨t, mr, cr, hn, tx, q, hexec, hport, elsewhere_of_local (k := k) ?_ hp, by rw [ht, Blocks.settled_lane, hl], hcr,
    by rw [ht]; exact hpumped.ctxs.trans honly.ctxs, ?_⟩
  · rw [ht]
    exact ((honly.toLocal k).trans (hpumped.toLocal k)).settled _
  · rw [otherLanes, ht]
    exact (honly.apart.trans hpumped.apart).settled _

end

/-! ### The chunk used -/

/-- Under DISCARD nothing is staged; else the bytes are (R110). -/
theorem Lane.takeDin_staging (l : Lane) (bytes : List Byte) :
    (l.takeDin bytes).staging = if l.dflags.discard = true then l.staging else l.staging.takeIn bytes := by
  simp only [Lane.takeDin]
  split
  · rfl
  · rfl

/-- The blocks at which a DIN has used the head chunk of credit and the timer is as R110 has it after it. -/
def Blocks.dinUsed (b : Blocks) (n : LaneId) (bytes : List Byte) : Blocks :=
  (b.modLane n (·.takeDin bytes)).modLane n (·.timerAfterDin)

section
variable (b : Blocks) (n : LaneId) (bytes : List Byte)

theorem Blocks.laneOnly_dinUsed : Blocks.LaneOnly n b (b.dinUsed n bytes) :=
  (b.laneOnly_modLane n _).trans (Blocks.laneOnly_modLane _ n _)

/-- With bytes still to be received and no halt noticed the transfer goes on. -/
theorem Blocks.dinNew_goesOn (hlt : bytes.length < (b.lane n).rxResidual) (hnotice : (b.lane n).haltNotice = false) :
    b.dinNew n bytes = (b.dinUsed n bytes).pump n := by
  obtain ⟨da, st, htake⟩ := (b.lane n).takeDin_spec bytes
  have hl := b.modLane_lane_same n (·.takeDin bytes)
  rw [htake] at hl
  have hres : ((b.modLane n (·.takeDin bytes)).lane n).rxResidual ≠ 0 := by
    rw [hl]
    exact Nat.sub_ne_zero_of_lt hlt
  have hnoticeB : ((b.modLane n (·.takeDin bytes)).lane n).haltNotice = false := by rw [hl]; exact hnotice
  rw [Blocks.dinNew, Blocks.dinUsed]
  generalize b.modLane n (·.takeDin bytes) = used at hres hnoticeB ⊢
  simp [hres, hnoticeB]

/-- With credit left the timer starts (R93). -/
theorem Blocks.dinUsed_lane (c : Nat) (rest : List Nat) (hcredit : (b.lane n).credit = c :: rest) (hrest : rest ≠ []) :
    ∃ da st, (b.dinUsed n bytes).lane n =
      { b.lane n with
        credit := rest, inToggle := !(b.lane n).inToggle, lastIn := some bytes
        rxResidual := (b.lane n).rxResidual - bytes.length, timer := some ⟨0, (b.lane n).limit⟩
        residual := (b.lane n).residual - (if (b.lane n).dflags.discard = true then bytes.length else 0)
        dataAddr := da, staging := st }
      ∧ st = if (b.lane n).dflags.discard = true then (b.lane n).staging else (b.lane n).staging.takeIn bytes := by
  obtain ⟨da, st, htake⟩ := (b.lane n).takeDin_spec bytes
  have hst := (b.lane n).takeDin_staging bytes
  rw [htake] at hst
  refine ⟨da, st, ?_, hst⟩
  have hleft : ((b.lane n).takeDin bytes).credit = rest := by rw [htake, hcredit]; rfl
  rw [Blocks.dinUsed, Blocks.modLane_lane_same, Blocks.modLane_lane_same, Lane.timerAfterDin,
    if_pos (Or.inl (by rw [hleft]; exact hrest)), htake, hcredit]
  rfl

end

section
variable {s : State} {n : LaneId} {k : Slot} {toggle : Bool} {bytes : List Byte} {d : Descriptor} (hrx : receiving s n)
  (hst : (s.blocks.lane n).state = .transfer) (hserved : serving s n k) (hd : (s.blocks.lane n).desc = some d)
  (hdir : d.dir = .inbound) (hnotice : (s.blocks.lane n).haltNotice = false) (h1 : 1 ≤ bytes.length)
  (h16 : bytes.length ≤ 16)
include hrx hst hserved hd hdir hnotice h1 h16

theorem din_uses_credit (c : Nat) (rest : List Nat) (hcredit : (s.blocks.lane n).credit = c :: rest) (hrest : rest ≠ [])
    (htoggle : toggle = (s.blocks.lane n).inToggle) (hfit : bytes.length ≤ c)
    (hlt : bytes.length < (s.blocks.lane n).rxResidual) :
    ∃ t, exec (.frameDin n (s.blocks.unitOf k) toggle bytes) s = .next t ∧ t.port = s.port ∧ elsewhere s t
      ∧ (t.blocks.lane n).credit = rest ∧ (t.blocks.lane n).inToggle = !toggle
      ∧ (t.blocks.lane n).lastIn = some bytes
      ∧ (t.blocks.lane n).rxResidual = (s.blocks.lane n).rxResidual - bytes.length
      ∧ (t.blocks.lane n).residual =
          (s.blocks.lane n).residual - (if d.flags.discard = true then bytes.length else 0)
      ∧ (d.flags.discard = true → (t.blocks.lane n).staging = (s.blocks.lane n).staging)
      ∧ (d.flags.discard = false → (t.blocks.lane n).staging = (s.blocks.lane n).staging.takeIn bytes)
      ∧ (t.blocks.lane n).timer = some ⟨0, (s.blocks.lane n).limit⟩ ∧ (t.blocks.lane n).state = .transfer
      ∧ t.blocks.ctxs = s.blocks.ctxs ∧ otherLanes s t n := by
  have hin : (s.blocks.lane n).dir = .inbound := by rw [Lane.dir, hd]; exact hdir
  obtain ⟨txH, qH, hlane⟩ := s.blocks.heard_lane_spec n
  have hflags : ((s.blocks.heard n).lane n).dflags = d.flags := by
    rw [hlane, Lane.dflags]
    simp only [hd]
  have hnew := Blocks.dinTaken_new (s.blocks.heard n) n toggle bytes (Or.inl (by rw [hlane]; exact ⟨hst, hin⟩))
    (by rw [hlane]; exact hst) (by rw [hlane]; exact htoggle) (by rw [hlane]; simp [Lane.withinCredit, hcredit, hfit])
  rw [Blocks.dinNew_goesOn _ n bytes (by rw [hlane]; exact hlt) (by rw [hlane]; exact hnotice)] at hnew
  obtain ⟨da, st, hl, hstage⟩ :=
    (s.blocks.heard n).dinUsed_lane n bytes c rest (by rw [hlane]; exact hcredit) hrest
  rw [hflags] at hl hstage
  rw [hlane] at hl hstage
  obtain ⟨t, mr, cr, hn, tx, q, hexec, hport, helse, htl, hcr, hctxs, hlanes⟩ :=
    exec_din_pumped hrx hst hserved h1 h16 hnew ((s.blocks.laneOnly_heard n).trans (Blocks.laneOnly_dinUsed _ n bytes))
      (by rw [hl]; exact hst) (by rw [hl]; exact hin)
  rw [hl] at htl hcr
  refine ⟨t, hexec, hport, helse, ?_, ?_, by rw [htl], by rw [htl], by rw [htl], fun hdis => ?_, fun hdis => ?_,
    by rw [htl], by rw [htl]; exact hst, hctxs, hlanes⟩
  · rw [htl]
    exact hcr hrest
  · rw [htl, htoggle]
  · rw [htl]
    exact hstage.trans (if_pos hdis)
  · rw [htl]
    exact hstage.trans (if_neg (by rw [hdis]; nofun))

/-! ### The duplicate -/

theorem din_duplicate_discarded (htoggle : toggle ≠ (s.blocks.lane n).inToggle)
    (hlast : (s.blocks.lane n).lastIn = some bytes) :
    ∃ t, exec (.frameDin n (s.blocks.unitOf k) toggle bytes) s = .next t ∧ t.port = s.port ∧ elsewhere s t
      ∧ (t.blocks.lane n).state = .transfer ∧ (t.blocks.lane n).rx = .listening
      ∧ (t.blocks.lane n).timer = (s.blocks.lane n).timer
      ∧ ((s.blocks.lane n).credit ≠ [] → (t.blocks.lane n).credit = (s.blocks.lane n).credit)
      ∧ (t.blocks.lane n).inToggle = (s.blocks.lane n).inToggle ∧ (t.blocks.lane n).lastIn = (s.blocks.lane n).lastIn
      ∧ (t.blocks.lane n).rxResidual = (s.blocks.lane n).rxResidual
      ∧ (t.blocks.lane n).residual = (s.blocks.lane n).residual
      ∧ (t.blocks.lane n).dataAddr = (s.blocks.lane n).dataAddr
      ∧ (t.blocks.lane n).staging = (s.blocks.lane n).staging ∧ t.blocks.ctxs = s.blocks.ctxs ∧ otherLanes s t n := by
  have hin : (s.blocks.lane n).dir = .inbound := by rw [Lane.dir, hd]; exact hdir
  obtain ⟨txH, qH, hlane⟩ := s.blocks.heard_lane_spec n
  have hdup := Blocks.dinTaken_duplicate (s.blocks.heard n) n toggle bytes (Or.inl (by rw [hlane]; exact ⟨hst, hin⟩))
    (by rw [hlane]; exact htoggle) (by rw [hlane]; exact hlast)
  rw [Blocks.haltIfTurn_unnoticed _ n (by rw [hlane]; exact hnotice)] at hdup
  obtain ⟨t, mr, cr, hn, tx, q, hexec, hport, helse, htl, hcr, hctxs, hlanes⟩ :=
    exec_din_pumped hrx hst hserved h1 h16 hdup (s.blocks.laneOnly_heard n) (by rw [hlane]; exact hst)
      (by rw [hlane]; exact hin)
  rw [hlane] at htl hcr
  refine ⟨t, hexec, hport, helse, by rw [htl]; exact hst, ?_⟩
  rw [htl]
  exact ⟨rfl, rfl, hcr, rfl, rfl, rfl, rfl, rfl, rfl, hctxs, hlanes⟩

end

/-- Settles O38: `din_uses_credit` for the chunk, `din_duplicate_discarded` for its repeat. -/
theorem aDinUsesCreditAndADuplicateUsesNone : Obligations.ADinUsesCreditAndADuplicateUsesNone :=
  fun _ _ _ _ _ _ hrx hst hserved hd hdir hnotice h1 h16 =>
    ⟨din_uses_credit hrx hst hserved hd hdir hnotice h1 h16, din_duplicate_discarded hrx hst hserved hd hdir hnotice h1 h16⟩

end Sys2Proof.Machine

/-!
The expiry event and the owed decision (R104, R131).
-/
namespace Sys2Proof.Machine

open Sys2Proof.Claims

/-- The blocks at which the expiry event's decision is taken. -/
def Blocks.expiryTaken (b : Blocks) : Blocks := { b with window := { b.window with expiryDue := false } }

theorem Blocks.ledgerExpiry_due (b : Blocks) (h : b.window.expiryDue = true) :
    b.ledgerExpiry = b.expiryTaken.grantDecision := if_pos h

/-- With the window full a decision grants no lane. -/
theorem Blocks.grantDecision_full (b : Blocks) (h : b.window.startLimit ≤ b.window.youngCount) :
    b.grantDecision = { b with window := { b.window with asked := false } } := by
  have hmay : Window.mayGrant { b.window with asked := false } = false := by
    simp only [Window.mayGrant, Bool.and_eq_false_iff, decide_eq_false_iff_not]
    exact Or.inr (Nat.not_lt.mpr h)
  rw [Blocks.grantDecision]
  cases b.window.permits.length with
  | zero => rfl
  | succ fuel => exact if_neg (by rw [hmay]; exact Bool.false_ne_true)

/-- A decision taken at `b`, which differs from the state in the marks of the window only, grants the lane that waits. -/
theorem State.onBlocks_grants (s : State) {f : Blocks → Blocks} {b : Blocks} {n : LaneId} {d : Descriptor}
    (hf : f s.blocks = b.grantDecision) (hlanes : b.lanes = s.blocks.lanes) (hctxs : b.ctxs = s.blocks.ctxs)
    (htb : b.timebase = s.blocks.timebase) (hledger : b.window.ledger = s.blocks.window.ledger)
    (hp : b.window.permits = [n]) (hy : b.window.youngCount < b.window.startLimit)
    (hd : (s.blocks.lane n).desc = some d) (hlen : s.blocks.window.ledger.length < 8) :
    (s.onBlocks f).port = s.port ∧ granted s (s.onBlocks f) n d ∧ (s.onBlocks f).blocks.ctxs = s.blocks.ctxs := by
  have hlane : ∀ m, b.lane m = s.blocks.lane m := fun m => by rw [Blocks.lane, hlanes]; rfl
  have hunit : b.servedUnit n = s.blocks.servedUnit n := by
    simp only [Blocks.servedUnit, Blocks.unitOf, Blocks.ctx, hlane, hctxs]
  have ht : (s.onBlocks f).blocks = s.blocks.settled b.grantDecision := by rw [State.onBlocks_blocks, hf]
  obtain ⟨lanes, ledger, permits, hg⟩ := b.grantDecision_spec
  refine ⟨rfl, granted_of hp hy hledger hlen htb hunit (by rw [hlane]; exact hd) (.of_eq (hlane n))
    (fun m _ => hlane m) ht, ?_⟩
  rw [ht, Blocks.settled_ctxs, hg]
  exact hctxs

/-- Settles O26: the expiry event and the owed decision take the grant decision, which grants the head lane with room and
none with the window full. -/
theorem anExpiryEventGrantsTheHeadLane : Obligations.AnExpiryEventGrantsTheHeadLane := by
  refine ⟨fun s n hdue hp => ⟨fun hy d hd hlen => ?_, fun hfull => ?_⟩, fun s n d hpend hask hp hy hd hlen => ?_⟩
  · exact ⟨_, rfl, s.onBlocks_grants (b := s.blocks.expiryTaken) (s.blocks.ledgerExpiry_due hdue) rfl rfl rfl rfl hp hy hd
      hlen⟩
  · have ht : (s.onBlocks fun b => b.ledgerExpiry).blocks = s.blocks.settled
        { s.blocks.expiryTaken with window := { s.blocks.expiryTaken.window with asked := false } } := by
      rw [State.onBlocks_blocks, s.blocks.ledgerExpiry_due hdue, s.blocks.expiryTaken.grantDecision_full hfull]
    exact ⟨_, rfl, by rw [ht]; rfl, by rw [ht]; rfl, by rw [ht]; rfl⟩
  · have hstep : step s = .next (s.onBlocks Blocks.grantDecision) := by
      rw [step, hpend]
      exact congrArg Host.Outcome.next (if_pos hask)
    exact ⟨_, hstep, s.onBlocks_grants (b := s.blocks) rfl rfl rfl rfl rfl hp hy hd hlen⟩

end Sys2Proof.Machine

/-!
A change of the attention line (R96, R97, R99, R124).
-/
namespace Sys2Proof.Machine

open Sys2Proof.Claims

/-! ### The service choice of an idle lane -/

theorem Blocks.serviceChoice_polls (b : Blocks) (n : LaneId) (hst : (b.lane n).state = .idle)
    (hbrk : (b.lane n).brk = none) (hpoll : (b.lane n).wantsPoll = true) :
    b.serviceChoice n = b.setLane n (b.lane n).startPoll := by
  simp [Blocks.serviceChoice, hst, hbrk, hpoll]

/-- Slot `k` is the head of the halt list, else of the ready queue. -/
def Lane.firstWork (l : Lane) (k : Slot) (rest : List Slot) (kind : ServiceKind) : Prop :=
  (l.haltList = k :: rest ∧ kind = .haltSelection) ∨ (l.haltList = [] ∧ l.readyQ = k :: rest ∧ kind = .readySelection)

theorem Blocks.serviceChoice_selects (b : Blocks) (n : LaneId) {k : Slot} {rest : List Slot} {kind : ServiceKind}
    (hst : (b.lane n).state = .idle) (hbrk : (b.lane n).brk = none) (hpoll : (b.lane n).wantsPoll = false)
    (hwork : (b.lane n).firstWork k rest kind) :
    b.serviceChoice n = b.setLane n ((b.lane n).startSelection k kind (b.unitOf k)) := by
  rcases hwork with ⟨hhalt, rfl⟩ | ⟨hhalt, hready, rfl⟩
  · simp [Blocks.serviceChoice, hst, hbrk, hpoll, hhalt]
  · simp [Blocks.serviceChoice, hst, hbrk, hpoll, hhalt, hready]

theorem Lane.startPoll_spec (l : Lane) : ∃ tx q,
    l.startPoll = { l with state := .polling, pollRun := if l.hasWork then l.pollRun + 1 else 0, tx := tx, txQueue := q } :=
  ⟨_, _, Lane.send_spec _ _⟩

theorem Lane.startSelection_spec (l : Lane) (k : Slot) (kind : ServiceKind) (u : UnitAddr) : ∃ tx q,
    l.startSelection k kind u = { l with
      state := .selecting, served := some ⟨k, kind⟩, attempts := 1, mismatch := false, pollRun := 0
      tx := tx, txQueue := q } :=
  ⟨_, _, Lane.send_spec _ _⟩

/-- What a lane sends after a change that sends nothing. -/
theorem Lane.Sent.after {l m k : Lane} {fs : List PartFrame} (h : Lane.Sent m k fs) (g : Lane.Sent l m []) :
    Lane.Sent l k fs :=
  g.trans h

/-! ### The level taken -/

/-- The lane once its deassertion is taken outside L_DISABLED (R99, R124). -/
def Lane.deasserted (l : Lane) : Lane :=
  { l with atn := false, lineStuck := false, emptyPolls := if l.state = .fault then l.emptyPolls else 0 }

theorem Lane.takeAttention_asserted (l : Lane) : l.takeAttention true = { l with atn := true } := rfl

theorem Lane.takeAttention_disabled (l : Lane) (a : Bool) (h : l.state = .disabled) :
    l.takeAttention a = { l with atn := a } := by
  simp [Lane.takeAttention, Lane.enable, h]

theorem Lane.takeAttention_deasserted (l : Lane) (h : l.state ≠ .disabled) : l.takeAttention false = l.deasserted := by
  simp [Lane.takeAttention, Lane.enable, h, Lane.deasserted]

/-! ### The change and the choice it brings -/

theorem Blocks.laneOnly_attentionChange (b : Blocks) (n : LaneId) (a : Bool) :
    Blocks.LaneOnly n b (b.attentionChange n a) := by
  unfold Blocks.attentionChange
  dsimp only
  split
  · exact .refl n b
  · split
    · exact (b.laneOnly_modLane n _).trans (Blocks.laneOnly_serviceChoice _ n)
    · exact b.laneOnly_modLane n _

/-- A change of the line, with the lane it leaves. -/
theorem exec_attentionLineChange {s : State} {n : LaneId} {a : Bool} {l : Lane}
    (hl : (s.blocks.attentionChange n a).lane n = l) :
    ∃ t, exec (.attentionLineChange n a) s = .next t ∧ t.port = s.port ∧ elsewhere s t ∧ t.blocks.lane n = l
      ∧ otherLanes s t n ∧ sameTables s t :=
  exec_laneOnly (f := fun b => b.attentionChange n a) rfl (s.blocks.laneOnly_attentionChange n a) hl

/-- In L_IDLE, out of a BREAK, the assertion brings the poll. -/
theorem Blocks.attentionChange_polls (b : Blocks) (n : LaneId) (hst : (b.lane n).state = .idle)
    (hbrk : (b.lane n).brk = none) (hatn : (b.lane n).atn = false) (hstuck : (b.lane n).lineStuck = false)
    (hrun : (b.lane n).pollRun < 4) :
    (b.attentionChange n true).lane n = Lane.startPoll { b.lane n with atn := true } := by
  have hlane : (b.modLane n (·.takeAttention true)).lane n = { b.lane n with atn := true } :=
    (b.modLane_lane_same n _).trans (b.lane n).takeAttention_asserted
  have hchange : b.attentionChange n true = (b.modLane n (·.takeAttention true)).serviceChoice n := by
    simp [Blocks.attentionChange, hatn]
  rw [hchange, Blocks.serviceChoice_polls _ n (by rw [hlane]; exact hst) (by rw [hlane]; exact hbrk)
    (by rw [hlane]; simp [Lane.wantsPoll, hstuck, hrun]), Blocks.setLane_lane_same, hlane]

/-- In L_DISABLED only the level changes. -/
theorem Blocks.attentionChange_disabled (b : Blocks) (n : LaneId) (a : Bool) (hst : (b.lane n).state = .disabled) :
    (b.attentionChange n a).lane n = { b.lane n with atn := a } := by
  have hlane : (b.modLane n (·.takeAttention a)).lane n = { b.lane n with atn := a } :=
    (b.modLane_lane_same n _).trans ((b.lane n).takeAttention_disabled a hst)
  unfold Blocks.attentionChange
  dsimp only
  split
  next hsame => rw [← hsame]
  next =>
    split
    · rw [Blocks.serviceChoice_held _ n (Or.inl (by rw [hlane]; simp [hst])), hlane]
    · exact hlane

/-- The deassertion clears LINE_STUCK, and the clearing brings a choice. -/
theorem Blocks.attentionChange_deasserts (b : Blocks) (n : LaneId) (hatn : (b.lane n).atn = true) :
    b.attentionChange n false = if (b.lane n).lineStuck then (b.modLane n (·.takeAttention false)).serviceChoice n
      else b.modLane n (·.takeAttention false) := by
  simp [Blocks.attentionChange, hatn]

/-- With no attention a lane without work chooses nothing; nor does one out of L_IDLE or in a BREAK. -/
theorem Blocks.attentionChange_chooses_none (b : Blocks) (n : LaneId) (hst : (b.lane n).state ≠ .disabled)
    (hatn : (b.lane n).atn = true)
    (h : (b.lane n).state ≠ .idle ∨ (b.lane n).brk ≠ none ∨ (b.lane n).lineStuck = false ∨
      ((b.lane n).haltList = [] ∧ (b.lane n).readyQ = [])) :
    (b.attentionChange n false).lane n = (b.lane n).deasserted := by
  have hlane : (b.modLane n (·.takeAttention false)).lane n = (b.lane n).deasserted :=
    (b.modLane_lane_same n _).trans ((b.lane n).takeAttention_deasserted hst)
  rw [b.attentionChange_deasserts n hatn]
  split
  next hstuck =>
    have hnone : (b.modLane n (·.takeAttention false)).serviceChoice n = b.modLane n (·.takeAttention false) := by
      rcases h with h | h | h | ⟨hhalt, hready⟩
      · exact Blocks.serviceChoice_held _ n (Or.inl (by rw [hlane]; exact h))
      · exact Blocks.serviceChoice_held _ n (Or.inr (by rw [hlane]; exact h))
      · exact absurd hstuck (by simp [h])
      · exact Blocks.serviceChoice_idle _ n (by rw [hlane]; rfl) (by rw [hlane]; exact hready) (by rw [hlane]; exact hhalt)
    rw [hnone, hlane]
  next => exact hlane

/-- In L_IDLE, out of a BREAK, the clearing of LINE_STUCK selects the first work. -/
theorem Blocks.attentionChange_selects (b : Blocks) (n : LaneId) {k : Slot} {rest : List Slot} {kind : ServiceKind}
    (hst : (b.lane n).state = .idle) (hbrk : (b.lane n).brk = none) (hatn : (b.lane n).atn = true)
    (hstuck : (b.lane n).lineStuck = true) (hwork : (b.lane n).firstWork k rest kind) :
    (b.attentionChange n false).lane n = (b.lane n).deasserted.startSelection k kind (b.unitOf k) := by
  have hlane : (b.modLane n (·.takeAttention false)).lane n = (b.lane n).deasserted :=
    (b.modLane_lane_same n _).trans ((b.lane n).takeAttention_deasserted (by rw [hst]; nofun))
  rw [b.attentionChange_deasserts n hatn, if_pos hstuck,
    Blocks.serviceChoice_selects _ n (by rw [hlane]; exact hst) (by rw [hlane]; exact hbrk) (by rw [hlane]; rfl)
      (by rw [hlane]; exact hwork), Blocks.setLane_lane_same, hlane]
  rfl

/-- Settles O30: the level taken, then the service choice it brings. -/
theorem attentionBringsAPollAndDeassertionClearsLineStuck :
    Obligations.AttentionBringsAPollAndDeassertionClearsLineStuck := by
  refine ⟨fun s n hst hbrk hatn hstuck hrun => ?_, fun s n a hst => ?_, fun s n l hst hatn hl => ?_⟩
  · obtain ⟨t, hexec, hport, helse, hlane, hlanes, htables⟩ :=
      exec_attentionLineChange (s.blocks.attentionChange_polls n hst hbrk hatn hstuck hrun)
    have hsent : Lane.Sent (s.blocks.lane n) (t.blocks.lane n) [.poll] := by
      rw [hlane]
      exact (Lane.sent_startPoll _).after (.of_wire rfl rfl rfl)
    obtain ⟨tx, q, hpoll⟩ := Lane.startPoll_spec { s.blocks.lane n with atn := true }
    rw [hpoll] at hlane
    exact ⟨t, hexec, hport, helse, by rw [hlane], sends_of_sent hsent, by rw [hlane], hlanes, htables⟩
  · exact exec_attentionLineChange (s.blocks.attentionChange_disabled n a hst)
  · subst hl
    obtain ⟨t, hexec, hport, helse, hlane, hlanes, htables⟩ := exec_attentionLineChange (s := s) (n := n) (a := false) rfl
    refine ⟨t, hexec, hport, helse, hlanes, htables, fun hnone => ?_, fun hidle hbrk hstuck k rest kind hwork => ?_⟩
    · exact hlane.trans (s.blocks.attentionChange_chooses_none n hst hatn hnone)
    · rw [s.blocks.attentionChange_selects n hidle hbrk hatn hstuck hwork] at hlane
      have hsent : Lane.Sent (s.blocks.lane n) (t.blocks.lane n) [.sel (s.blocks.unitOf k)] := by
        rw [hlane]
        exact (Lane.sent_startSelection _ k kind _).after (.of_wire rfl rfl rfl)
      obtain ⟨tx, q, hsel⟩ := (s.blocks.lane n).deasserted.startSelection_spec k kind (s.blocks.unitOf k)
      rw [hsel] at hlane
      refine ⟨by rw [hlane], by rw [hlane], sends_of_sent hsent, by rw [hlane]; rfl, ?_, by rw [hlane]⟩
      rw [hlane]
      exact if_neg (by rw [hidle]; nofun)

end Sys2Proof.Machine

/-!
An abort whose END never comes (R50, R123).
-/
namespace Sys2Proof.Machine

open Sys2Proof.Claims

/-- The lane whose abort has timed out, until its ending is taken (R123). -/
def Lane.unconfirmed (l : Lane) : Lane := { l with timer := none, abortPhase := .unconfirmed }

/-- The lane in L_FAULT after that ending, its served context absent (R123). -/
def Lane.abortFaulted (l : Lane) : Lane := { l.release with state := .fault, faultCause := some .abortTimeout }

/-- The ending of an unconfirmed abort but for the LANE_FAULT mark: the flag, the write-back, the context's end, and the
lane's fault. -/
def Blocks.endedUnconfirmed (b : Blocks) (n : LaneId) (k : Slot) (named : List Named) : Blocks :=
  (((b.modCtx k (·.unconfirmed)).modCtx k (·.writtenBack (b.lane n))).endContext k named).modLane n (·.abortFaulted)

/-- The abort's ending when its END has not come and no memory request is outstanding. -/
theorem Blocks.abortEnd_unconfirmed (b : Blocks) (n : LaneId) (k : Slot) (h : (b.lane n).served = some ⟨k, .connection⟩)
    (hp : (b.lane n).abortPhase = .unconfirmed) : ∃ named, b.abortEnd n =
      { b.endedUnconfirmed n k named with laneFault := (b.endedUnconfirmed n k named).laneFault.set n.val true n.isLt } := by
  refine ⟨(b.lane n).abortNames (b.ctx k).haltCause, ?_⟩
  have hflag : b.addServedFlag n CtxFlags.addAbortUnconfirmed = b.modCtx k (·.unconfirmed) :=
    Blocks.addServedFlag_eq b n k .connection CtxFlags.addAbortUnconfirmed h
  have hback : (b.modCtx k (·.unconfirmed)).writeBack n =
      (b.modCtx k (·.unconfirmed)).modCtx k (·.writtenBack (b.lane n)) :=
    Blocks.writeBack_eq (b.modCtx k (·.unconfirmed)) n k h
  simp only [Blocks.abortEnd, Lane.servedSlot_eq k _ _ h, hp, hflag, hback]
  rfl

/-- Expiry in L_ABORTING with no memory request outstanding takes the ending at once. -/
theorem Blocks.timedOut_aborting (b : Blocks) (n : LaneId) (hst : (b.lane n).state = .aborting)
    (hm : (b.lane n).memReq = none) : b.timedOut n = (b.modLane n (·.unconfirmed)).abortEnd n := by
  have htimed : b.timedOut n = (b.modLane n (·.unconfirmed)).pump n := by
    simp only [Blocks.timedOut, hst]
    rfl
  rw [htimed]
  simp [Blocks.pump, Lane.unconfirmed, hst, hm]

section
variable (b : Blocks) (n : LaneId) (k : Slot) (named : List Named)

theorem Blocks.local_endedUnconfirmed : Blocks.Local k b (b.endedUnconfirmed n k named) :=
  (((Blocks.local_modCtx (·.unconfirmed) fun _ => rfl).trans (Blocks.local_writtenBack _ k _)).trans
    (Blocks.local_endContext _ k named)).trans (Blocks.local_modLane _ k n _)

theorem Blocks.apart_endedUnconfirmed (hl : b.laneOf k = n) : Blocks.Apart n b (b.endedUnconfirmed n k named) := by
  have hloc := (Blocks.local_modCtx (b := b) (k := k) (·.unconfirmed) fun _ => rfl).trans
    (Blocks.local_writtenBack _ k (b.lane n))
  have hend := Blocks.apart_endContext _ n k named ((hloc.toReach.laneOf k).trans hl)
  exact hend.trans (Blocks.apart_modLane _ n _)

theorem Blocks.endedUnconfirmed_ctx (hf : (b.ctx k).state ≠ .free) : (b.endedUnconfirmed n k named).ctx k =
    ((b.ctx k).unconfirmed.writtenBack (b.lane n)).toReported k named := by
  have hctx : ((b.modCtx k (·.unconfirmed)).modCtx k (·.writtenBack (b.lane n))).ctx k =
      (b.ctx k).unconfirmed.writtenBack (b.lane n) := by
    rw [Blocks.modCtx_ctx_same, Blocks.modCtx_ctx_same]
  rw [Blocks.endedUnconfirmed, Blocks.modLane_ctx, Blocks.endContext_ctx_same, hctx]
  rw [hctx]
  exact hf

/-- The lane is faulted, its lists apart as it was before. -/
theorem Blocks.endedUnconfirmed_lane : ∃ readyQ haltList, (b.endedUnconfirmed n k named).lane n =
    { (b.lane n).abortFaulted with readyQ := readyQ, haltList := haltList } := by
  have hlane : (b.endedUnconfirmed n k named).lane n = Lane.abortFaulted _ := Blocks.modLane_lane_same _ n _
  rw [Blocks.endContext_lane_lists] at hlane
  exact ⟨_, _, hlane⟩

end

/-- Settles O28: the expiry takes the abort's ending, which reports the context and faults the lane. -/
theorem anUnconfirmedAbortFaultsTheLane : Obligations.AnUnconfirmedAbortFaultsTheLane := by
  intro s n k x hst hserved _ htm hx hmem hlane hfree
  have hl : (s.blocks.modLane n (·.unconfirmed)).lane n = (s.blocks.lane n).unconfirmed := s.blocks.modLane_lane_same n _
  have hloc0 : Blocks.Local k s.blocks (s.blocks.modLane n (·.unconfirmed)) := Blocks.local_modLane _ k n _
  have hap0 := s.blocks.apart_modLane n (·.unconfirmed)
  have hfree0 : ((s.blocks.modLane n (·.unconfirmed)).ctx k).state ≠ .free := hfree
  have htimed := s.blocks.timedOut_aborting n hst hmem
  generalize s.blocks.modLane n (·.unconfirmed) = b at hl hloc0 hap0 hfree0 htimed
  obtain ⟨named, hend⟩ := b.abortEnd_unconfirmed n k (by rw [hl]; exact hserved) (by rw [hl]; rfl)
  obtain ⟨t, hexec, hport, -, ht⟩ := exec_timedOut htm hx (htimed.trans hend)
  have hloc := hloc0.trans (b.local_endedUnconfirmed n k named)
  have hap := hap0.trans (b.apart_endedUnconfirmed n k named ((hloc0.toReach.laneOf k).trans hlane))
  obtain ⟨readyQ, haltList, hfault⟩ := b.endedUnconfirmed_lane n k named
  have hctx := b.endedUnconfirmed_ctx n k named hfree0
  generalize b.endedUnconfirmed n k named = c at hend ht hloc hap hfault hctx
  have htl : t.blocks.lane n = { (b.lane n).abortFaulted with readyQ := readyQ, haltList := haltList } := by
    rw [ht]
    exact hfault
  rw [hl] at htl
  have htk : t.blocks.ctx k = ((b.ctx k).unconfirmed.writtenBack (b.lane n)).toReported k named := by
    rw [ht]
    exact hctx
  refine ⟨t, hexec, hport, by rw [htk]; rfl, by rw [htk]; rfl, by rw [htl]; rfl, by rw [htl]; rfl, by rw [htl]; rfl, ?_,
    ?_, fun j hj => ?_, fun m hm => ?_⟩
  · rw [ht]
    exact vector_get_set_same _ n true
  · rw [outgoing, outgoing, htl]
    rfl
  · rw [ht]
    exact hloc.ctx_ne j hj
  · rw [ht]
    exact hap m hm

end Sys2Proof.Machine

/-!
The DOUT that brings the residual to 0 with DOUT still owed (R107, R108).
-/
namespace Sys2Proof.Machine

open Sys2Proof.Claims

/-- The first frame outgoing is on the wire when none waits for the receiver. -/
theorem Lane.Driven.first_on_wire {l : Lane} {f : PartFrame} {more : List PartFrame} (h : l.Driven)
    (hrx : l.rx.isAssembling = false) (hout : l.outgoing = f :: more) : l.tx.map (·.frame) = some f := by
  cases htx : l.tx with
  | none =>
    rw [Lane.outgoing, htx, h hrx htx] at hout
    cases hout
  | some x =>
    rw [Lane.outgoing, htx] at hout
    exact congrArg List.head? hout

/-- With DOUT still owed when the residual is 0, and neither NOTE nor LINK_DATA, STOP is sent (R107). -/
theorem Blocks.outFinished_stops (b : Blocks) (n : LaneId) (hnote : (b.lane n).dflags.note = false)
    (hlink : (b.lane n).dflags.linkData = false) (hnotice : (b.lane n).haltNotice = false)
    (howed : (b.lane n).doutOwed ≠ 0) : b.outFinished n = b.sendStop n := by
  simp [Blocks.outFinished, b.postNote_quiet n hnote, hlink, hnotice, howed]

/-- Settles O33: the bytes counted at the last stop bit leave a residual of 0 and DOUT owed, and STOP follows. -/
theorem aDoutAtResidualZeroWithDoutOwedIsFollowedByStop :
    Obligations.ADoutAtResidualZeroWithDoutOwedIsFollowedByStop := by
  intro s n k u bytes rate d htx hq hst hserved hd _ hlink hnote hnotice hres howed
  have hsent := s.blocks.frameSent_dout n u _ bytes rate htx hst
  rw [hres, Nat.sub_self, if_pos rfl] at hsent
  obtain ⟨tx, q, hlane, hout⟩ := s.blocks.doutDone_lane n bytes.length
  have honly := s.blocks.laneOnly_doutDone n bytes.length
  generalize s.blocks.doutDone n bytes.length = b at hsent hlane hout honly
  have hflags : (b.lane n).dflags = d.flags := by
    rw [hlane]
    simp [Lane.dflags, hd]
  have hunit : b.servedUnit n = s.blocks.unitOf k := by
    rw [b.servedUnit_eq n k .connection (by rw [hlane]; exact hserved)]
    exact (honly.toLocal k).toReach.unitOf k
  have hstop : s.blocks.frameSent n = b.sendStop n := by
    refine hsent.trans (b.outFinished_stops n ?_ ?_ ?_ ?_)
    · rw [hflags, hnote]
    · rw [hflags, hlink]
    · rw [hlane]; exact hnotice
    · rw [hlane]; exact Nat.sub_ne_zero_of_lt howed
  have hstopped := honly.trans (b.laneOnly_sendStop n)
  rw [← hstop] at hstopped
  obtain ⟨t, hexec, hport, helse, htl, hlanes, hctxs, -⟩ :=
    exec_laneOnly (i := .frameSent n) (f := fun b => b.frameSent n) rfl hstopped rfl
  have hwire := b.sent_sendStop n
  rw [hstop] at htl
  rw [← htl, hunit] at hwire
  have houtgoing : (t.blocks.lane n).outgoing = [.stop (s.blocks.unitOf k)] := by
    rw [hwire.outgoing, hout, hq, List.nil_append]
  obtain ⟨txS, qS, hsend⟩ : ∃ tx q, (b.sendStop n).lane n = { b.lane n with
      state := .ending, closing := none, doutOwed := 0, heldNeed := none, timer := none, tx := tx, txQueue := q } :=
    ⟨_, _, (b.sendStop_lane n).trans (Lane.send_spec _ _)⟩
  have hfields := htl.trans hsend
  have hrx : (t.blocks.lane n).rx = (s.blocks.lane n).rx := by rw [hfields, hlane]
  refine ⟨t, hexec, hport, helse, by rw [hfields], by rw [hfields], houtgoing, fun hasm => ?_, ?_, by rw [hfields], ?_, ?_,
    hctxs, hlanes⟩
  · exact (hwire.driven (Or.inl nofun)).first_on_wire (by rw [hrx]; exact hasm) houtgoing
  · rw [hfields, hlane]; exact hres ▸ Nat.sub_self _
  · rw [hfields, hlane]
  · rw [hfields, hlane]

end Sys2Proof.Machine

/-!
Frames of a connection: the ACPT by its status (R105), the WAIT of an OUT command (R18, R116), and the END that confirms an
abort (R122, R173).
-/
namespace Sys2Proof.Machine

open Sys2Proof.Claims

/-! ### The detach of a CONNECTED context -/

/-- The detach of a served context, in the words of the statements. -/
theorem detaches_of_arrived {s t : State} {n : LaneId} {k : Slot} {b : Blocks} {aw : Awaiting}
    (h : Blocks.Arrived n k s.blocks b) (hserved : (b.lane n).served = some ⟨k, .connection⟩) (hp : t.pending = s.pending)
    (ht : t.blocks = s.blocks.settled (b.detachContext n aw)) :
    elsewhere s t ∧ sendsFirst s t n (.desel (s.blocks.unitOf k)) ∧ otherCtxs s t k ∧ otherLanes s t n
      ∧ t.blocks.ctx k = ((b.ctx k).writtenBack (b.lane n)).detached aw := by
  have hloc := h.toLocal.trans (Blocks.local_detachContext aw hserved)
  obtain ⟨⟨more, hsent⟩, -, -⟩ := Blocks.detachContext_lane aw hserved
  refine ⟨elsewhere_of_local (k := k) (by rw [ht]; exact hloc.settled _) hp, sendsFirst_of_sent ⟨more, ?_⟩, ?_, ?_, ?_⟩
  · rw [ht, Blocks.settled_lane, ← h.toLocal.toReach.unitOf k]
    exact h.sent.trans hsent
  · rw [otherCtxs, ht]
    exact (hloc.settled _).ctx_ne
  · rw [otherLanes, ht]
    exact (h.apart.trans (Blocks.apart_detachContext aw hserved)).settled _
  · rw [ht, Blocks.settled_ctx, Blocks.detachContext_ctx aw hserved]

/-- A CONNECTED context detaches; its timer is that of its binding (R18, R21). -/
theorem Context.detached_connected (c : Context) (aw : Awaiting) (h : c.state = .connected) : ∃ timer,
    c.detached aw = { c with state := .detached, awaiting := some aw, timer := timer } :=
  ⟨_, if_pos h⟩

/-- The detach timer starts at the limit of the binding, where that is above 0 (R21). -/
theorem Context.detached_bound (c : Context) (aw : Awaiting) (x : Binding) (h : c.state = .connected)
    (hx : c.binding = some x) : c.detached aw =
      { c with
        state := .detached, awaiting := some aw
        timer := if x.detachLimit = 0 then none else some ⟨x.detachLimit, 0⟩ } := by
  simp [Context.detached, h, hx]

/-! ### ACPT -/

/-- The lane as a clean ACPT of an OUT command leaves it, before it asks for its first staging read (R105). -/
def Lane.accepted (l : Lane) : Lane := { l with state := .transfer, timer := some ⟨0, l.limit⟩ }

section
variable (b : Blocks) (n : LaneId) (status : Byte)

theorem Blocks.acptTaken_check (h : statusCheck status = true) :
    b.acptTaken n status = (b.sendDesel n).endServed n (statusClasses status) := by
  simp [Blocks.acptTaken, h]

theorem Blocks.acptTaken_busy (hcheck : statusCheck status = false) (hexc : statusException status = false)
    (hbusy : statusBusy status = true) : b.acptTaken n status = b.detachContext n .free := by
  simp [Blocks.acptTaken, hcheck, hexc, hbusy]

theorem Blocks.acptTaken_clean (hcheck : statusCheck status = false) (hexc : statusException status = false)
    (hbusy : statusBusy status = false) (hnotice : (b.lane n).haltNotice = false) :
    b.acptTaken n status = b.beginTransfer n := by
  simp [Blocks.acptTaken, hcheck, hexc, hbusy, hnotice]

theorem Blocks.beginTransfer_outbound (hdir : (b.lane n).dir = .outbound) :
    b.beginTransfer n = (b.modLane n (·.accepted)).pump n := by
  have hout : ¬Lane.dir { b.lane n with state := .transfer, timer := none } = .inbound := by
    intro hin
    exact absurd (hdir.symm.trans hin) nofun
  exact congrArg (fun l => (b.setLane n l).pump n) (if_neg hout)

/-- With nothing staged and no request outstanding an OUT command has only its first staging read to ask for (R106). -/
theorem Blocks.pump_asks_first (d : Descriptor) (hst : (b.lane n).state = .transfer) (hd : (b.lane n).desc = some d)
    (hdir : d.dir = .outbound) (hm : (b.lane n).memReq = none) (hstg : (b.lane n).staging = .empty)
    (haddr : (b.lane n).stagingAddr = d.addr) (hcount : 0 < d.count) :
    b.pump n = b.askRead n ∧ (b.askRead n).lane n = { b.lane n with
      stagingAddr := d.addr + min 64 d.count, staging := { Staging.empty with fill := Staging.empty.fill.other }
      memReq := some ⟨false, .h0, min 64 d.count, false⟩ } := by
  have hend : (b.lane n).areaEnd = d.addr + d.count := by simp [Lane.areaEnd, hd]
  have hlen : d.addr + d.count - d.addr = d.count := Nat.add_sub_cancel_left _ _
  constructor
  · rw [b.pump_outbound n hst (by rw [Lane.dir, hd]; exact hdir),
      Blocks.sendDout_unstaged b n (by rw [hstg, Staging.get_empty])]
  · rw [Blocks.askRead_asks b n hm (by rw [hstg, Staging.get_empty]) (by rw [hend, haddr]; omega), hend, haddr, hstg, hlen]
    rfl

end

section
variable {s : State} {n : LaneId} {k : Slot} {status : Byte} (hrx : receiving s n)
  (hst : (s.blocks.lane n).state = .commanding) (hserved : serving s n k) (hconn : (s.blocks.ctx k).state = .connected)
  (hnotice : (s.blocks.lane n).haltNotice = false) (hv : status &&& 0xE0 = 0)
include hrx hst hserved hv

/-- The ACPT leads to what `Blocks.acptTaken` makes of the blocks `b` that hold its status. -/
theorem exec_acpt : ∃ b tx q, Blocks.Arrived n k s.blocks b
    ∧ b.lane n = { s.blocks.lane n with rx := .listening, tx := tx, txQueue := q }
    ∧ b.ctx k = recorded (s.blocks.ctx k) status
    ∧ ∀ c, b.acptTaken n status = c → ∃ t, exec (.frameAcpt n (s.blocks.unitOf k) status) s = .next t ∧ t.port = s.port
        ∧ t.pending = s.pending ∧ t.blocks = s.blocks.settled c := by
  obtain ⟨tx, q, hl⟩ := s.blocks.heard_lane_spec n
  have hframe := (s.blocks.heard n).acptFrame_commanding n k status (by rw [hl]; exact hst) (by rw [hl]; exact hserved)
  refine ⟨(s.blocks.heard n).modCtx k (·.takeStatus status), tx, q,
    (s.blocks.arrived_heard n k).trans (Blocks.arrived_takeStatus n k _ status), ?_, Blocks.modCtx_ctx_same _ _ _,
    fun c hc => ?_⟩
  · rw [Blocks.modCtx_lane, hl]
  · exact exec_frame (f := fun b => b.acptFrame n (s.blocks.unitOf k) status) hrx (by rw [← statusValid_of hv]; rfl)
      (hframe.trans hc)

include hconn

theorem acpt_busy (hcheck : status.getLsbD 0 = false) (hexc : status.getLsbD 1 = false)
    (hbusy : status.getLsbD 2 = true) :
    ∃ t, exec (.frameAcpt n (s.blocks.unitOf k) status) s = .next t ∧ t.port = s.port ∧ elsewhere s t
      ∧ sendsFirst s t n (.desel (s.blocks.unitOf k)) ∧ (t.blocks.ctx k).state = .detached
      ∧ (t.blocks.ctx k).awaiting = some .free ∧ (t.blocks.ctx k).lastStatus = some status
      ∧ otherCtxs s t k ∧ otherLanes s t n := by
  obtain ⟨b, tx, q, harr, hl, hctx, hexec⟩ := exec_acpt hrx hst hserved hv
  obtain ⟨t, hexec, hport, hp, ht⟩ := hexec _ (b.acptTaken_busy n status hcheck hexc hbusy)
  obtain ⟨helse, hsend, hother, hlanes, htk⟩ := detaches_of_arrived harr (by rw [hl]; exact hserved) hp ht
  rw [hctx] at htk
  obtain ⟨timer, hdet⟩ :=
    Context.detached_connected ((recorded (s.blocks.ctx k) status).writtenBack (b.lane n)) .free hconn
  rw [hdet] at htk
  exact ⟨t, hexec, hport, helse, hsend, by rw [htk], by rw [htk], by rw [htk]; rfl, hother, hlanes⟩

theorem acpt_check (hcheck : status.getLsbD 0 = true) :
    ∃ t, exec (.frameAcpt n (s.blocks.unitOf k) status) s = .next t ∧ t.port = s.port ∧ elsewhere s t
      ∧ sendsFirst s t n (.desel (s.blocks.unitOf k)) ∧ reportedAs t k .unitCheck
      ∧ (t.blocks.ctx k).lastStatus = some status ∧ otherCtxs s t k := by
  obtain ⟨b, tx, q, harr, hl, hctx, hexec⟩ := exec_acpt hrx hst hserved hv
  obtain ⟨t, hexec, hport, hp, ht⟩ := hexec _ (b.acptTaken_check n status hcheck)
  have hfree : (b.ctx k).state ≠ .free := by
    rw [hctx]
    exact fun hf => absurd (hconn.symm.trans hf) nofun
  obtain ⟨helse, hsend, hother, l, -, htk⟩ := ended_of_arrived harr (by rw [hl]; exact hserved) hfree hp ht
  have hclass := (chooseClass_statusClasses (Or.inl hcheck)).trans (if_pos hcheck)
  exact ⟨t, hexec, hport, helse, hsend, reportedAs_of htk hclass, by rw [htk, hctx]; rfl, hother⟩

include hnotice

theorem acpt_clean_outbound (hcheck : status.getLsbD 0 = false) (hexc : status.getLsbD 1 = false)
    (hbusy : status.getLsbD 2 = false) (d : Descriptor) (hd : (s.blocks.lane n).desc = some d) (hdir : d.dir = .outbound)
    (hm : (s.blocks.lane n).memReq = none) (hstg : (s.blocks.lane n).staging = .empty)
    (haddr : (s.blocks.lane n).stagingAddr = d.addr) (hcount : 0 < d.count) :
    ∃ t, exec (.frameAcpt n (s.blocks.unitOf k) status) s = .next t ∧ t.port = s.port ∧ elsewhere s t
      ∧ (t.blocks.lane n).state = .transfer ∧ (t.blocks.lane n).timer = some ⟨0, (s.blocks.lane n).limit⟩
      ∧ (t.blocks.lane n).memReq = some ⟨false, .h0, min 64 d.count, false⟩
      ∧ (t.blocks.lane n).stagingAddr = d.addr + min 64 d.count
      ∧ outgoing t n = outgoing s n ∧ (t.blocks.ctx k).state = .connected ∧ otherCtxs s t k ∧ otherLanes s t n := by
  obtain ⟨b, tx, q, harr, hl, hctx, hexec⟩ := exec_acpt hrx hst hserved hv
  have hbegin := (b.acptTaken_clean n status hcheck hexc hbusy (by rw [hl]; exact hnotice)).trans
    (b.beginTransfer_outbound n (by rw [hl, Lane.dir, hd]; exact hdir))
  have hacc := b.modLane_lane_same n (·.accepted)
  have harr' := harr.trans (Blocks.arrived_modLane n k b (·.accepted) rfl rfl rfl)
  have hctx' : (b.modLane n (·.accepted)).ctx k = recorded (s.blocks.ctx k) status := hctx
  generalize b.modLane n (·.accepted) = c at hbegin hacc harr' hctx'
  rw [hl] at hacc
  obtain ⟨hpump, hasked⟩ := c.pump_asks_first n d (by rw [hacc]; rfl) (by rw [hacc]; exact hd) hdir (by rw [hacc]; exact hm)
    (by rw [hacc]; exact hstg) (by rw [hacc]; exact haddr) hcount
  obtain ⟨t, hexec, hport, hp, ht⟩ := hexec _ (hbegin.trans hpump)
  have hmem := c.memOnly_askRead n
  have hall := harr'.trans (hmem.arrived k)
  have htl : t.blocks.lane n = (c.askRead n).lane n := by rw [ht, Blocks.settled_lane]
  have hout := hall.sent.outgoing
  rw [← htl, List.append_nil] at hout
  rw [hasked, hacc] at htl
  have htk : t.blocks.ctx k = recorded (s.blocks.ctx k) status := by
    rw [ht, Blocks.settled_ctx, Blocks.ctx, hmem.ctxs]
    exact hctx'
  refine ⟨t, hexec, hport, elsewhere_of_local (k := k) (by rw [ht]; exact hall.toLocal.settled _) hp, by rw [htl]; rfl,
    by rw [htl]; rfl, by rw [htl], by rw [htl], hout, by rw [htk]; exact hconn, ?_, ?_⟩
  · rw [otherCtxs, ht]
    exact (hall.toLocal.settled _).ctx_ne
  · rw [otherLanes, ht]
    exact hall.apart.settled _

end

/-- Settles O36: `acpt_busy`, `acpt_check` and `acpt_clean_outbound` for the three outcomes. -/
theorem acceptanceOutcomes : Obligations.AcceptanceOutcomes :=
  fun _ _ _ _ hrx hst hserved hconn hnotice hv =>
    ⟨acpt_busy hrx hst hserved hconn hv, acpt_check hrx hst hserved hconn hv,
      fun hcheck hexc hbusy d hd hdir hm hstg haddr hcount _ =>
        acpt_clean_outbound hrx hst hserved hconn hnotice hv hcheck hexc hbusy d hd hdir hm hstg haddr hcount⟩

/-! ### WAIT -/

/-- Settles O39: the WAIT closes with a detach, which with no memory work outstanding is taken at once. -/
theorem aWaitDetachesTheContext : Obligations.AWaitDetachesTheContext := by
  intro s n k d x hrx hst hserved hd hdir hconn hbind hm
  obtain ⟨tx, q, hlane⟩ := s.blocks.heard_lane_spec n
  have hunit := Blocks.inConnection_served (s.blocks.heard n) n (s.blocks.unitOf k) (fun b => b.waitTaken n)
    (by rw [hlane]; exact Or.inr (Or.inl hst))
    (Blocks.servedUnit_eq (s.blocks.heard n) n k .connection (by rw [hlane]; exact hserved)).symm
  have hwait := (s.blocks.heard n).waitTaken_outbound n (by rw [hlane]; exact hst)
    (by rw [hlane, Lane.dir, hd]; exact hdir) (by rw [hlane]; exact hm)
  obtain ⟨t, hexec, hport, hp, ht⟩ := exec_frame (i := .frameWait n (s.blocks.unitOf k))
    (f := fun b => b.inConnection n (s.blocks.unitOf k) fun b => b.waitTaken n) hrx rfl (hunit.trans hwait)
  have harr := (s.blocks.arrived_heard n k).trans
    (Blocks.arrived_modLane n k (s.blocks.heard n) (·.closingWith .detach) rfl rfl rfl)
  have hl := (s.blocks.heard n).modLane_lane_same n (·.closingWith .detach)
  have hctx : ((s.blocks.heard n).modLane n (·.closingWith .detach)).ctx k = s.blocks.ctx k := rfl
  rw [hlane] at hl
  generalize (s.blocks.heard n).modLane n (·.closingWith .detach) = b at ht harr hl hctx
  obtain ⟨helse, hsend, hother, hlanes, htk⟩ := detaches_of_arrived harr (by rw [hl]; exact hserved) hp ht
  refine ⟨t, hexec, hport, helse, hsend, ?_, hother, hlanes⟩
  rw [htk, hctx, Context.detached_bound ((s.blocks.ctx k).writtenBack (b.lane n)) .resume x hconn hbind, hl]
  simp only [Context.writtenBack, Lane.closingWith, hd]

/-! ### The END of an abort -/

/-- The lane whose abort an END has confirmed (R122). -/
def Lane.abortConfirmed (l : Lane) : Lane := { l with abortPhase := .confirmed, timer := none }

/-- The confirmed abort ends with the classes of its causes once no memory request is outstanding (R122). -/
theorem Blocks.pump_confirmed (b : Blocks) (n : LaneId) (k : Slot) (hst : (b.lane n).state = .aborting)
    (hp : (b.lane n).abortPhase = .confirmed) (hm : (b.lane n).memReq = none)
    (hserved : (b.lane n).served = some ⟨k, .connection⟩) :
    b.pump n = b.endServed n ((b.lane n).abortNames (b.ctx k).haltCause) := by
  simp [Blocks.pump, hst, hm, Blocks.abortEnd, hp, Lane.servedSlot_eq k _ _ hserved]

/-- An END of the served unit while the abort awaits it. -/
theorem Blocks.endFrame_confirms (b : Blocks) (n : LaneId) (k : Slot) (status : Byte)
    (hst : (b.lane n).state = .aborting) (hserved : (b.lane n).served = some ⟨k, .connection⟩)
    (hp : (b.lane n).abortPhase = .awaiting) : b.endFrame n (b.unitOf k) status =
      (((b.modCtx k (·.takeStatus status)).modLane n (·.abortConfirmed)).sendDesel n).pump n := by
  have hunit : b.unitOf k = b.servedUnit n := (b.servedUnit_eq n k .connection hserved).symm
  rw [Blocks.endFrame, if_pos hst, if_pos ⟨hunit, hp⟩, Blocks.endConfirms, b.takeStatus_eq n k .connection status hserved]
  rfl

/-- An abort for a link error names that class alone. -/
theorem Lane.abortNames_linkError (l : Lane) (cause : Option HaltCause) (hc : l.abortCause = some .linkError)
    (hf : l.abortFault = none) : l.abortNames cause = [plain .linkError] := by
  simp [Lane.abortNames, hc, hf, AbortCause.named]

/-- Settles O41: the END is recorded, and the confirmed abort ends the context with its one class. -/
theorem anEndConfirmsTheAbort : Obligations.AnEndConfirmsTheAbort := by
  intro s n k status hrx hst hserved hphase hcause hfault hm hfree hv
  obtain ⟨tx, q, hlane⟩ := s.blocks.heard_lane_spec n
  have hframe := (s.blocks.heard n).endFrame_confirms n k status (by rw [hlane]; exact hst) (by rw [hlane]; exact hserved)
    (by rw [hlane]; exact hphase)
  have harr := ((s.blocks.arrived_heard n k).trans (Blocks.arrived_takeStatus n k _ status)).trans
    (Blocks.arrived_modLane n k _ (·.abortConfirmed) rfl rfl rfl)
  have hl := ((s.blocks.heard n).modCtx k (·.takeStatus status)).modLane_lane_same n (·.abortConfirmed)
  have hctx : (((s.blocks.heard n).modCtx k (·.takeStatus status)).modLane n (·.abortConfirmed)).ctx k =
      (s.blocks.ctx k).takeStatus status :=
    (Blocks.modLane_ctx _ n _ k).trans (Blocks.modCtx_ctx_same _ k _)
  rw [Blocks.modCtx_lane, hlane] at hl
  generalize ((s.blocks.heard n).modCtx k (·.takeStatus status)).modLane n (·.abortConfirmed) = b at hframe harr hl hctx
  have hservedB : (b.lane n).served = some ⟨k, .connection⟩ := by rw [hl]; exact hserved
  have hdesel : (b.sendDesel n).lane n = (b.lane n).send (.desel (b.unitOf k)) := by
    rw [Blocks.sendDesel_eq hservedB, Blocks.send_lane_same]
  have hpump := (b.sendDesel n).pump_confirmed n k (by rw [hdesel, Lane.send_state, hl]; exact hst)
    (by rw [hdesel, Lane.send_abortPhase, hl]; rfl) (by rw [hdesel, Lane.send_memReq, hl]; exact hm)
    (Blocks.sendDesel_served hservedB)
  rw [Lane.abortNames_linkError _ _ (by rw [hdesel, Lane.send_abortCause, hl]; exact hcause)
    (by rw [hdesel, Lane.send_abortFault, hl]; exact hfault)] at hpump
  obtain ⟨t, hexec, hport, hp, ht⟩ := exec_frame (i := .frameEnd n (s.blocks.unitOf k) status)
    (f := fun b => b.endFrame n (s.blocks.unitOf k) status) hrx (by rw [← statusValid_of hv]; rfl) (hframe.trans hpump)
  obtain ⟨helse, hsend, hother, l, -, htk⟩ := ended_of_arrived harr hservedB (by rw [hctx]; exact hfree) hp ht
  exact ⟨t, hexec, hport, helse, hsend, reportedAs_of htk rfl, by rw [htk, hctx]; rfl, hother⟩

end Sys2Proof.Machine

/-!
The bursts of a data transaction: followed by the next, counted as written, or ended in ABORT (R111, R113, R121, R143).
-/
namespace Sys2Proof.Machine

open Sys2Proof.Claims

/-! ### The event -/

theorem Txn.answeredBy_of_answers {x : Txn} {resps : List BusResp} {bytes : List Byte} (h : answers x resps bytes) :
    x.answeredBy resps bytes = true := by
  unfold answers at h
  cases hkind : x.req.kind <;> simp_all [Txn.answeredBy, Txn.isWrite]

/-- A response that asks for no permit: `c` are the blocks it leads to. -/
theorem exec_burst {s : State} {resps : List BusResp} {bytes : List Byte} {c : Blocks}
    (hc : s.blocks.burstDone resps bytes = c) (hw : c.window.asked = true → s.blocks.window.asked = true) :
    ∃ t, exec (.memoryBurstResponse resps bytes) s = .next t ∧ t.port = s.port ∧ t.pending = s.pending
      ∧ t.blocks = s.blocks.settled c := by
  refine ⟨s.onBlocks fun b => b.burstDone resps bytes, ?_, rfl, rfl, by rw [State.onBlocks_blocks, hc]⟩
  rw [← s.onBlocksAsking_of_unasked _ (by rw [hc]; exact hw)]
  rfl

section
variable {b : Blocks} {n : LaneId} {x : Txn} {m : LaneMem} {resps : List BusResp} {bytes : List Byte}
  (hx : b.mem.inflight = some x) (ha : x.answeredBy resps bytes = true)
include hx ha

/-- An error completes the transaction whatever is left to issue (R143). -/
theorem Blocks.burstDone_completes (hbad : burstErrs resps) :
    b.burstDone resps bytes = b.completeTxn (x.took resps bytes) := by
  have hmark : (x.took resps bytes).error = true := by simp [Txn.took, isError_any_of_errs hbad]
  simp only [Blocks.burstDone, hx, ha, if_true, hmark, Bool.true_or]
  split <;> rfl

variable (herr : x.error = false) (hdis : x.discard = false)
include herr hdis

/-- A burst that succeeds is followed by the next (R143). -/
theorem Blocks.burstDone_next {next : Burst} {rest : List Burst} (hok : burstSucceeds resps)
    (hissue : x.toIssue = next :: rest) :
    b.burstDone resps bytes = { b with
      mem := { b.mem with
        inflight := some { x with burst := next, toIssue := rest, buffer := x.buffer ++ bytes } } } := by
  simp [Blocks.burstDone, hx, ha, Txn.took, hissue, herr, hdis, isError_any_of_succeeds hok]

variable (hwho : x.requester = .lane n) (hm : (b.lane n).memReq = some m) (hst : (b.lane n).state = .transfer)
include hwho hm hst

/-- The failed request of a lane in L_TRANSFER, complete, brings the ABORT of its data fault (R121). -/
theorem Blocks.burstDone_faults (hbad : burstErrs resps) : b.burstDone resps bytes =
    (b.readDropped n).enterAborting n (.dataFault (if m.write then .writeError else .readError)) := by
  have hstate : ((b.readDropped n).lane n).state = .transfer := by
    rw [Blocks.readDropped_lane]
    exact hst
  have hfault : b.burstDone resps bytes =
      (b.readDropped n).dataFault n (if m.write then .writeError else .readError) := by
    rw [Blocks.burstDone_completes hx ha hbad]
    simp only [Blocks.completeTxn, Txn.took, hwho, hdis, herr, isError_any_of_errs hbad, Bool.false_or, Bool.false_eq_true,
      if_false, if_true, Blocks.laneMemDone, Blocks.portNext_lane, hm]
    rfl
  rw [hfault, Blocks.dataFault, hstate]

end

/-! ### The ABORT of a lane without a memory request -/

/-- The blocks at which the lane has given up its claims on the start window and the fetcher, whatever it serves (R120). -/
def Blocks.claimsGiven (b : Blocks) (n : LaneId) : Blocks :=
  match (b.lane n).servedSlot with
  | some k => (b.leavePermit n).withdrawFetch k
  | none => b.leavePermit n

section
variable (b : Blocks) (n : LaneId)

theorem Blocks.claimsGiven_cases : (∃ k, b.claimsGiven n = (b.leavePermit n).withdrawFetch k)
    ∨ b.claimsGiven n = b.leavePermit n := by
  unfold Blocks.claimsGiven
  split
  · exact Or.inl ⟨_, rfl⟩
  · exact Or.inr rfl

theorem Blocks.claimsGiven_lane : (b.claimsGiven n).lane n = b.lane n := by
  rcases b.claimsGiven_cases n with ⟨k, h⟩ | h <;> simp [h]

theorem Blocks.claimsGiven_window : (b.claimsGiven n).window = (b.leavePermit n).window := by
  rcases b.claimsGiven_cases n with ⟨k, h⟩ | h <;> simp [h]

theorem Blocks.claimsGiven_unitOf (k : Slot) : (b.claimsGiven n).unitOf k = b.unitOf k := by
  rcases b.claimsGiven_cases n with ⟨j, h⟩ | h
  · rw [h, Blocks.withdrawFetch_unitOf]
    rfl
  · rw [h]
    rfl

/-- The unit address of a lane depends on what it serves and on the bindings alone. -/
theorem Blocks.servedUnit_of_same {b c : Blocks} {n : LaneId} (hs : (c.lane n).served = (b.lane n).served)
    (hu : ∀ k, c.unitOf k = b.unitOf k) : c.servedUnit n = b.servedUnit n := by
  simp only [Blocks.servedUnit, hs, hu]

/-- With no memory request only the claims are given up before the ABORT. -/
theorem Blocks.enterAborting_without_request (cause : AbortCause) (hm : (b.lane n).memReq = none) :
    b.enterAborting n cause =
      ((b.claimsGiven n).modLane n (·.aborted cause)).send n (.abort (b.servedUnit n)) := by
  have hl := b.claimsGiven_lane n
  have hm' : ((b.claimsGiven n).lane n).memReq = none := by rw [hl, hm]
  have hdrops : (if cause.dropsWrite = true then ((b.claimsGiven n).dropRead n).dropWrite n
      else (b.claimsGiven n).dropRead n) = b.claimsGiven n := by
    rw [Blocks.dropRead_none _ n hm', Blocks.dropWrite_none _ n hm', ite_self]
  have hunit : ((b.claimsGiven n).modLane n (·.aborted cause)).servedUnit n = b.servedUnit n := by
    refine Blocks.servedUnit_of_same ?_ fun k => (Blocks.modLane_unitOf _ n _ k).trans (b.claimsGiven_unitOf n k)
    obtain ⟨st, ha⟩ := Lane.aborted_spec (b.lane n) cause
    rw [Blocks.modLane_lane_same, hl, ha]
  rw [← hunit]
  exact congrArg (fun c : Blocks => (c.modLane n (·.aborted cause)).send n
    (.abort ((c.modLane n (·.aborted cause)).servedUnit n))) hdrops

/-- The lane after that ABORT: nothing staged is kept. -/
theorem Blocks.aborted_without_request (cause : AbortCause) (hm : (b.lane n).memReq = none) :
    Lane.Sent (b.lane n) ((b.enterAborting n cause).lane n) [.abort (b.servedUnit n)]
      ∧ ((b.enterAborting n cause).lane n).state = .aborting
      ∧ ((b.enterAborting n cause).lane n).abortCause = some cause
      ∧ ((b.enterAborting n cause).lane n).staging = .empty
      ∧ ((b.enterAborting n cause).lane n).memReq = none := by
  have hlane : (b.enterAborting n cause).lane n = ((b.lane n).aborted cause).send (.abort (b.servedUnit n)) := by
    rw [b.enterAborting_without_request n cause hm, Blocks.send_lane_same, Blocks.modLane_lane_same, b.claimsGiven_lane]
  obtain ⟨st, ha⟩ := (b.lane n).aborted_spec cause
  have hstaging := (b.lane n).aborted_staging_empty cause (by simp [hm])
  rw [ha] at hstaging hlane
  rw [hlane]
  refine ⟨Lane.Sent.send ?_ _, ?_, ?_, ?_, ?_⟩
  · exact .of_wire rfl rfl rfl
  · rw [Lane.send_state]
  · rw [Lane.send_abortCause]
  · rw [Lane.send_staging]; exact hstaging
  · rw [Lane.send_memReq]; exact hm

end

/-! ### A staging read -/

section
variable {s : State} {x : Txn} {resps : List BusResp} {bytes : List Byte} (hx : s.blocks.mem.inflight = some x)
  (ha : x.answeredBy resps bytes = true) (herr : x.error = false) (hdis : x.discard = false)
include hx ha herr hdis

theorem burst_followed {next : Burst} {rest : List Burst} (hissue : x.toIssue = next :: rest)
    (hok : burstSucceeds resps) :
    ∃ t, exec (.memoryBurstResponse resps bytes) s = .next t ∧ t.port = s.port ∧ elsewhere s t
      ∧ t.blocks.mem = { s.blocks.mem with
          inflight := some { x with burst := next, toIssue := rest, buffer := x.buffer ++ bytes } }
      ∧ t.blocks.lanes = s.blocks.lanes ∧ t.blocks.ctxs = s.blocks.ctxs := by
  obtain ⟨t, hexec, hport, hp, ht⟩ := exec_burst (s.blocks.burstDone_next hx ha herr hdis hok hissue) id
  refine ⟨t, hexec, hport, ⟨?_, ?_, ?_, ?_, hp⟩, ?_, ?_, ?_⟩
  all_goals rw [ht]; rfl

/-- The ABORT of a data fault, the transaction's last request complete. -/
theorem burst_faults {n : LaneId} {m : LaneMem} (hwho : x.requester = .lane n)
    (hm : (s.blocks.lane n).memReq = some m) (hst : (s.blocks.lane n).state = .transfer) (hbad : burstErrs resps) :
    ∃ t, exec (.memoryBurstResponse resps bytes) s = .next t ∧ t.port = s.port
      ∧ t.blocks = s.blocks.settled
          ((s.blocks.readDropped n).enterAborting n (.dataFault (if m.write then .writeError else .readError))) := by
  have hdone := Blocks.burstDone_faults hx ha herr hdis hwho hm hst hbad
  have hm0 : ((s.blocks.readDropped n).lane n).memReq = none := by rw [Blocks.readDropped_lane]
  have hwin : (s.blocks.readDropped n).window = s.blocks.window := (s.blocks.arrived_readDropped n 0).toLocal.window
  obtain ⟨t, hexec, hport, -, ht⟩ := exec_burst hdone (by
    rw [Blocks.enterAborting_without_request _ n _ hm0, Blocks.send_window, Blocks.modLane_window,
      Blocks.claimsGiven_window]
    exact fun hask => hwin ▸ Blocks.leavePermit_asked _ n hask)
  exact ⟨t, hexec, hport, ht⟩

theorem read_faults {n : LaneId} {m : LaneMem} (hwho : x.requester = .lane n)
    (hm : (s.blocks.lane n).memReq = some m) (hw : m.write = false) (hst : (s.blocks.lane n).state = .transfer)
    (hbad : burstErrs resps) :
    ∃ t, exec (.memoryBurstResponse resps bytes) s = .next t ∧ (t.blocks.lane n).state = .aborting
      ∧ (t.blocks.lane n).abortCause = some (.dataFault .readError) ∧ (t.blocks.lane n).staging = .empty
      ∧ sends s t n (.abort (s.blocks.servedUnit n)) ∧ (t.blocks.lane n).memReq = none := by
  obtain ⟨t, hexec, -, ht⟩ := burst_faults hx ha herr hdis hwho hm hst hbad
  have harr := s.blocks.arrived_readDropped n 0
  have hl := s.blocks.readDropped_lane n
  rw [hw, if_neg nofun] at ht
  generalize s.blocks.readDropped n = b at ht harr hl
  obtain ⟨hsent, hstate, hcause, hstaging, hmem⟩ := b.aborted_without_request n (.dataFault .readError) (by rw [hl])
  have htl : t.blocks.lane n = (b.enterAborting n (.dataFault .readError)).lane n := by rw [ht, Blocks.settled_lane]
  rw [Blocks.servedUnit_of_same (b := s.blocks) (by rw [hl]) harr.toLocal.toReach.unitOf, ← htl] at hsent
  rw [← htl] at hstate hcause hstaging hmem
  exact ⟨t, hexec, hstate, hcause, hstaging, sends_of_sent (harr.sent.trans hsent), hmem⟩

end

/-! ### A staging write that succeeds -/

section
variable (st : Staging) (h : Half)

theorem Staging.emptied_eq : ∃ drain, st.emptied h = { st.put h [] with drain := drain } := by
  unfold Staging.emptied
  dsimp only
  split
  · exact ⟨_, rfl⟩
  · exact ⟨_, rfl⟩

theorem Staging.emptied_get_same : (st.emptied h).get h = [] := by
  obtain ⟨drain, he⟩ := st.emptied_eq h
  rw [he]
  cases h <;> rfl

theorem Staging.emptied_get_other : (st.emptied h).get h.other = st.get h.other := by
  obtain ⟨drain, he⟩ := st.emptied_eq h
  rw [he]
  cases h <;> rfl

/-- The half emptied next is the other when it holds bytes (R111). -/
theorem Staging.emptied_drain (ho : st.get h.other ≠ []) : (st.emptied h).drain = h.other := by
  have hput : (st.put h []).get h.other = st.get h.other := by cases h <;> rfl
  rw [Staging.emptied]
  simp [hput, ho]

/-- With the other half empty nothing is staged. -/
theorem Staging.emptied_get_empty (ho : st.get h.other = []) (half : Half) : (st.emptied h).get half = [] := by
  have hhalf : half = h ∨ half = h.other := by cases half <;> cases h <;> simp [Half.other]
  rcases hhalf with rfl | rfl
  · exact st.emptied_get_same _
  · rw [st.emptied_get_other, ho]

end

/-- The lane once the write `m` has counted (R111). -/
def Lane.written (l : Lane) (m : LaneMem) : Lane :=
  { l with
    memReq := none, staging := l.staging.emptied m.half, residual := l.residual - m.len, dataAddr := l.dataAddr + m.len }

/-- The blocks at which the write `m` has counted. -/
def Blocks.writeCounted (b : Blocks) (n : LaneId) (m : LaneMem) : Blocks := b.portNext.modLane n (·.written m)

section
variable (b : Blocks) (n : LaneId) (m : LaneMem)

theorem Blocks.writeCounted_lane : (b.writeCounted n m).lane n = (b.lane n).written m := by
  rw [Blocks.writeCounted, Blocks.modLane_lane_same, Blocks.portNext_lane]

theorem Blocks.writeCounted_ctxs : (b.writeCounted n m).ctxs = b.ctxs := by simp [Blocks.writeCounted]

theorem Blocks.arrived_writeCounted (k : Slot) : Blocks.Arrived n k b (b.writeCounted n m) :=
  Blocks.Arrived.trans (b := b.portNext)
    ⟨b.local_portNext k, .of_lanes n fun j => b.portNext_lane j, .of_eq (b.portNext_lane n)⟩
    (Blocks.arrived_modLane n k b.portNext (·.written m) rfl rfl rfl)

/-- The last burst of a write that succeeds (R111). -/
theorem Blocks.burstDone_writes {x : Txn} {resps : List BusResp} {bytes : List Byte} (hx : b.mem.inflight = some x)
    (ha : x.answeredBy resps bytes = true) (hlast : x.toIssue = []) (herr : x.error = false) (hdis : x.discard = false)
    (hwho : x.requester = .lane n) (hm : (b.lane n).memReq = some m) (hw : m.write = true) (hok : burstSucceeds resps) :
    b.burstDone resps bytes = b.portNext.writeDone n m := by
  rw [b.burstDone_last x resps bytes hx ha hlast]
  simp only [Blocks.completeTxn, Txn.took, hwho, hdis, herr, isError_any_of_succeeds hok, Bool.false_or, Bool.false_eq_true,
    if_false, Blocks.laneMemDone, Blocks.portNext_lane, hm, hw, if_true]

theorem Blocks.writeDone_counted : b.portNext.writeDone n m =
    if ((b.writeCounted n m).lane n).state = .transfer ∧ ((b.writeCounted n m).lane n).residual = 0
        ∧ ((b.writeCounted n m).lane n).dflags.linkData then
      (if ((b.writeCounted n m).lane n).residual = 0 ∧ ((b.writeCounted n m).lane n).state ≠ .aborting then
        (b.writeCounted n m).postNote n else b.writeCounted n m).enterLinkFetch n
    else
      (if ((b.writeCounted n m).lane n).residual = 0 ∧ ((b.writeCounted n m).lane n).state ≠ .aborting then
        (b.writeCounted n m).postNote n else b.writeCounted n m).pump n := rfl

/-- No note is posted without NOTE or before the last byte has been written. -/
theorem Blocks.writeCounted_unnoted
    (hnote : (b.lane n).dflags.note = false ∨ (b.lane n).residual - m.len ≠ 0) :
    (if ((b.writeCounted n m).lane n).residual = 0 ∧ ((b.writeCounted n m).lane n).state ≠ .aborting then
      (b.writeCounted n m).postNote n else b.writeCounted n m) = b.writeCounted n m := by
  have hl := b.writeCounted_lane n m
  rcases hnote with hnote | hres
  · rw [Blocks.postNote_quiet _ n (by rw [hl]; exact hnote), ite_self]
  · exact if_neg fun h => hres (by rw [← h.1, hl]; rfl)

theorem Blocks.writeDone_pumps (hnote : (b.lane n).dflags.note = false ∨ (b.lane n).residual - m.len ≠ 0)
    (hlink : (b.lane n).dflags.linkData = false ∨ (b.lane n).residual - m.len ≠ 0) :
    b.portNext.writeDone n m = (b.writeCounted n m).pump n := by
  have hl := b.writeCounted_lane n m
  rw [b.writeDone_counted n m, b.writeCounted_unnoted n m hnote, if_neg]
  rintro ⟨-, hres, hld⟩
  rw [hl] at hres hld
  rcases hlink with hlink | hne
  · exact absurd (hlink.symm.trans hld) nofun
  · exact hne hres

theorem Blocks.writeDone_links (hst : (b.lane n).state = .transfer) (hnote : (b.lane n).dflags.note = false)
    (hlink : (b.lane n).dflags.linkData = true) (hres : (b.lane n).residual = m.len) :
    b.portNext.writeDone n m = (b.writeCounted n m).enterLinkFetch n := by
  have hl := b.writeCounted_lane n m
  rw [b.writeDone_counted n m, b.writeCounted_unnoted n m (Or.inl hnote), if_pos]
  rw [hl]
  exact ⟨hst, Nat.sub_eq_zero_of_le (Nat.le_of_eq hres), hlink⟩

end

/-! ### The pumps after a write -/

/-- The write that is due (R111): the half to be emptied next holds bytes and is full, or no more are to come. -/
def Lane.writeDue (l : Lane) : Option LaneMem :=
  if l.staging.get l.staging.drain ≠ [] ∧ (64 ≤ (l.staging.get l.staging.drain).length ∨ l.rxResidual = 0) then
    some ⟨true, l.staging.drain, (l.staging.get l.staging.drain).length, false⟩
  else none

section
variable (b : Blocks) (n : LaneId)

theorem Blocks.askWrite_asks (hdir : (b.lane n).dir = .inbound) (hm : (b.lane n).memReq = none)
    (hcl : (b.lane n).closing = none) :
    (b.askWrite n).lane n = { b.lane n with memReq := (b.lane n).writeDue } := by
  rw [Blocks.askWrite, Lane.writeDue]
  split
  next hask =>
    have hdue : (b.lane n).staging.get (b.lane n).staging.drain ≠ []
        ∧ (64 ≤ ((b.lane n).staging.get (b.lane n).staging.drain).length ∨ (b.lane n).rxResidual = 0) := by
      simpa [hcl] using hask.2.2
    rw [if_pos hdue, Blocks.askLane_lane, Blocks.modLane_lane_same]
  next hask =>
    rw [if_neg]
    · rw [← hm]
    · intro hdue
      refine hask ⟨hdir, by rw [hm]; rfl, ?_⟩
      simpa [hcl] using hdue

/-- Of its lane a GRANT touches credit, the held NEED and the wire. -/
theorem Blocks.sendGrant_lane : ∃ cr hn tx q,
    (b.sendGrant n).lane n = { b.lane n with credit := cr, heldNeed := hn, tx := tx, txQueue := q } := by
  by_cases hgrant : (b.lane n).mayGrant = true
  · rw [b.sendGrant_sends n hgrant, Lane.send_spec]
    exact ⟨_, _, _, _, rfl⟩
  · rw [Blocks.sendGrant, if_neg hgrant]
    exact ⟨_, _, _, _, rfl⟩

theorem Blocks.pump_writes (hst : (b.lane n).state = .transfer) (hdir : (b.lane n).dir = .inbound)
    (hm : (b.lane n).memReq = none) (hcl : (b.lane n).closing = none) : ∃ cr hn tx q,
    (b.pump n).lane n = { b.lane n with
      memReq := (b.lane n).writeDue, credit := cr, heldNeed := hn, tx := tx, txQueue := q } := by
  obtain ⟨cr, hn, tx, q, hl⟩ := (b.askWrite n).sendGrant_lane n
  rw [b.pump_inbound n hst hdir, hl, b.askWrite_asks n hdir hm hcl]
  exact ⟨_, _, _, _, rfl⟩

end

/-- After a write the other half is the one that may be due. -/
theorem Lane.written_writeDue (l : Lane) (m : LaneMem) : (l.written m).writeDue =
    if l.staging.get m.half.other ≠ [] ∧ (64 ≤ (l.staging.get m.half.other).length ∨ l.rxResidual = 0) then
      some ⟨true, m.half.other, (l.staging.get m.half.other).length, false⟩
    else none := by
  have hstg : (l.written m).staging = l.staging.emptied m.half := rfl
  have hrx : (l.written m).rxResidual = l.rxResidual := rfl
  rw [Lane.writeDue, hstg, hrx]
  by_cases ho : l.staging.get m.half.other = []
  · rw [if_neg fun h => h.1 (l.staging.emptied_get_empty m.half ho _), if_neg fun h => h.1 ho]
  · rw [l.staging.emptied_drain m.half ho, l.staging.emptied_get_other]

/-! ### The fetch after link-data -/

section
variable (b : Blocks) (n : LaneId) (k : Slot)

theorem Blocks.appendLink_begins (hf : b.fetch = none) (hq : b.fetchQ = []) :
    (b.appendLink k).fetch = some ⟨k, .link, (b.ctx k).chainAddr + 16, 0, false⟩ := by
  have hins : insertLink b.fetchQ k = [⟨k, .link⟩] := by rw [hq]; rfl
  rw [Blocks.appendLink, Blocks.fetchBegin_idle { b with fetchQ := insertLink b.fetchQ k } ⟨k, .link⟩ [] hf hins,
    Blocks.askFetcher_fetch]
  rfl

/-- The lane waits in L_LINK_FETCH (R113). -/
def Lane.linkFetching (l : Lane) : Lane := { l with state := .linkFetch, timer := none }

theorem Blocks.enterLinkFetch_eq (hserved : (b.lane n).served = some ⟨k, .connection⟩) :
    b.enterLinkFetch n = (b.modLane n (·.linkFetching)).appendLink k := by
  simp only [Blocks.enterLinkFetch, Lane.servedSlot_eq k _ _ hserved]
  rfl

end

/-! ### A staging write of a lane in L_TRANSFER -/

section
variable {s : State} {x : Txn} {n : LaneId} {k : Slot} {h : Half} {m : LaneMem} {d : Descriptor} {resps : List BusResp}
  (hburst : lastBurst s x) (hwho : x.requester = .lane n) (hans : answers x resps [])
  (hm : (s.blocks.lane n).memReq = some m) (hw : m.write = true) (hst : (s.blocks.lane n).state = .transfer)
  (hserved : serving s n k) (hd : (s.blocks.lane n).desc = some d)
include hburst hwho hans hm hw hst hserved hd

omit hserved in
theorem write_counts (hhalf : m.half = h) (hdir : d.dir = .inbound) (hcl : (s.blocks.lane n).closing = none)
    (hok : burstSucceeds resps) (hnote : d.flags.note = false ∨ (s.blocks.lane n).residual ≠ m.len)
    (hlink : d.flags.linkData = false ∨ (s.blocks.lane n).residual ≠ m.len)
    (hle : m.len ≤ (s.blocks.lane n).residual) :
    ∃ t, exec (.memoryBurstResponse resps []) s = .next t ∧ t.port = s.port ∧ elsewhere s t ∧ otherLanes s t n
      ∧ t.blocks.ctxs = s.blocks.ctxs ∧ (t.blocks.lane n).state = .transfer
      ∧ (t.blocks.lane n).residual = (s.blocks.lane n).residual - m.len
      ∧ (t.blocks.lane n).dataAddr = (s.blocks.lane n).dataAddr + m.len
      ∧ (t.blocks.lane n).rxResidual = (s.blocks.lane n).rxResidual
      ∧ (t.blocks.lane n).staging.get h = []
      ∧ (t.blocks.lane n).staging.get h.other = (s.blocks.lane n).staging.get h.other
      ∧ (t.blocks.lane n).memReq =
          (if (s.blocks.lane n).staging.get h.other ≠ [] ∧
              (64 ≤ ((s.blocks.lane n).staging.get h.other).length ∨ (s.blocks.lane n).rxResidual = 0) then
            some ⟨true, h.other, ((s.blocks.lane n).staging.get h.other).length, false⟩
          else none) := by
  subst hhalf
  obtain ⟨hx, hlast, herr, hdis⟩ := hburst
  have hflags : (s.blocks.lane n).dflags = d.flags := by simp [Lane.dflags, hd]
  have hdone := (s.blocks.burstDone_writes n m hx (Txn.answeredBy_of_answers hans) hlast herr hdis hwho hm hw hok).trans
    (s.blocks.writeDone_pumps n m (by rw [hflags]; exact hnote.imp_right (by omega))
      (by rw [hflags]; exact hlink.imp_right (by omega)))
  have harr := s.blocks.arrived_writeCounted n m 0
  have hl := s.blocks.writeCounted_lane n m
  have hctxs := s.blocks.writeCounted_ctxs n m
  generalize s.blocks.writeCounted n m = b at hdone harr hl hctxs
  have hstB : (b.lane n).state = .transfer := by rw [hl]; exact hst
  have hpumped := b.pumped_transfer n hstB
  have hloc := harr.toLocal.trans (hpumped.toLocal 0)
  obtain ⟨cr, hn, tx, q, hpump⟩ := b.pump_writes n hstB (by rw [hl, ← hdir]; simp [Lane.dir, Lane.written, hd])
    (by rw [hl]; rfl) (by rw [hl]; exact hcl)
  obtain ⟨t, hexec, hport, hp, ht⟩ := exec_burst hdone (by rw [hloc.window]; exact id)
  have htl : t.blocks.lane n = (b.pump n).lane n := by rw [ht, Blocks.settled_lane]
  rw [hpump, hl] at htl
  refine ⟨t, hexec, hport, elsewhere_of_local (k := 0) (by rw [ht]; exact hloc.settled _) hp, ?_, ?_, ?_⟩
  · rw [otherLanes, ht]
    exact (harr.apart.trans hpumped.apart).settled _
  · rw [ht]
    exact hpumped.ctxs.trans hctxs
  · rw [htl]
    exact ⟨hst, rfl, rfl, rfl, Staging.emptied_get_same _ _, Staging.emptied_get_other _ _, Lane.written_writeDue _ m⟩

theorem write_links (hok : burstSucceeds resps) (hnote : d.flags.note = false) (hlink : d.flags.linkData = true)
    (hres : (s.blocks.lane n).residual = m.len) (hf : s.blocks.fetch = none) (hq : s.blocks.fetchQ = []) :
    ∃ t, exec (.memoryBurstResponse resps []) s = .next t ∧ t.port = s.port ∧ elsewhere s t ∧ otherLanes s t n
      ∧ t.blocks.ctxs = s.blocks.ctxs ∧ (t.blocks.lane n).state = .linkFetch ∧ (t.blocks.lane n).timer = none
      ∧ (t.blocks.lane n).residual = 0 ∧ (t.blocks.lane n).memReq = none ∧ outgoing t n = outgoing s n
      ∧ t.blocks.fetch = some ⟨k, .link, (s.blocks.ctx k).chainAddr + 16, 0, false⟩ := by
  obtain ⟨hx, hlast, herr, hdis⟩ := hburst
  have hflags : (s.blocks.lane n).dflags = d.flags := by simp [Lane.dflags, hd]
  have hl0 := s.blocks.writeCounted_lane n m
  have hdone := ((s.blocks.burstDone_writes n m hx (Txn.answeredBy_of_answers hans) hlast herr hdis hwho hm hw hok).trans
    (s.blocks.writeDone_links n m hst (by rw [hflags]; exact hnote) (by rw [hflags]; exact hlink) hres)).trans
    (Blocks.enterLinkFetch_eq _ n k (by rw [hl0]; exact hserved))
  have harr := (s.blocks.arrived_writeCounted n m k).trans
    (Blocks.arrived_modLane n k (s.blocks.writeCounted n m) (·.linkFetching) rfl rfl rfl)
  have hl := (s.blocks.writeCounted n m).modLane_lane_same n (·.linkFetching)
  have hctxs : ((s.blocks.writeCounted n m).modLane n (·.linkFetching)).ctxs = s.blocks.ctxs :=
    s.blocks.writeCounted_ctxs n m
  have hfetch : ((s.blocks.writeCounted n m).modLane n (·.linkFetching)).fetch = none := by
    simpa [Blocks.writeCounted] using hf
  have hqueue : ((s.blocks.writeCounted n m).modLane n (·.linkFetching)).fetchQ = [] := by
    simpa [Blocks.writeCounted] using hq
  rw [hl0] at hl
  generalize (s.blocks.writeCounted n m).modLane n (·.linkFetching) = b at hdone harr hl hctxs hfetch hqueue
  have hloc := harr.toLocal.trans (b.local_appendLink k k)
  obtain ⟨t, hexec, hport, hp, ht⟩ := exec_burst hdone (by rw [hloc.window]; exact id)
  have htl : t.blocks.lane n = b.lane n := by rw [ht, Blocks.settled_lane, Blocks.appendLink_lane]
  have hout := harr.sent.outgoing
  rw [← htl, List.append_nil] at hout
  rw [hl] at htl
  refine ⟨t, hexec, hport, elsewhere_of_local (k := k) (by rw [ht]; exact hloc.settled _) hp, fun j hj => ?_, ?_,
    by rw [htl]; rfl, by rw [htl]; rfl, ?_, by rw [htl]; rfl, hout, ?_⟩
  · rw [ht, Blocks.settled_lane, Blocks.appendLink_lane]
    exact harr.apart j hj
  · rw [ht, Blocks.settled_ctxs, Blocks.appendLink_ctxs, hctxs]
  · rw [htl]
    exact Nat.sub_eq_zero_of_le (Nat.le_of_eq hres)
  · have hctx : b.ctx k = s.blocks.ctx k := by rw [Blocks.ctx, hctxs]; rfl
    rw [ht, ← hctx]
    exact b.appendLink_begins k hfetch hqueue

omit hd in
theorem write_faults (hbad : burstErrs resps) :
    ∃ t, exec (.memoryBurstResponse resps []) s = .next t ∧ t.port = s.port ∧ otherLanes s t n
      ∧ t.blocks.ctxs = s.blocks.ctxs ∧ (t.blocks.lane n).state = .aborting
      ∧ (t.blocks.lane n).abortCause = some (.dataFault .writeError) ∧ sends s t n (.abort (s.blocks.unitOf k))
      ∧ (t.blocks.lane n).residual = (s.blocks.lane n).residual
      ∧ (t.blocks.lane n).dataAddr = (s.blocks.lane n).dataAddr ∧ (t.blocks.lane n).credit = []
      ∧ (t.blocks.lane n).memReq = none ∧ ∀ h, (t.blocks.lane n).staging.get h = [] := by
  obtain ⟨hx, -, herr, hdis⟩ := hburst
  obtain ⟨t, hexec, hport, ht⟩ := burst_faults hx (Txn.answeredBy_of_answers hans) herr hdis hwho hm hst hbad
  have harr := s.blocks.arrived_readDropped n k
  have hl := s.blocks.readDropped_lane n
  have hctxs : (s.blocks.readDropped n).ctxs = s.blocks.ctxs := by simp [Blocks.readDropped]
  rw [hw, if_pos rfl] at ht
  generalize s.blocks.readDropped n = b at ht harr hl hctxs
  have hservedB : (b.lane n).served = some ⟨k, .connection⟩ := by rw [hl]; exact hserved
  obtain ⟨⟨hstate, hcause, -, hsend, hcredit, -, -, -, -, -, -, hlanes⟩, htctxs, -⟩ := aborts_of_arrived harr hservedB ht
  obtain ⟨-, -, hmem, hstaging⟩ := b.enterAborting_idle (.dataFault .writeError) hservedB (by rw [hl])
  obtain ⟨mr, sa, st, tx, q, hspec⟩ := Blocks.enterAborting_lane_spec (.dataFault .writeError) hservedB
  have htl : t.blocks.lane n = (b.enterAborting n (.dataFault .writeError)).lane n := by rw [ht, Blocks.settled_lane]
  rw [← htl] at hmem hstaging hspec
  exact ⟨t, hexec, hport, hlanes, htctxs.trans hctxs, hstate, hcause, hsend, by rw [hspec, hl], by rw [hspec, hl], hcredit,
    hmem, hstaging⟩

end

/-- Settles O45: `burst_followed` and `read_faults` for a burst with more to issue, `write_counts`, `write_links` and
`write_faults` for a write. -/
theorem dataBurstsAreFollowedCountedOrEndInAbort : Obligations.DataBurstsAreFollowedCountedOrEndInAbort := by
  refine ⟨fun s x next rest half resps bytes hx hkind hissue hresps hbytes herr hdis => ?_,
    fun s x n k h m d resps hburst hwho _ hans hm hw hhalf hst hserved hd hdir hcl => ⟨?_, ?_, ?_⟩⟩
  · have ha : x.answeredBy resps bytes = true := by
      simp [Txn.answeredBy, Txn.isWrite, hkind, hresps, hbytes]
    exact ⟨burst_followed hx ha herr hdis hissue,
      fun n m hbad hwho hm hw hst => read_faults hx ha herr hdis hwho hm hw hst hbad⟩
  · exact write_counts hburst hwho hans hm hw hst hd hhalf hdir hcl
  · exact write_links hburst hwho hans hm hw hst hserved hd
  · exact write_faults hburst hwho hans hm hw hst hserved

end Sys2Proof.Machine

/-!
The grant decision at the completion of a discarded transaction of a lane in L_IDLE (R139, R145).
-/
namespace Sys2Proof.Machine

open Sys2Proof.Claims

/-! ### The transaction of a grant -/

/-- A granted request with a burst starts clean, its first burst issued (R139). -/
theorem Blocks.transaction_starts (b : Blocks) (who : Requester) (r : MemReq) (h : r.bursts ≠ []) :
    ∃ y, b.transaction who r = some y ∧ y.requester = who ∧ y.req = r ∧ y.burst :: y.toIssue = r.bursts
      ∧ y.buffer = b.grantBuffer who r ∧ y.error = false ∧ y.discard = false := by
  obtain ⟨first, rest, hr⟩ := List.exists_cons_of_ne_nil h
  refine ⟨⟨who, r, rest, first, b.grantBuffer who r, false, false⟩, ?_, rfl, rfl, hr.symm, rfl, rfl, rfl⟩
  rw [Blocks.transaction, hr]

/-- A descriptor read is one burst of two beats (R140). -/
theorem Blocks.transaction_descriptor (b : Blocks) (r : MemReq) (hk : r.kind = .descriptor) :
    b.transaction .fetcher r = some ⟨.fetcher, r, [], ⟨r.addr, 2, 8, 16⟩, [], false, false⟩ := by
  have hr : r.bursts = [⟨r.addr, 2, 8, 16⟩] := by rw [MemReq.bursts, hk]
  rw [Blocks.transaction, hr]
  rfl

/-- A granted write takes its half's bytes into the transaction buffer (R142). -/
theorem Blocks.grantBuffer_write (b : Blocks) (i : LaneId) (r : MemReq) (half : Half) (hk : r.kind = .dataWrite half) :
    b.grantBuffer (.lane i) r = ((b.lane i).staging.get half).take r.len := by
  simp only [Blocks.grantBuffer, hk]

/-! ### The completion -/

section
variable (b : Blocks) (n : LaneId)

/-- A lane in L_IDLE has nothing to go on with when its discarded transaction completes. -/
theorem Blocks.burstDone_discarded_idle {x : Txn} {resps : List BusResp} {bytes : List Byte}
    (hx : b.mem.inflight = some x) (ha : x.answeredBy resps bytes = true) (hd : x.discard = true)
    (hwho : x.requester = .lane n) (hst : (b.lane n).state = .idle) : b.burstDone resps bytes = b.readDropped n := by
  have hidle : ((b.readDropped n).lane n).state = .idle := by rw [Blocks.readDropped_lane]; exact hst
  have hpump : b.burstDone resps bytes = (b.readDropped n).pump n := by
    rw [b.burstDone_discarded x resps bytes hx ha hd]
    simp only [Blocks.completeTxn, Txn.took, hwho, hd, if_true]
    rfl
  rw [hpump, Blocks.pump_quiet _ n] <;> simp [hidle]

theorem Blocks.readDropped_mem : (b.readDropped n).mem = b.portNext.mem := Blocks.modLane_mem _ _ _

end

/-- The event of a lane's discarded transaction completing in L_IDLE: the port decides, and the lane's request is absent. -/
theorem burst_discarded_idle {s : State} {x : Txn} {n : LaneId} {resps : List BusResp} {bytes : List Byte}
    (hx : s.blocks.mem.inflight = some x) (hwho : x.requester = .lane n) (hd : x.discard = true)
    (hans : answers x resps bytes) (hst : (s.blocks.lane n).state = .idle) :
    ∃ t, exec (.memoryBurstResponse resps bytes) s = .next t ∧ t.port = s.port ∧ elsewhere s t ∧ otherLanes s t n
      ∧ t.blocks.lane n = { s.blocks.lane n with memReq := none } ∧ t.blocks.ctxs = s.blocks.ctxs
      ∧ t.blocks.fetch = s.blocks.fetch ∧ t.blocks.reports = s.blocks.reports
      ∧ t.blocks.mem = s.blocks.portNext.mem := by
  have hdone := s.blocks.burstDone_discarded_idle n hx (Txn.answeredBy_of_answers hans) hd hwho hst
  have harr := s.blocks.arrived_readDropped n 0
  have hctxs : (s.blocks.readDropped n).ctxs = s.blocks.ctxs := by simp [Blocks.readDropped]
  have hreports : (s.blocks.readDropped n).reports = s.blocks.reports := by simp [Blocks.readDropped]
  have hfetch : (s.blocks.readDropped n).fetch = s.blocks.fetch := by simp [Blocks.readDropped]
  obtain ⟨t, hexec, hport, hp, ht⟩ := exec_burst hdone (by rw [harr.toLocal.window]; exact id)
  rw [s.blocks.settled_of_same _ hreports hctxs] at ht
  refine ⟨t, hexec, hport, elsewhere_of_local (k := 0) (by rw [ht]; exact harr.toLocal) hp, ?_, ?_, ?_, ?_, ?_, ?_⟩
  · rw [otherLanes, ht]
    exact harr.apart
  · rw [ht, Blocks.readDropped_lane]
  · rw [ht, hctxs]
  · rw [ht, hfetch]
  · rw [ht, hreports]
  · rw [ht, Blocks.readDropped_mem]

/-- Settles O44: the event is `burst_discarded_idle`; what the port decides is said by the `portNext` laws, one for each
outcome of R139. -/
theorem thePortGrantsTheLanesInRotationAndTheFetcherAfterFour :
    Obligations.ThePortGrantsTheLanesInRotationAndTheFetcherAfterFour := by
  rintro s x n resps bytes _ rfl hx hwho hd hans hst
  obtain ⟨t, hexec, hport, helse, hlanes, hlane, hctxs, hfetch, hreports, hmem⟩ :=
    burst_discarded_idle hx hwho hd hans hst
  refine ⟨t, hexec, hport, helse, hlanes, hlane, hctxs, hfetch, hreports, ?idle, ?fetcher, ?lane⟩
  case idle =>
    intro hf hl
    rw [hmem, s.blocks.portNext_quiet hf hl]
  case fetcher =>
    intro r hf hk hl
    rw [hmem, s.blocks.portNext_fetcher r hf (hl.imp_left fun h => h.ge), s.blocks.transaction_descriptor r hk]
  case lane =>
    intro i q hq hf hfirst hk hlen
    obtain ⟨y, hy, hreq, hwhat, hbursts, hbuffer, herror, hdiscard⟩ :=
      s.blocks.transaction_starts (.lane i) q (q.bursts_ne_nil hk hlen)
    have hcounter : (if s.blocks.mem.fetchReq.isSome then s.blocks.mem.grants + 1 else 0) =
        if s.blocks.mem.fetchReq = none then 0 else s.blocks.mem.grants + 1 := by
      cases s.blocks.mem.fetchReq <;> simp
    refine ⟨y, ?_, hreq, hwhat, hbursts, herror, hdiscard, fun half hw => ?_⟩
    · rw [hmem, s.blocks.portNext_lane_granted i q hq hf hfirst, hy, hcounter]
      rfl
    · rw [hbuffer, s.blocks.grantBuffer_write i q half hw]

end Sys2Proof.Machine

/-!
The bursts of a data read and of a data write, and the bytes of a write beat (R141, R142).
-/
namespace Sys2Proof.Machine

/-! ### Bursts that lie one behind the other -/

/-- The bursts, in this order, cover `[lo, hi)`: the first begins at `lo`, each begins where the one before ends, the last
ends at `hi`. -/
def Tiles (lo hi : Nat) : List Burst → Prop
  | [] => lo = hi
  | b :: rest => b.addr = lo ∧ Tiles (lo + b.beats * b.size) hi rest

section
variable {lo mid hi : Nat} {xs ys : List Burst}

theorem Tiles.append (hx : Tiles lo mid xs) (hy : Tiles mid hi ys) : Tiles lo hi (xs ++ ys) := by
  induction xs generalizing lo with
  | nil =>
    obtain rfl : lo = mid := hx
    exact hy
  | cons b rest ih => exact ⟨hx.1, ih hx.2⟩

theorem Tiles.first_addr (h : Tiles lo hi xs) (hne : xs ≠ []) : ∃ first, xs.head? = some first ∧ first.addr = lo := by
  cases xs with
  | nil => exact absurd rfl hne
  | cons b rest => exact ⟨b, rfl, h.1⟩

theorem Tiles.last_end (h : Tiles lo hi xs) (hne : xs ≠ []) :
    ∃ last, xs.getLast? = some last ∧ last.addr + last.beats * last.size = hi := by
  induction xs generalizing lo with
  | nil => exact absurd rfl hne
  | cons b rest ih =>
    obtain ⟨haddr, hrest⟩ := h
    cases rest with
    | nil =>
      subst haddr
      exact ⟨b, rfl, hrest⟩
    | cons c more =>
      obtain ⟨last, hlast, hend⟩ := ih hrest (List.cons_ne_nil c more)
      exact ⟨last, by rw [List.getLast?_cons_cons, hlast], hend⟩

theorem Tiles.next_addr (h : Tiles lo hi xs) {i : Nat} {b c : Burst} (hb : xs[i]? = some b) (hc : xs[i + 1]? = some c) :
    c.addr = b.addr + b.beats * b.size := by
  induction xs generalizing lo i with
  | nil => simp at hb
  | cons d rest ih =>
    obtain ⟨haddr, hrest⟩ := h
    cases i with
    | succ j => exact ih hrest (by simpa using hb) (by simpa using hc)
    | zero =>
      obtain rfl : d = b := by simpa using hb
      cases rest with
      | nil => simp at hc
      | cons e more =>
        obtain rfl : e = c := by simpa using hc
        rw [hrest.1, haddr]

end

/-! ### A run of bytes and a run of whole words -/

section
variable (a n : Nat) {lo hi : Nat}

theorem byteBursts_length_le : (byteBursts lo hi).length ≤ 1 := by
  unfold byteBursts
  split <;> simp

theorem mem_byteBursts {b : Burst} (hb : b ∈ byteBursts lo hi) : lo < hi ∧ b = ⟨lo, hi - lo, 1, hi - lo⟩ := by
  unfold byteBursts at hb
  split at hb
  next h => exact ⟨h, List.mem_singleton.mp hb⟩
  next => exact absurd hb List.not_mem_nil

theorem tiles_byteBursts (h : lo ≤ hi) : Tiles lo hi (byteBursts lo hi) := by
  unfold byteBursts
  split
  · exact ⟨rfl, by simp only [Tiles]; omega⟩
  · exact Nat.le_antisymm h (by omega)

theorem wordBursts_length_le : (wordBursts a n lo hi).length ≤ 2 := by
  unfold wordBursts
  split
  · split <;> simp
  · simp

/-- A run of whole words is left whole, or cut once, at the 4096-byte boundary inside it. -/
theorem wordBursts_cases (h : lo < hi) :
    (wordBursts a n lo hi = [wordBurst a n lo hi] ∧ hi ≤ nextPage lo)
      ∨ (wordBursts a n lo hi = [wordBurst a n lo (nextPage lo), wordBurst a n (nextPage lo) hi] ∧ nextPage lo < hi) := by
  unfold wordBursts
  rw [if_pos h]
  split
  next hcut => exact Or.inr ⟨rfl, hcut⟩
  next hwhole => exact Or.inl ⟨rfl, Nat.le_of_not_lt hwhole⟩

theorem wordBurst_end (h : lo ≤ hi) (hlo : lo % 8 = 0) (hhi : hi % 8 = 0) :
    lo + (wordBurst a n lo hi).beats * (wordBurst a n lo hi).size = hi := by
  simp only [wordBurst]
  omega

theorem tiles_wordBursts (h : lo ≤ hi) (hlo : lo < hi → lo % 8 = 0) (hhi : lo < hi → hi % 8 = 0) :
    Tiles lo hi (wordBursts a n lo hi) := by
  rcases h.eq_or_lt with heq | hlt
  · rw [wordBursts, if_neg heq.not_lt]
    exact heq
  have hpage : lo < nextPage lo ∧ nextPage lo % 8 = 0 := by unfold nextPage; omega
  rcases wordBursts_cases a n hlt with ⟨hw, -⟩ | ⟨hw, hcut⟩
  · rw [hw]
    exact ⟨rfl, wordBurst_end a n h (hlo hlt) (hhi hlt)⟩
  · rw [hw]
    refine ⟨rfl, (wordBurst_end a n hpage.1.le (hlo hlt) hpage.2).symm, ?_⟩
    rw [wordBurst_end a n hpage.1.le (hlo hlt) hpage.2]
    exact wordBurst_end a n hcut.le hpage.2 (hhi hlt)

/-- Each burst of a run of whole words that is no longer than a page runs over whole words of one page. -/
theorem mem_wordBursts {b : Burst} (hb : b ∈ wordBursts a n lo hi) (hlo : lo < hi → lo % 8 = 0)
    (hhi : lo < hi → hi % 8 = 0) (hlen : hi - lo ≤ 4096) :
    ∃ p q, b = wordBurst a n p q ∧ lo ≤ p ∧ p < q ∧ q ≤ hi ∧ p % 8 = 0 ∧ q % 8 = 0 ∧ p / 4096 = (q - 1) / 4096 := by
  have hlt : lo < hi := by
    by_contra h
    rw [wordBursts, if_neg h] at hb
    exact absurd hb List.not_mem_nil
  have hlo8 := hlo hlt
  have hhi8 := hhi hlt
  rcases wordBursts_cases a n hlt with ⟨hw, hend⟩ | ⟨hw, hend⟩
  · rw [hw, List.mem_singleton] at hb
    unfold nextPage at hend
    exact ⟨lo, hi, hb, le_rfl, hlt, le_rfl, hlo8, hhi8, by omega⟩
  · rw [hw, List.mem_pair] at hb
    rcases hb with hb | hb <;> unfold nextPage at hb hend
    · exact ⟨lo, _, hb, le_rfl, by omega, hend.le, hlo8, by omega, by omega⟩
    · exact ⟨_, hi, hb, by omega, hend, le_rfl, by omega, hhi8, by omega⟩

/-- A run of whole words is cut at a 4096-byte boundary and nowhere else. -/
theorem wordBursts_cut {i : Nat} {c : Burst} (hc : (wordBursts a n lo hi)[i + 1]? = some c) : c.addr % 4096 = 0 := by
  have hlt : lo < hi := by
    by_contra h
    rw [wordBursts, if_neg h] at hc
    simp at hc
  rcases wordBursts_cases a n hlt with ⟨hw, -⟩ | ⟨hw, -⟩ <;> rw [hw] at hc
  · simp at hc
  · cases i with
    | zero =>
      obtain rfl : wordBurst a n (nextPage lo) hi = c := by simpa using hc
      exact Nat.mul_mod_left _ _
    | succ j => simp at hc

end

/-! ### A data read -/

section
variable (a n : Nat)

/-- The two cuts of a range stand in its order. -/
theorem read_cuts_ordered : a ≤ leadEnd a n ∧ leadEnd a n ≤ wordsEnd a n ∧ wordsEnd a n ≤ a + n := by
  unfold wordsEnd leadEnd up8 down8
  omega

/-- Where there are whole words between the two cuts, both are aligned. -/
theorem read_cuts_aligned (h : leadEnd a n < wordsEnd a n) : leadEnd a n % 8 = 0 ∧ wordsEnd a n % 8 = 0 := by
  unfold wordsEnd leadEnd up8 down8 at *
  omega

/-- What precedes the first cut lies within one word. -/
theorem lead_within_word (h : a < leadEnd a n) : a / 8 = (leadEnd a n - 1) / 8 := by
  unfold leadEnd up8 at *
  omega

/-- What follows the second cut lies within one word. -/
theorem tail_within_word (h : wordsEnd a n < a + n) : wordsEnd a n / 8 = (a + n - 1) / 8 := by
  unfold wordsEnd leadEnd up8 down8 at *
  omega

theorem tiles_readBursts : Tiles a (a + n) (readBursts a n) := by
  obtain ⟨hlead, hwords, hend⟩ := read_cuts_ordered a n
  exact ((tiles_byteBursts hlead).append (tiles_wordBursts a n hwords (fun h => (read_cuts_aligned a n h).1)
    fun h => (read_cuts_aligned a n h).2)).append (tiles_byteBursts hend)

theorem readBursts_ne_nil (hn : 1 ≤ n) : readBursts a n ≠ [] :=
  MemReq.bursts_ne_nil ⟨.dataRead .h0, a, n⟩ nofun hn

theorem readBursts_length_le : (readBursts a n).length ≤ 4 := by
  have hlead := byteBursts_length_le (lo := a) (hi := leadEnd a n)
  have hwords := wordBursts_length_le a n (lo := leadEnd a n) (hi := wordsEnd a n)
  have htail := byteBursts_length_le (lo := wordsEnd a n) (hi := a + n)
  simp only [readBursts, List.length_append]
  omega

/-- What R141 asks of each burst of a data read: every byte it moves is of the range, it lies in one page, and it is of
8-byte beats on aligned words or of 1-byte beats within an aligned word. -/
def Burst.readsExactly (b : Burst) : Prop :=
  1 ≤ b.beats ∧ b.bytes = b.beats * b.size ∧ b.addr / 4096 = (b.addr + b.beats * b.size - 1) / 4096
    ∧ ((b.size = 8 ∧ b.addr % 8 = 0) ∨ (b.size = 1 ∧ b.addr / 8 = (b.addr + b.beats - 1) / 8))

theorem byteBursts_readsExactly {lo hi : Nat} (hword : lo < hi → lo / 8 = (hi - 1) / 8) {b : Burst}
    (hb : b ∈ byteBursts lo hi) : b.readsExactly := by
  obtain ⟨hlt, rfl⟩ := mem_byteBursts hb
  have hend := hword hlt
  refine ⟨?_, ?_, ?_, Or.inr ⟨rfl, ?_⟩⟩ <;> dsimp only <;> omega

/-- Whole words inside the range are moved whole. -/
theorem wordBursts_readsExactly {lo hi : Nat} (hlo : lo < hi → lo % 8 = 0) (hhi : lo < hi → hi % 8 = 0)
    (hlen : hi - lo ≤ 4096) (hfrom : a ≤ lo) (hto : hi ≤ a + n) {b : Burst} (hb : b ∈ wordBursts a n lo hi) :
    b.readsExactly := by
  obtain ⟨p, q, rfl, hp, hpq, hq, hp8, hq8, hpage⟩ := mem_wordBursts a n hb hlo hhi hlen
  refine ⟨?_, ?_, ?_, Or.inl ⟨rfl, hp8⟩⟩ <;> dsimp only [wordBurst, overlap] <;> omega

theorem readBursts_readsExactly (hn : n ≤ 64) {b : Burst} (hb : b ∈ readBursts a n) : b.readsExactly := by
  obtain ⟨hlead, hwords, hend⟩ := read_cuts_ordered a n
  rw [readBursts, List.mem_append, List.mem_append] at hb
  rcases hb with (hb | hb) | hb
  · exact byteBursts_readsExactly (lead_within_word a n) hb
  · exact wordBursts_readsExactly a n (fun h => (read_cuts_aligned a n h).1) (fun h => (read_cuts_aligned a n h).2)
      (by omega) hlead hend hb
  · exact byteBursts_readsExactly (tail_within_word a n) hb

end

/-! ### A data write -/

section
variable (a n : Nat)

/-- The words the range touches. -/
theorem write_words_spec (hn : n ≤ 64) :
    down8 a ≤ up8 (a + n) ∧ down8 a % 8 = 0 ∧ up8 (a + n) % 8 = 0 ∧ up8 (a + n) - down8 a ≤ 72 := by
  unfold down8 up8
  omega

theorem tiles_writeBursts (hn : n ≤ 64) : Tiles (down8 a) (up8 (a + n)) (writeBursts a n) := by
  obtain ⟨hle, hlo, hhi, -⟩ := write_words_spec a n hn
  exact tiles_wordBursts a n hle (fun _ => hlo) fun _ => hhi

theorem writeBursts_ne_nil (hn : 1 ≤ n) : writeBursts a n ≠ [] :=
  MemReq.bursts_ne_nil ⟨.dataWrite .h0, a, n⟩ nofun hn

theorem writeBursts_whole_words (hn : n ≤ 64) {b : Burst} (hb : b ∈ writeBursts a n) :
    b.size = 8 ∧ 1 ≤ b.beats ∧ b.beats ≤ 9 ∧ b.addr / 4096 = (b.addr + b.beats * 8 - 1) / 4096 := by
  obtain ⟨-, hlo, hhi, hlen⟩ := write_words_spec a n hn
  obtain ⟨p, q, rfl, hp, hpq, hq, hp8, hq8, hpage⟩ := mem_wordBursts a n hb (fun _ => hlo) (fun _ => hhi) (by omega)
  refine ⟨rfl, ?_, ?_, ?_⟩ <;> dsimp only [wordBurst] <;> omega

end

/-- A beat strobes the byte lanes whose address lies within the range, each with its byte of the buffer. -/
theorem writeBeat_lane (a w i : Nat) (buffer : List Byte) (hi : i < 8) :
    (writeBeat a buffer w)[i]? =
      some (if a ≤ w + i ∧ w + i < a + buffer.length then buffer[w + i - a]? else none) := by
  have hbeat : (writeBeat a buffer w)[i]? = some (if a ≤ w + i then buffer[w + i - a]? else none) := by
    simp [writeBeat, hi]
  rw [hbeat]
  by_cases hfrom : a ≤ w + i
  · by_cases hto : w + i < a + buffer.length
    · rw [if_pos hfrom, if_pos ⟨hfrom, hto⟩]
    · rw [if_pos hfrom, if_neg fun h => hto h.2, List.getElem?_eq_none (by omega)]
  · rw [if_neg hfrom, if_neg fun h => hfrom h.1]

/-- Settles O49: both lists of bursts tile their ranges (`tiles_readBursts`, `tiles_writeBursts`); the clauses on each burst
and each beat are `readBursts_readsExactly`, `writeBursts_whole_words`, `wordBursts_cut` and `writeBeat_lane`. -/
theorem burstsMoveExactlyTheRange : Obligations.BurstsMoveExactlyTheRange := by
  refine ⟨fun a n h1 hn => ?read, fun a n h1 hn => ?write, writeBeat_lane⟩
  case read =>
    have htiles := tiles_readBursts a n
    have hne := readBursts_ne_nil a n h1
    obtain ⟨first, hfirst, hbegin⟩ := htiles.first_addr hne
    obtain ⟨last, hlast, hend⟩ := htiles.last_end hne
    exact ⟨List.length_pos_iff.mpr hne, readBursts_length_le a n, ⟨first, last, hfirst, hbegin, hlast, hend⟩,
      fun _ _ _ => htiles.next_addr, fun b => readBursts_readsExactly a n hn⟩
  case write =>
    have htiles := tiles_writeBursts a n hn
    have hne := writeBursts_ne_nil a n h1
    have hsize : ∀ b ∈ writeBursts a n, b.size = 8 := fun b hb => (writeBursts_whole_words a n hn hb).1
    obtain ⟨first, hfirst, hbegin⟩ := htiles.first_addr hne
    obtain ⟨last, hlast, hend⟩ := htiles.last_end hne
    rw [hsize last (List.mem_of_getLast? hlast)] at hend
    refine ⟨List.length_pos_iff.mpr hne, wordBursts_length_le a n, ⟨first, last, hfirst, hbegin, hlast, hend⟩,
      fun i b c hb hc => ⟨?_, wordBursts_cut a n hc⟩, fun b => writeBursts_whole_words a n hn⟩
    rw [← hsize b (List.mem_of_getElem? hb)]
    exact htiles.next_addr hb hc

end Sys2Proof.Machine

/-!
The class an ending carries: the first, in the order of R152, of those it names.
-/
namespace Sys2Proof.Machine

/-- The eleven classes in the order of R152. -/
def precedence : List ReportClass :=
  [.laneReset, .timeout, .halted, .dataFault, .chainFault, .linkError, .noUnit, .unitCheck, .unitException, .length, .complete]

/-- The rank of a class is its place in the list of R152, counted from 1; UNIT_ATTENTION, which is not listed, stands last. -/
theorem precedence_idxOf (c : ReportClass) : precedence.idxOf c + 1 = c.rank := by
  cases c <;> decide

theorem choosePast_mem (best : Named) (rest : List Named) : choosePast best rest ∈ best :: rest := by
  induction rest generalizing best with
  | nil => exact List.mem_cons_self
  | cons n rest ih =>
    unfold choosePast
    split
    · exact List.mem_cons_of_mem best (ih n)
    · rcases List.mem_cons.mp (ih best) with h | h
      · rw [h]
        exact List.mem_cons_self
      · exact List.mem_cons_of_mem best (List.mem_cons_of_mem n h)

theorem choosePast_rank_le (best : Named) (rest : List Named) :
    ∀ m ∈ best :: rest, (choosePast best rest).cls.rank ≤ m.cls.rank := by
  induction rest generalizing best with
  | nil =>
    intro m hm
    rw [List.mem_singleton.mp hm, choosePast]
  | cons n rest ih =>
    unfold choosePast
    split
    · rename_i hlt
      have hn := ih n n List.mem_cons_self
      exact List.forall_mem_cons.mpr ⟨by omega, ih n⟩
    · rename_i hge
      obtain ⟨hbest, hrest⟩ := List.forall_mem_cons.mp (ih best)
      exact List.forall_mem_cons.mpr ⟨hbest, List.forall_mem_cons.mpr ⟨by omega, hrest⟩⟩

/-- Settles O50: the class kept is one of those named, and none of them has a lower rank. -/
theorem theClassChosenIsTheFirstOfThePrecedence : Obligations.TheClassChosenIsTheFirstOfThePrecedence := by
  refine ⟨rfl, fun n rest order horder => ⟨choosePast_mem n rest, fun m hm => ?_⟩⟩
  obtain rfl : order = precedence := horder
  have hrank : (chooseClass (n :: rest)).cls.rank ≤ m.cls.rank := choosePast_rank_le n rest m hm
  rw [← precedence_idxOf, ← precedence_idxOf] at hrank
  exact Nat.le_of_succ_le_succ hrank

end Sys2Proof.Machine

/-!
The attention words: what the slot shows for each kind of head entry, and its fields as numbers (TABLE 62, TABLE 63).
-/
namespace Sys2Proof.Machine

/-! ### What the slot shows (R160) -/

theorem Blocks.shown_empty {b : Blocks} (hq : b.reports.queue = []) : b.shown = none := by
  rw [Blocks.shown, hq]

theorem Blocks.shown_note {b : Blocks} {k : Slot} {q : List ReportEntry} (hq : b.reports.queue = ⟨k, .note⟩ :: q) :
    b.shown = some ((b.ctx k).noteShown k) := by
  rw [Blocks.shown, hq]

theorem Blocks.shown_final {b : Blocks} {k : Slot} {q : List ReportEntry} {rep : FinalReport}
    (hq : b.reports.queue = ⟨k, .final⟩ :: q) (hf : (b.ctx k).final = some rep) : b.shown = some rep.shown := by
  simp only [Blocks.shown, hq, hf]

/-- The note report of a bound context with a pending note (R155). -/
theorem Context.noteShown_eq {c : Context} {x : Binding} {note : PendingNote} (k : Slot) (hb : c.binding = some x)
    (hn : c.note = some note) : c.noteShown k =
      ⟨k, x.lane, x.unit, x.cookie, .note, none, none, none, 0, note.addr, note.count, some note.addr, .empty⟩ := by
  rw [Context.noteShown, hb, hn]
  rfl

/-! ### The words read (R182) -/

theorem Blocks.attentionWord_shown {b : Blocks} {r : Shown} (h : b.shown = some r) (i : Nat) :
    b.attentionWord i = r.word b.reports.update i := by
  rw [Blocks.attentionWord, h]

/-- With nothing shown the update count stands alone. -/
theorem Blocks.attentionWord_none {b : Blocks} (h : b.shown = none) (i : Nat) :
    b.attentionWord i = if i = 0 then packWord [⟨24, 8, b.reports.update.toNat⟩] else 0 := by
  rw [Blocks.attentionWord, h]

theorem State.read_attention {s : State} (hp : s.port.pstat = .ready) :
    s.readRegister 0x28 = s.blocks.attentionWord 0 ∧ s.readRegister 0x2C = s.blocks.attentionWord 1
      ∧ s.readRegister 0x30 = s.blocks.attentionWord 2 ∧ s.readRegister 0x34 = s.blocks.attentionWord 3
      ∧ s.readRegister 0x38 = s.blocks.attentionWord 4 ∧ s.readRegister 0x3C = s.blocks.attentionWord 5 := by
  simp [State.readRegister, hp]

/-! ### Codes and numbers that may be absent -/

theorem ReportClass.code_lt (c : ReportClass) : c.code < 16 := by cases c <;> decide
theorem Reason.code_lt (r : Reason) : r.code < 8 := by cases r <;> decide
theorem EntryKind.code_lt (k : EntryKind) : k.code < 4 := by cases k <;> decide

theorem orZero_lt {x : Option Nat} {n : Nat} (hn : 0 < n) (h : ∀ v, x = some v → v < n) : orZero x < n := by
  cases x with
  | none => exact hn
  | some v => exact h v rfl

theorem orZero_map_toNat (st : Option Byte) : orZero (st.map BitVec.toNat) = (st.getD 0).toNat := by
  cases st <;> rfl

theorem orZero_map_addrBits (a : Option Addr48) (lo : Nat) : orZero (a.map (addrBits · lo)) = addrBits (a.getD 0) lo := by
  cases a with
  | none => exact (Nat.zero_div _).symm
  | some a => rfl

/-- Bits 47:36 of an address. -/
theorem addrBits_high_lt (a : Addr48) : addrBits a 32 < 2 ^ 12 := by
  have := a.isLt
  unfold addrBits
  omega

theorem CtxFlags.toNat_lt (f : CtxFlags) : f.toNat < 2 ^ 6 := by
  have h0 := Bool.toNat_lt f.deferredAttention
  have h1 := Bool.toNat_lt f.haltRequested
  have h2 := Bool.toNat_lt f.lengthShort
  have h3 := Bool.toNat_lt f.lengthLong
  have h4 := Bool.toNat_lt f.abortUnconfirmed
  have h5 := Bool.toNat_lt f.unitMore
  unfold CtxFlags.toNat
  omega

/-- The class codes of TABLE 63 count the classes from 1, in the table's order. -/
theorem ReportClass.code_of_place {i : Nat} {c : ReportClass}
    (h : [.complete, .unitCheck, .unitException, .length, .halted, .timeout, .noUnit, .linkError, .chainFault, .dataFault,
      .laneReset, ReportClass.unitAttention][i]? = some c) : c.code = i + 1 := by
  obtain ⟨hi, rfl⟩ := List.getElem?_eq_some_iff.mp h
  simp only [List.length_cons, List.length_nil] at hi
  interval_cases i <;> rfl

/-- The reason codes of TABLE 63 count the reasons from 1; no reason is code 0. -/
theorem Reason.code_of_place {i : Nat} {r : Option Reason}
    (h : [none, some .badDescriptor, some .jumpLoop, some .fetchError, some .directionChange, some .readError,
      some Reason.writeError][i]? = some r) : orZero (r.map Reason.code) = i := by
  obtain ⟨hi, rfl⟩ := List.getElem?_eq_some_iff.mp h
  simp only [List.length_cons, List.length_nil] at hi
  interval_cases i <;> rfl

/-! ### The words as numbers (TABLE 62) -/

section
variable (r : Shown) (up : BitVec 8)

theorem Shown.word_identity : (r.word up 0).toNat =
    r.slot.val + 2 ^ 6 * r.lane.val + 2 ^ 8 * r.unit.val + 2 ^ 13 * r.kind.code + 2 ^ 15
      + 2 ^ 16 * orZero (r.cls.map ReportClass.code) + 2 ^ 20 * orZero (r.reason.map Reason.code)
      + 2 ^ 23 * r.status.isSome.toNat + 2 ^ 24 * up.toNat := by
  have hcls : orZero (r.cls.map ReportClass.code) < 16 := orZero_lt (by decide) fun v hv => by
    obtain ⟨c, -, rfl⟩ := Option.map_eq_some_iff.mp hv
    exact c.code_lt
  have hreason : orZero (r.reason.map Reason.code) < 8 := orZero_lt (by decide) fun v hv => by
    obtain ⟨c, -, rfl⟩ := Option.map_eq_some_iff.mp hv
    exact c.code_lt
  have hkind := r.kind.code_lt
  have hmark := Bool.toNat_lt r.status.isSome
  have hslot := r.slot.isLt
  have hlane := r.lane.isLt
  have hunit := r.unit.isLt
  have hup := up.isLt
  rw [Shown.word, packWord_toNat (lo := 0) (by simp [fieldsFrom])]
  simp only [fieldSum]
  omega

theorem Shown.word_cookie : r.word up 1 = r.cookie := rfl

theorem Shown.word_counts (hres : r.residual < 65536) (hnote : r.noteCount < 256) : (r.word up 2).toNat =
    r.residual + 2 ^ 16 * (r.status.getD 0).toNat + 2 ^ 24 * r.noteCount := by
  have hstatus := (r.status.getD 0).isLt
  rw [Shown.word, packWord_toNat (lo := 0) (by simp [fieldsFrom]), orZero_map_toNat]
  simp only [fieldSum]
  omega

theorem Shown.word_descLow : (r.word up 3).toNat = r.descAddr.toNat / 2 ^ 4 % 2 ^ 32 := by
  rw [Shown.word, packWord_toNat (lo := 0) (by simp [fieldsFrom])]
  simp [fieldSum, addrBits]

theorem Shown.word_highs : (r.word up 4).toNat =
    r.descAddr.toNat / 2 ^ 36 + 2 ^ 12 * r.flags.toNat + 2 ^ 18 * ((r.noteAddr.getD 0).toNat / 2 ^ 36) := by
  have hdesc := addrBits_high_lt r.descAddr
  have hnote := addrBits_high_lt (r.noteAddr.getD 0)
  have hflags := r.flags.toNat_lt
  rw [Shown.word, packWord_toNat (lo := 0) (by simp [fieldsFrom]), orZero_map_addrBits]
  simp only [fieldSum, addrBits] at *
  omega

theorem Shown.word_noteLow : (r.word up 5).toNat = (r.noteAddr.getD 0).toNat / 2 ^ 4 % 2 ^ 32 := by
  have hword : r.word up 5 = packWord [⟨0, 32, orZero (r.noteAddr.map (addrBits · 0))⟩] := rfl
  rw [hword, packWord_toNat (lo := 0) (by simp [fieldsFrom]), orZero_map_addrBits]
  simp [fieldSum, addrBits]

end

/-! ### The words by the head entry -/

/-- The words of an empty queue. -/
theorem State.attention_empty {s : State} (hp : s.port.pstat = .ready) (hq : s.blocks.reports.queue = []) :
    (s.readRegister 0x28).toNat = 2 ^ 24 * s.blocks.reports.update.toNat ∧ s.readRegister 0x2C = 0
      ∧ s.readRegister 0x30 = 0 ∧ s.readRegister 0x34 = 0 ∧ s.readRegister 0x38 = 0 ∧ s.readRegister 0x3C = 0 := by
  have hword := Blocks.attentionWord_none (Blocks.shown_empty hq)
  obtain ⟨h0, h1, h2, h3, h4, h5⟩ := State.read_attention hp
  refine ⟨?_, h1.trans (hword 1), h2.trans (hword 2), h3.trans (hword 3), h4.trans (hword 4), h5.trans (hword 5)⟩
  have hup := s.blocks.reports.update.isLt
  rw [h0, hword 0, if_pos rfl, packWord_toNat (lo := 0) (by simp [fieldsFrom])]
  simp only [fieldSum]
  omega

/-- The words of a report shown, field by field. -/
theorem State.attention_shown {s : State} {r : Shown} (hp : s.port.pstat = .ready) (h : s.blocks.shown = some r)
    (hres : r.residual < 65536) (hnote : r.noteCount < 256) :
    (s.readRegister 0x28).toNat =
        r.slot.val + 2 ^ 6 * r.lane.val + 2 ^ 8 * r.unit.val + 2 ^ 13 * r.kind.code + 2 ^ 15
          + 2 ^ 16 * orZero (r.cls.map ReportClass.code) + 2 ^ 20 * orZero (r.reason.map Reason.code)
          + 2 ^ 23 * r.status.isSome.toNat + 2 ^ 24 * s.blocks.reports.update.toNat
      ∧ s.readRegister 0x2C = r.cookie
      ∧ (s.readRegister 0x30).toNat = r.residual + 2 ^ 16 * (r.status.getD 0).toNat + 2 ^ 24 * r.noteCount
      ∧ (s.readRegister 0x34).toNat = r.descAddr.toNat / 2 ^ 4 % 2 ^ 32
      ∧ (s.readRegister 0x38).toNat =
          r.descAddr.toNat / 2 ^ 36 + 2 ^ 12 * r.flags.toNat + 2 ^ 18 * ((r.noteAddr.getD 0).toNat / 2 ^ 36)
      ∧ (s.readRegister 0x3C).toNat = (r.noteAddr.getD 0).toNat / 2 ^ 4 % 2 ^ 32 := by
  obtain ⟨h0, h1, h2, h3, h4, h5⟩ := State.read_attention hp
  rw [h0, h1, h2, h3, h4, h5]
  simp only [Blocks.attentionWord_shown h]
  exact ⟨r.word_identity _, r.word_cookie _, r.word_counts _ hres hnote, r.word_descLow _, r.word_highs _, r.word_noteLow _⟩

/-- Settles O52: the words of what the slot shows, which is nothing, the note report or the final report. -/
theorem theAttentionWordsShowTheHeadReport : Obligations.TheAttentionWordsShowTheHeadReport := by
  rintro s up hp rfl
  refine ⟨fun hq => State.attention_empty hp hq, fun k q x note hq hb hn hcount => ?note,
    fun k q rep hq hf hres hcount cls reason noteAddr hcls hpos hreason haddr => ?final⟩
  case note =>
    have hshown := Blocks.shown_note hq
    rw [Context.noteShown_eq k hb hn] at hshown
    obtain ⟨h0, h1, h2, h3, h4, h5⟩ := State.attention_shown hp hshown (Nat.zero_lt_succ 65535) hcount
    refine ⟨h0.trans ?_, h1, h2.trans ?_, h3, h4, h5⟩
    · simp [orZero, EntryKind.code]
    · simp
  case final =>
    obtain ⟨h0, h1, h2, h3, h4, h5⟩ := State.attention_shown hp (Blocks.shown_final hq hf) hres hcount
    have hcode : rep.cls.code = cls := by
      have := ReportClass.code_of_place hcls
      omega
    have hmark : rep.status.isSome.toNat = if rep.status = none then 0 else 1 := by cases rep.status <;> rfl
    subst haddr
    refine ⟨h0.trans ?_, h1, h2, h3, h4.trans ?_, h5⟩
    · simp only [FinalReport.shown, Option.map_some, orZero, Option.getD_some, hcode, hmark, EntryKind.code]
      rw [show (rep.reason.map Reason.code).getD 0 = reason from Reason.code_of_place hreason]
    · simp only [FinalReport.shown, CtxFlags.toNat]
      omega

end Sys2Proof.Machine

/-!
The update count of the attention slot (R161): what every command but the resets does to it, and what the resets set.
-/
namespace Sys2Proof.Machine

open Sys2Proof.Claims

/-- The update count of `c`, made of `b` by one event, has risen by one exactly where what the slot shows has changed. -/
def Blocks.countFollows (b c : Blocks) : Prop :=
  c.reports.update = if c.shown = b.shown then b.reports.update else b.reports.update + 1

theorem Blocks.countFollows_settled (b c : Blocks) : b.countFollows (b.settled c) := rfl

/-- An event that touches neither the records nor the report unit is no update. -/
theorem Blocks.countFollows_of_same {b c : Blocks} (hr : c.reports = b.reports) (hc : c.ctxs = b.ctxs) :
    b.countFollows c := by
  rw [← Blocks.settled_of_same b c hr hc]
  exact b.countFollows_settled c

theorem Blocks.countFollows_self (b : Blocks) : b.countFollows b := Blocks.countFollows_of_same rfl rfl

section
variable (s : State)

theorem State.handle_countFollows (code : ReqCode) (act : Request → Blocks → Blocks × Answer) :
    s.blocks.countFollows (s.handle code act).blocks := by
  unfold State.handle
  split
  · exact s.blocks.countFollows_self
  · split
    · exact s.blocks.countFollows_settled _
    · exact s.blocks.countFollows_self

theorem State.onWrite_countFollows (st : BitVec 4) {f : State → State} (hf : s.blocks.countFollows (f s).blocks) :
    s.blocks.countFollows (s.onWrite st f).blocks := by
  unfold State.onWrite
  split
  · exact hf
  · exact s.blocks.countFollows_self

/-- Clearing a lane's fault cause touches neither the records nor the report unit (R50). -/
theorem State.clearCauses_countFollows (v : Word) : s.blocks.countFollows (s.clearCauses v).blocks :=
  Blocks.countFollows_of_same rfl rfl

/-- Of the words of the window PRST alone, word 19, reaches the report unit. -/
theorem State.writeRegister_countFollows (o : BitVec 7) (v : Word) (st : BitVec 4) (ho : o.toNat / 4 ≠ 19) :
    s.blocks.countFollows (s.writeRegister o v st).blocks := by
  unfold State.writeRegister
  split
  case h_7 => exact s.clearCauses_countFollows _
  case h_9 h => exact absurd h ho
  all_goals exact s.blocks.countFollows_self

end

/-- Every command but the resets settles the update count, or leaves the report unit alone. -/
theorem exec_countFollows (i : Instr) {s t : State} (hpin : i ≠ .pinReset) (hsoft : i ≠ .softResetComplete)
    (hprst : ∀ v st, i ≠ .prstWrite v st) (hreg : ∀ o v st, i = .registerWrite o v st → o.toNat / 4 ≠ 19)
    (ht : exec i s = .next t) : s.blocks.countFollows t.blocks := by
  cases i with
  | pinReset => exact absurd rfl hpin
  | softResetComplete => exact absurd rfl hsoft
  | prstWrite v st => exact absurd rfl (hprst v st)
  | rqgoSubmit _ st | rsnextPop _ st | inteWrite _ st | tbdivWrite _ st =>
    cases ht
    exact s.onWrite_countFollows st s.blocks.countFollows_self
  | intsWrite v st =>
    cases ht
    exact s.onWrite_countFollows st (s.clearCauses_countFollows _)
  | registerWrite o v st =>
    cases ht
    exact s.onWrite_countFollows st (s.writeRegister_countFollows o v st (hreg o v st rfl))
  | openUnit | closeUnit | startChain | haltUnit | probeUnit | collectReport | laneControl | resetLane | setPolicy
  | laneStatus | unknownRequest =>
    cases ht
    exact s.handle_countFollows _ _
  | timebaseTick | detachTimerExpiry _ | ledgerRecordExpiry | responseTimeout _ | breakSpaceEnd _ | breakRecoveryEnd _
  | attentionLineChange _ _ | frameMalformed _ _ _ | frameAttn _ _ _ _ | frameEcho _ _ | frameAcpt _ _ _
  | frameNeed _ _ _ | frameDin _ _ _ _ | frameWait _ _ | frameEnd _ _ _ | memoryBurstResponse _ _ | frameSent _
  | frameFirstStartBit _ | unbrokenMarkResync _ =>
    cases ht
    exact s.blocks.countFollows_settled _

/-- Settles O53: `exec_countFollows` for the events, and the reset values of the report unit for the resets. -/
theorem theUpdateCountFollowsTheAttentionSlot : Obligations.TheUpdateCountFollowsTheAttentionSlot := by
  refine ⟨fun c s t hpin hsoft hprst hreg ht => exec_countFollows c hpin hsoft hprst hreg ht, fun s t ht => ?pin,
    fun s t v st hw ht => ?soft⟩
  case pin =>
    cases ht
    rfl
  case soft =>
    have hexec : exec (.prstWrite v st) s = .next s.beginSoftReset := exec_write hw rfl rfl
    cases hexec.symm.trans ht
    rfl

end Sys2Proof.Machine

/-!
The machine itself: the step on a queue that holds a command and on an empty one (logs 2 and 38), and the completion of
every command, which leaves the queue to the step (log 1).
-/
namespace Sys2Proof.Machine

/-! ### The step -/

/-- The front command acts on the state with the rest of the queue. -/
theorem step_of_cons {s : State} {c : Instr} {rest : List Instr} (h : s.pending = c :: rest) :
    step s = exec c { s with pending := rest } := by rw [step, h]

/-- On an empty queue the block acts of itself. -/
theorem step_of_empty {s : State} (h : s.pending = []) : step s = .next s.idle := by rw [step, h]

/-- While no command waits, a decision that is owed is taken. -/
theorem State.idle_of_asked (s : State) (h : s.blocks.window.asked = true) : s.idle = s.onBlocks Blocks.grantDecision :=
  if_pos h

/-- A grant decision changes no context's record. -/
theorem Blocks.grantDecision_ctxs (b : Blocks) : b.grantDecision.ctxs = b.ctxs := by
  obtain ⟨lanes, ledger, permits, h⟩ := b.grantDecision_spec
  rw [h]

/-- Settles O1: `step` by its two cases, and the grant decision that `State.idle` takes where one is owed. -/
theorem stepRunsFrontCommand : Obligations.StepRunsFrontCommand := by
  refine ⟨fun c s => step_of_cons rfl, fun s hempty => ⟨fun hnot => ?quiet, fun hasked => ?owed⟩⟩
  case quiet => rw [step_of_empty hempty, s.idle_of_not hnot]
  case owed =>
    refine ⟨s.onBlocks Blocks.grantDecision, ?_, s.blocks.grantDecision_asked, hempty, rfl, s.blocks.grantDecision_ctxs⟩
    rw [step_of_empty hempty, s.idle_of_asked hasked]

/-! ### Completion of every command -/

/-- Settles O2: every arm of `exec` answers with a next state, made by a reset, by a register write, by the request handler
or by an event of the blocks, and each of these keeps the queue. -/
theorem everyCommandCompletesAndKeepsTheQueue : Obligations.EveryCommandCompletesAndKeepsTheQueue := by
  intro c s
  cases c with
  | pinReset => exact ⟨_, rfl, rfl⟩
  | softResetComplete =>
    refine ⟨_, rfl, ?_⟩
    split
    · rfl
    · rfl
  | rqgoSubmit _ st | rsnextPop _ st | intsWrite _ st | inteWrite _ st | prstWrite _ st | tbdivWrite _ st =>
    exact ⟨_, rfl, s.onWrite_pending st _ rfl⟩
  | registerWrite o v st => exact ⟨_, rfl, s.onWrite_pending st _ (s.writeRegister_pending o v st)⟩
  | openUnit | closeUnit | startChain | haltUnit | probeUnit | collectReport | laneControl | resetLane | setPolicy
  | laneStatus | unknownRequest =>
    exact ⟨_, rfl, s.handle_pending _ _⟩
  | timebaseTick | detachTimerExpiry _ | ledgerRecordExpiry | responseTimeout _ | breakSpaceEnd _ | breakRecoveryEnd _
  | attentionLineChange _ _ | frameMalformed _ _ _ | frameAcpt _ _ _ | frameNeed _ _ _ | frameDin _ _ _ _ | frameWait _ _
  | frameEnd _ _ _ | frameSent _ | frameFirstStartBit _ | unbrokenMarkResync _ =>
    exact ⟨_, rfl, s.onBlocks_pending _⟩
  | frameAttn _ _ _ _ | frameEcho _ _ | memoryBurstResponse _ _ => exact ⟨_, rfl, s.onBlocksAsking_pending _⟩

end Sys2Proof.Machine
